-- ==== Sys2Proof/Word.lean ====
section
/-! DEFINITION. The plain words of the model: bytes, channel numbers, and a group of four like things
(the part has four channels, four separators, four decoders, four pending sets, four banks: 00_scope.md section 3). -/

namespace Sys2Proof

/-- One byte of a frame, of a profile image or of a sector. -/
abbrev Byte := BitVec 8

/-- A channel number 0..3, also the number of a bank (00_scope.md section 6.2). -/
abbrev Chan := Fin 4

/-- Four like things, one for each channel (or bank). -/
structure Quad (α : Type) where
  c0 : α
  c1 : α
  c2 : α
  c3 : α
  deriving DecidableEq, Repr

/-- A finite map from numbers held in one canonical form: keys strictly rising, no entry equal to the value an
unlisted key reads as. -/
abbrev SMap (α : Type) := List (Nat × α)

/-- The four channel numbers in ascending order. -/
def allChans : List Chan := [0, 1, 2, 3]

end Sys2Proof
end

