-- ==== Sys2Proof/Config.lean ====
section
/-! DEFINITION. What this implementation fixes (sizes, limits, identification) and the free values of the model. -/

namespace Sys2Proof.Config

/-- Records in the record store (R89). -/
def recordCount : Nat := 32768
/-- Bytes in a data area, and confidences in a confidence area, of image and candidate memory (R90, R112). -/
def areaSize : Nat := 1024
/-- Slots in one bank of candidate memory (R112). -/
def bankSlots : Nat := 1024
/-- Candidates a record may reference (R97). -/
def maxCandidates : Nat := 4
/-- Entries of the outbound queue (R162). -/
def outboundSize : Nat := 32
/-- Accepted, unanswered requests at most (R160). -/
def maxUnanswered : Nat := 8
/-- Entries a notice or SECTOR frame leaves free above the unanswered count (R162). -/
def noticeReserve : Nat := 4
/-- Entries of the fetch queue (R147). -/
def fetchQueueSize : Nat := 4
/-- Longest payload of a frame (R158). -/
def maxPayload : Nat := 2048
/-- Bytes of a version 1 profile image (R1). -/
def imageLength : Nat := 99
/-- Start-of-frame byte (R158). -/
def sof : Byte := 0xB7
/-- Part id of HELLO (R166). -/
def partId : Nat := 0x2C44
/-- Revision of HELLO (R166). -/
def revision : Nat := 1
/-- Ticks of the 40 MHz sample clock in one millisecond (00_scope.md section 6.1). -/
def ticksPerMs : Nat := 40000
/-- The hold time in milliseconds (R40). -/
def holdTime : Nat := 2000
/-- The longest presence probe in milliseconds (R23). -/
def probeTime : Nat := 100
/-- Step pulses a floppy recalibration may issue (R28). -/
def recalStepLimit : Nat := 100
/-- Lane-step pulses a cartridge recalibration may issue (R29). -/
def recalLaneLimit : Nat := 40
/-- The count at which the interval counter saturates (R36). -/
def counterMax : Nat := 65535
/-- Largest gap count (R67). -/
def gapCountMax : Nat := 4081
/-- Largest reading serial (R91). -/
def serialMax : Nat := 4294967295

/-- FREE VALUE (notes/assumptions/2.md).  R156: when an ABORT ends fetches, 'Either may be enqueued first', the ABORT reply or
the fetch replies.  The k-th such meeting is decided by this constant, of which nothing is known. -/
opaque abortReplyFirst : Nat → Bool

/-- FREE VALUE (notes/assumptions/27.md).  R153 and R162: where returned room is offered to the pending SUMMARY notices and to
the next frame of the active fetch, 'either may be taken first'.  Whether the frame comes first at the k-th such meeting is
decided by this constant, of which nothing is known. -/
opaque frameFirst : Nat → Bool

end Sys2Proof.Config
end

