-- ==== Sys2Proof/Syntax.lean ====
section
/-! DEFINITION. The commands: one constructor of `Instr` for each row of spec/opcode_table.json.

A request row stands for a frame of that kind RECEIVED WHOLE (R159, R160): its operands are the frame's tag and its
payload bytes as they came, so that the length test of R160 and every field test of the owning rule have something
to act on.  An event row carries the channel, the levels of that channel's input lines at the moment of the event
(`Lines`), or the sample-clock ticks that went by (R33, R36). -/

namespace Sys2Proof

/-- The levels of one channel connector's input lines and of its strap pin (R21, R22, R23).  `true` is asserted.
INDEX and READ DATA carry pulses, which are commands of their own. -/
structure Lines where
  /-- strap pin KIND: `false` low, FLOPPY; `true` high, CARTRIDGE -/
  kind : Bool
  ready : Bool
  track0 : Bool
  change : Bool
  lane0 : Bool
  bot : Bool
  eot : Bool
  present : Bool
  deriving DecidableEq, Repr

/-- All input lines released, KIND low. -/
def Lines.quiet : Lines :=
  { kind := false, ready := false, track0 := false, change := false, lane0 := false, bot := false, eot := false,
    present := false }

/-- What the part finds around and inside itself when self-test runs (R23, R66, R112, R165): the lines of the four
connectors, and whether each piece of hardware a stage tests works. -/
structure Environment where
  lines : Quad Lines
  tableRomOk : Bool
  imageMemoryOk : Bool
  banksOk : Quad Bool
  separatorsOk : Quad Bool
  deriving DecidableEq, Repr

/-- The commands of the part, one for each row of spec/opcode_table.json. -/
inductive Instr where
  | powerOnReset (env : Environment)
  | linkReset
  | enumeration
  | frameAbandoned (bytes : List Byte)
  | unknownKind (kind : Byte) (tag : Byte) (payload : List Byte)
  | ident (tag : Byte) (payload : List Byte)
  | status (tag : Byte) (payload : List Byte)
  | restart (tag : Byte) (payload : List Byte)
  | restartBegin (env : Environment)
  | profileLoad (tag : Byte) (payload : List Byte)
  | profileDrop (tag : Byte) (payload : List Byte)
  | profileList (tag : Byte) (payload : List Byte)
  | mount (tag : Byte) (payload : List Byte)
  | unmount (tag : Byte) (payload : List Byte)
  | exclude (tag : Byte) (payload : List Byte)
  | scan (tag : Byte) (payload : List Byte)
  | sectorInfo (tag : Byte) (payload : List Byte)
  | start (tag : Byte) (payload : List Byte)
  | pause (tag : Byte) (payload : List Byte)
  | abort (tag : Byte) (payload : List Byte)
  | extend (tag : Byte) (payload : List Byte)
  | trackInfo (tag : Byte) (payload : List Byte)
  | recal (tag : Byte) (payload : List Byte)
  | fetch (tag : Byte) (payload : List Byte)
  | outboundEntryLeft
  | fetchFrameOffer
  | presenceProbeEnd (ch : Chan) (lines : Lines)
  | spinupTimerExpiry (ch : Chan) (lines : Lines)
  | recalPulseDue (ch : Chan) (lines : Lines)
  | rewindBot (ch : Chan) (lines : Lines)
  | rewindTimerExpiry (ch : Chan) (lines : Lines)
  | seekPulseDue (ch : Chan) (lines : Lines)
  | settleTimerExpiry (ch : Chan) (lines : Lines)
  | windingBot (ch : Chan) (lines : Lines)
  | windingTimerExpiry (ch : Chan) (lines : Lines)
  | indexPulse (ch : Chan) (ticks : Nat)
  | indexWatchExpiry (ch : Chan) (lines : Lines)
  | startMarkerReleased (ch : Chan) (lines : Lines)
  | farMarkerAsserted (ch : Chan) (lines : Lines)
  | markerWatchExpiry (ch : Chan) (lines : Lines)
  | fluxTransition (ch : Chan) (ticks : Nat)
  | counterSaturation (ch : Chan)
  | holdTimerExpiry (ch : Chan) (lines : Lines)
  | readyFalling (ch : Chan) (lines : Lines)
  | mediaChange (ch : Chan) (lines : Lines)
  | passEndReport (ch : Chan)
  | cutReport (ch : Chan)
  | reading (ch : Chan)
  deriving DecidableEq, Repr

end Sys2Proof
end

