-- ==== Sys2Proof/WellFormed.lean ====
section
/-! DEFINITION. Which commands are well formed: a payload that a frame can carry, an unknown kind that is none of the request
kinds, an interval that lasted at least a tick.  `exec` is defined on every command; an ill-formed one is a command that
nothing outside the part can send. -/

namespace Sys2Proof

/-- The kinds of section 9.7. -/
def requestKinds : List Byte :=
  [0x01, 0x02, 0x03, 0x10, 0x11, 0x12, 0x20, 0x21, 0x22, 0x23, 0x24, 0x30, 0x31, 0x32, 0x33, 0x34, 0x38, 0x40]

/-- A payload of a length a frame may have (R158). -/
def payloadFits (payload : List Byte) : Bool := decide (payload.length ≤ Config.maxPayload)

/-- Well-formed commands. -/
def Instr.wellFormed : Instr → Bool
  | .powerOnReset _ => true
  | .linkReset => true
  | .enumeration => true
  | .frameAbandoned bytes => !bytes.isEmpty
  | .unknownKind kind _ payload => payloadFits payload && !requestKinds.contains kind
  | .ident _ payload => payloadFits payload
  | .status _ payload => payloadFits payload
  | .restart _ payload => payloadFits payload
  | .restartBegin _ => true
  | .profileLoad _ payload => payloadFits payload
  | .profileDrop _ payload => payloadFits payload
  | .profileList _ payload => payloadFits payload
  | .mount _ payload => payloadFits payload
  | .unmount _ payload => payloadFits payload
  | .exclude _ payload => payloadFits payload
  | .scan _ payload => payloadFits payload
  | .sectorInfo _ payload => payloadFits payload
  | .start _ payload => payloadFits payload
  | .pause _ payload => payloadFits payload
  | .abort _ payload => payloadFits payload
  | .extend _ payload => payloadFits payload
  | .trackInfo _ payload => payloadFits payload
  | .recal _ payload => payloadFits payload
  | .fetch _ payload => payloadFits payload
  | .outboundEntryLeft => true
  | .fetchFrameOffer => true
  | .presenceProbeEnd _ _ => true
  | .spinupTimerExpiry _ _ => true
  | .recalPulseDue _ _ => true
  | .rewindBot _ _ => true
  | .rewindTimerExpiry _ _ => true
  | .seekPulseDue _ _ => true
  | .settleTimerExpiry _ _ => true
  | .windingBot _ _ => true
  | .windingTimerExpiry _ _ => true
  | .indexPulse _ ticks => decide (0 < ticks)
  | .indexWatchExpiry _ _ => true
  | .startMarkerReleased _ _ => true
  | .farMarkerAsserted _ _ => true
  | .markerWatchExpiry _ _ => true
  | .fluxTransition _ ticks => decide (0 < ticks)
  | .counterSaturation _ => true
  | .holdTimerExpiry _ _ => true
  | .readyFalling _ _ => true
  | .mediaChange _ _ => true
  | .passEndReport _ => true
  | .cutReport _ => true
  | .reading _ => true

end Sys2Proof
end

