-- ==== Sys2Proof/Decode.lean ====
section
/-! DEFINITION. The command a word spells by the bits of spec/opcode_table.json. -/

namespace Sys2Proof

/-- The command a word spells.  No row of the table gives bits (every row's "fields" is empty and none has "fixed"), so no
word spells a command (notes/assumptions/5.md).  The frames of the USB pipe, which do carry the requests as bytes, are read by
the receiver in Machine/Link.lean. -/
def decodeTableWord (_nbits _w : Nat) : Option Instr := none

end Sys2Proof
end

