-- ==== Sys2Proof/Machine/State.lean ====
section
/-! DEFINITION. The state of the part, block by block, as plain data; its faults and refusals; and the state after reset.

Fields that the spec derives from other fields (unanswered, free, pool free count, usable capacity, free records, a held
profile's check) are functions in Machine/, not second copies.  Fields marked MODEL'S OWN are not the spec's. -/

namespace Sys2Proof.Machine

/-! ## Profile Store (R1 to R20) -/

/-- R2. -/
inductive Medium where
  | floppySoft | floppyHard | cartridge
  deriving DecidableEq, Repr

/-- R2. -/
inductive Encoding where
  | fm | mfm | gcr
  deriving DecidableEq, Repr

/-- R8. -/
inductive CheckType where
  | crc16 | xor8
  deriving DecidableEq, Repr

/-- R8. -/
inductive BitOrder where
  | msbFirst | lsbFirst
  deriving DecidableEq, Repr

/-- A header field descriptor (R7). -/
structure FieldDesc where
  offset : Nat
  width : Nat
  swap : Bool
  deriving DecidableEq, Repr

/-- The two masks of a mark class (R6). -/
structure MarkMask where
  mustOne : Byte
  mustZero : Byte
  deriving DecidableEq, Repr

/-- A profile in held form (R1 to R9, R17).  Signature, version and length are constants of the image; the held check is
computed (R17).  Cell k of a pattern is bit 31 - k of its word (R170). -/
structure Profile where
  name : List Byte
  medium : Medium
  encoding : Encoding
  cellPeriod : Nat
  window : Nat
  gain : Nat
  cylinders : Nat
  heads : Nat
  sectors : Nat
  sectorPulses : Nat
  rpm : Nat
  laneTime : Nat
  spinUp : Nat
  stepInterval : Nat
  settleTime : Nat
  syncLength : Nat
  syncPattern : BitVec 32
  syncRepeat : Nat
  endLength : Nat
  endPattern : BitVec 32
  headerMark : MarkMask
  dataMark : MarkMask
  deletedMark : MarkMask
  headerLength : Nat
  headerCheck : Bool
  cylField : FieldDesc
  headField : FieldDesc
  sectorField : FieldDesc
  sectorBase : Nat
  dataLength : Nat
  checkType : CheckType
  checkPreset : Nat
  gcrTable : List Byte
  bitOrder : BitOrder
  dataGapLimit : Nat
  quorum : Nat
  fusionSettles : Bool
  trackPassBudget : Nat
  wearBudget : Nat
  offsetCapable : Bool
  reverseAllowed : Bool
  deriving DecidableEq, Repr

/-- A profile slot (R10): EMPTY when `held` is `none`. -/
structure ProfileSlot where
  held : Option Profile
  useCount : Nat
  deriving DecidableEq, Repr

/-! ## Link Engine (R158 to R168) -/

/-- A frame of the outbound queue (R158): kind, tag and payload; SOF, length and check follow from them. -/
structure OutFrame where
  kind : Byte
  tag : Byte
  payload : List Byte
  deriving DecidableEq, Repr

/-- An entry of the request queue (R160, R161).  `id` is MODEL'S OWN: it names the entry, since tags need not differ. -/
structure RequestEntry where
  id : Nat
  kind : Byte
  tag : Byte
  deriving DecidableEq, Repr

/-- The kinds of notice a channel's pending set may hold (R163). -/
inductive NoticeKind where
  | pass | track | volume | fault | media
  deriving DecidableEq, Repr

/-- A pending set: a set of notice kinds (R163). -/
structure NoticeSet where
  pass : Bool
  track : Bool
  volume : Bool
  fault : Bool
  media : Bool
  deriving DecidableEq, Repr

/-- How far a RESTART has come (R168): not asked for; its reply waits in the outbound queue; the reply has left or was
cleared, so that the restart begins. -/
inductive RestartPhase where
  | idle | replyQueued | due
  deriving DecidableEq, Repr

/-- The Link Engine (R158 to R168). -/
structure Link where
  /-- the bytes the receiver holds, from the frame's SOF on: none in HUNT, fewer than five in HEADER, else BODY (R159) -/
  received : List Byte
  requests : List RequestEntry
  /-- MODEL'S OWN: the id the next accepted request takes -/
  nextId : Nat
  outbound : List OutFrame
  pendingSets : Quad NoticeSet
  linkErrors : Nat
  /-- set from ENUMERATION to the next link reset, RESTART or power-on reset (R164) -/
  enumerated : Bool
  restart : RestartPhase
  /-- MODEL'S OWN: meetings of pending SUMMARY notices with a frame of a fetch so far (Config.frameFirst) -/
  meetings : Nat
  deriving DecidableEq, Repr

/-- Self-test results (R165): bit k of a set is stage k of R172's stage set. -/
structure SelfTest where
  progress : BitVec 11
  failed : BitVec 11
  carried : Bool
  /-- the part is failed (R166) -/
  partFailed : Bool
  /-- the presence each CHANNEL stage recorded (R23, R165) -/
  presence : Quad Bool
  deriving DecidableEq, Repr

/-! ## Drive Channels (R21 to R49) -/

/-- The eleven channel states (R24). -/
inductive ChanState where
  | absent | idle | spinup | recal | seeking | settling | armed | capturing | winding | holding | faulted
  deriving DecidableEq, Repr

/-- R23. -/
inductive StrapKind where
  | floppy | cartridge
  deriving DecidableEq, Repr

/-- R24. -/
inductive TapeEnd where
  | none | bot | eot
  deriving DecidableEq, Repr

/-- The head offset level, -1, 0 or +1 (R24). -/
inductive Offset where
  | minus | zero | plus
  deriving DecidableEq, Repr

/-- R24, R43. -/
inductive FaultCode where
  | none | notReady | indexLost | markerLost | recalFailed
  deriving DecidableEq, Repr

/-- The direction of a pass (R26). -/
inductive Direction where
  | forward | reverse
  deriving DecidableEq, Repr

/-- The cause a report carries (R39, R42). -/
inductive Cause where
  | none | fault (code : FaultCode) | abort | media
  deriving DecidableEq, Repr

/-- A pass order of the planner (R136, section 2.3).  `volume` names the volume context the order is for. -/
structure PassOrder where
  volume : Nat
  track : Nat
  direction : Direction
  offset : Offset
  revolutions : Nat
  gain : Nat
  window : Nat
  passNumber : Nat
  deriving DecidableEq, Repr

/-- A pass in progress (R24): its order, the direction it is read in, whether a winding was begun for it (R32), the
revolutions completed (R37). -/
structure Pass where
  order : PassOrder
  direction : Direction
  windingBegun : Bool
  revolutionsDone : Nat
  deriving DecidableEq, Repr

/-- A pass-end or cut report (R39, R42): a pass-end report has cause NONE and outcome COMPLETED. -/
structure PassReport where
  volume : Nat
  track : Nat
  direction : Direction
  completed : Bool
  captureBegan : Bool
  units : Nat
  winding : Bool
  tapeEnd : TapeEnd
  cause : Cause
  deriving DecidableEq, Repr

/-- A RECAL request in flight (R24, R47): its request entry, its tag, and whether it was accepted with no volume mounted, so
that it keeps the largest times to its end. -/
structure RecalFlight where
  id : Nat
  tag : Byte
  noVolume : Bool
  deriving DecidableEq, Repr

/-- Where a recalibration stands (R28, R29): rewinding (cartridge), and the pulses issued so far. -/
structure RecalStage where
  rewinding : Bool
  pulses : Nat
  deriving DecidableEq, Repr

/-- The interval counter (R36): stopped outside capture; idle before the first transition; counting, with the ticks counted
so far; holding at 65535. -/
inductive IntervalCounter where
  | stopped | idle | counting (ticks : Nat) | held
  deriving DecidableEq, Repr

/-- R95, R6: the class of a data field. -/
inductive MarkClass where
  | data | deleted
  deriving DecidableEq, Repr

/-- A MOUNT that waits for its presence sense (R106 step 4). -/
structure MountRequest where
  id : Nat
  slot : Nat
  volumeTag : Nat
  verbose : Bool
  deriving DecidableEq, Repr

/-- What reaches a channel during a presence probe and is taken when the sense ends (R23). -/
inductive Deferred where
  | recal (id : Nat) (tag : Byte)
  | order (o : PassOrder)
  | media
  | mount (m : MountRequest)
  deriving DecidableEq, Repr

/-- A presence probe (R23): the MOUNT it senses for, and what waits for its end, in order of arrival. -/
structure Probe where
  mount : MountRequest
  deferred : List Deferred
  deriving DecidableEq, Repr

/-- The output lines of a channel (R21, R22, R25), `true` asserted.  `dir` is DIR on a floppy, LANE_DIR on a cartridge. -/
structure Outputs where
  motor : Bool
  load : Bool
  dir : Bool
  side : Bool
  offsetPlus : Bool
  offsetMinus : Bool
  runFwd : Bool
  runRev : Bool
  readEn : Bool
  deriving DecidableEq, Repr

/-- A Cell Separator (R50).  `period` is P, `none` while unset. -/
structure Separator where
  running : Bool
  period : Option Nat
  nominal : Nat
  window : Nat
  gain : Nat
  periodMin : Nat
  periodMax : Nat
  cellsMin : Nat
  cellsMax : Nat
  runtCarry : Nat
  windowHit : Bool
  deriving DecidableEq, Repr

/-- The kind of interval that made a cell (R61). -/
inductive CellKind where
  | normal | clamped | violation
  deriving DecidableEq, Repr

/-- A cell as the separator hands it (R61): value, quality 0..4, kind.  `interval` is MODEL'S OWN: it numbers the intervals
of a pass, so that an interval is counted once for a field (R86). -/
structure Cell where
  value : Bool
  quality : Nat
  kind : CellKind
  interval : Nat
  deriving DecidableEq, Repr

/-- R67. -/
inductive DecoderState where
  | hunt | mark | header | gap | data | blockRev
  deriving DecidableEq, Repr

/-- An assembled byte with its confidence (R64), as deposited in the block buffer. -/
structure Deposit where
  byte : Byte
  confidence : Nat
  deriving DecidableEq, Repr

/-- The held identity of an accepted header, with the header's fields (R67, R73); `sector` is `none` when the profile's
SECTOR field is absent. -/
structure HeldIdentity where
  sector : Option Nat
  cyl : Option Nat
  head : Option Nat
  deriving DecidableEq, Repr

/-- What is known of the field being assembled: no identity (an orphan, R79), found MISPLACED (R78), or its logical sector. -/
inductive FieldIdentity where
  | orphan | misplaced | sector (n : Nat)
  deriving DecidableEq, Repr

/-- The six per-pass tallies (R88). -/
structure Tallies where
  goodHeaders : Nat
  wrongTrack : Nat
  outOfGeometry : Nat
  badHeader : Nat
  orphans : Nat
  misplaced : Nat
  deriving DecidableEq, Repr

/-- A Field Decoder (R67). -/
structure Decoder where
  state : DecoderState
  direction : Direction
  track : Nat
  passNumber : Nat
  /-- the latest cells taken, latest first, at most 32 -/
  recent : List Bool
  syncRun : Nat
  /-- cells taken since the end of the last occurrence of the sync pattern (R69) -/
  sinceSync : Nat
  /-- the cells of the byte being assembled, earliest first; in MARK the cells since the last occurrence (R70) -/
  assembly : List Cell
  heldIdentity : Option HeldIdentity
  gapCount : Nat
  /-- the gap count as the first cell of the mark byte arrived (R75) -/
  markGap : Nat
  /-- the sector counter at the first cell of the mark byte (R78) -/
  markCounter : Nat
  rejectedWindow : Option Nat
  markClass : MarkClass
  identity : FieldIdentity
  /-- the deposited bytes, latest deposited first -/
  block : List Deposit
  cursor : Int
  violations : Nat
  clamped : Bool
  /-- the last VIOLATION interval counted for the field (R86) -/
  lastViolation : Option Nat
  /-- MODEL'S OWN: intervals handed so far in the pass -/
  intervals : Nat
  tallies : Tallies
  deriving DecidableEq, Repr

/-- A reading (R87), with the volume context it was read for and the mark byte and recorded check of R114. -/
structure Reading where
  volume : Nat
  sector : Nat
  passNumber : Nat
  markClass : MarkClass
  data : List Byte
  confidences : List Nat
  checkOk : Bool
  truncated : Bool
  clamped : Bool
  violations : Nat
  markByte : Byte
  recordedCheck : Nat
  deriving DecidableEq, Repr

/-- What a channel has handed on and what has not yet been taken, in order (R39, R120): readings for the Recovery Table,
reports for the Pass Planner.  A report stands behind the readings of its pass. -/
inductive Handed where
  | reading (r : Reading)
  | report (p : PassReport)
  deriving DecidableEq, Repr

/-- One channel: Drive Channel (R24), Cell Separator (R50), Field Decoder (R67), its pins, and what it has handed on. -/
structure Channel where
  state : ChanState
  kind : StrapKind
  position : Nat
  positionKnown : Bool
  headSelected : Nat
  tapeEnd : TapeEnd
  offset : Offset
  sectorCounter : Nat
  faultCode : FaultCode
  faultCount : Nat
  /-- milliseconds remaining while the hold timer runs (R40) -/
  holdTimer : Option Nat
  mediaSeen : Bool
  pass : Option Pass
  recal : Option RecalFlight
  heldOrder : Option PassOrder
  /-- the level DIR or LANE_DIR was last set to (R21, R22) -/
  dirAsserted : Bool
  /-- step pulses or an offset change were issued for the order or recalibration in hand (R26) -/
  moved : Bool
  /-- MODEL'S OWN: STEP or LANE_STEP pulses issued since reset -/
  pulses : Nat
  recalStage : Option RecalStage
  /-- ticks remaining of the timer that belongs to the state: spin-up, step interval, rewind, settle, winding, index
  watch or marker watch (R27 to R32, R37, R38, R43); and of a presence probe (R23) -/
  stageTimer : Option Nat
  counter : IntervalCounter
  /-- ticks since the last INDEX pulse; `none` while there has been none since MOTOR was asserted (R34) -/
  sincePulse : Option Nat
  /-- capture has ended on its last index pulse or far marker; HOLDING follows when the last reading is acknowledged
  (R39) -/
  completing : Bool
  probe : Option Probe
  inputs : Lines
  outputs : Outputs
  separator : Separator
  decoder : Decoder
  handed : List Handed
  deriving DecidableEq, Repr

/-! ## Candidate Pool and memories (R90, R112 to R119) -/

/-- A data area and a confidence area of 1024 positions each (R90, R112). -/
structure Area where
  data : List Byte
  confidences : List Nat
  deriving DecidableEq, Repr

/-- R96. -/
inductive Origin where
  | read | fused
  deriving DecidableEq, Repr

/-- The descriptor of a held slot (R96, R114).  `entered` is MODEL'S OWN: the order of entry that breaks R97's last tie. -/
structure Candidate where
  volume : Nat
  sector : Nat
  markClass : MarkClass
  checkOk : Bool
  origin : Origin
  matchCount : Nat
  score : Nat
  serial : Nat
  markByte : Byte
  recordedCheck : Nat
  entered : Nat
  deriving DecidableEq, Repr

/-- R119. -/
inductive FusionResult where
  | good | bad | tooFew
  deriving DecidableEq, Repr

/-- A fusion in progress on a scratch slot (R119). -/
structure Scratch where
  volume : Nat
  sector : Nat
  participants : List Nat
  data : List Byte
  confidences : List Nat
  markClass : MarkClass
  markByte : Byte
  check : Nat
  result : FusionResult
  deriving DecidableEq, Repr

/-- The Candidate Pool and candidate memory (R112 to R119). -/
structure Pool where
  bankPassed : Quad Bool
  /-- free usable slots, ascending -/
  freeList : List Nat
  /-- descriptors of held slots; an unlisted slot's descriptor is empty -/
  descriptors : SMap (Option Candidate)
  /-- the data and confidence positions of the slots -/
  memory : SMap Area
  scratch : Quad (Option Scratch)
  /-- MODEL'S OWN: candidates entered so far -/
  entries : Nat
  deriving DecidableEq, Repr

/-! ## Recovery Table and Pass Planner (R91 to R95, R129, R130) -/

/-- The six record states (R93). -/
inductive RecordState where
  | unseen | weak | contested | settled | lost | excluded
  deriving DecidableEq, Repr

/-- R93. -/
inductive SettledBy where
  | quorum | fusion
  deriving DecidableEq, Repr

/-- The four settled fields, present exactly while SETTLED (R93). -/
structure SettledInfo where
  by_ : SettledBy
  markClass : MarkClass
  pass : Nat
  matchCount : Nat
  deriving DecidableEq, Repr

/-- A sector record (R93).  `candidates` are slot numbers in rank order. -/
structure SectorRecord where
  state : RecordState
  candidates : List Nat
  fusionArmed : Bool
  reads : Nat
  settled : Option SettledInfo
  deletedSeen : Bool
  overflowed : Bool
  dissent : Bool
  truncatedSeen : Bool
  deriving DecidableEq, Repr

/-- The four counts of a track summary or of the totals (R94). -/
structure Counts where
  opn : Nat
  settled : Nat
  lost : Nat
  excluded : Nat
  deriving DecidableEq, Repr

/-- R129. -/
inductive RunState where
  | stopped | running | pausing | paused | complete | endedPartial | halted
  deriving DecidableEq, Repr

/-- R129. -/
inductive HaltReason where
  | none | fault (code : FaultCode) | mediaGone
  deriving DecidableEq, Repr

/-- R129. -/
inductive Phase where
  | survey | recovery
  deriving DecidableEq, Repr

/-- R129. -/
inductive Sweep where
  | up | down
  deriving DecidableEq, Repr

/-- R130. -/
inductive TrackState where
  | pending | active | done | exhausted
  deriving DecidableEq, Repr

/-- A track plan entry (R130). -/
structure TrackPlan where
  state : TrackState
  passesUsed : Nat
  ladderStep : Nat
  misplaced : Bool
  deriving DecidableEq, Repr

/-- The planner's part of a volume context (R129). -/
structure Planner where
  run : RunState
  halt : HaltReason
  phase : Phase
  surveyCursor : Nat
  sweep : Sweep
  currentTrack : Nat
  fruitful : Bool
  outstanding : Option Nat
  baseline : Nat
  passBudget : Nat
  wearUsed : Nat
  wearBudget : Nat
  pendingMap : List Bool
  tracks : List TrackPlan
  deriving DecidableEq, Repr

/-- A volume context (R91) with its records (R93), maps (R95) and summaries (R94).  `uid` is MODEL'S OWN: it tells one
volume from a later one on the same channel (R92). -/
structure Volume where
  uid : Nat
  slot : Nat
  tag : Nat
  verbose : Bool
  trackCount : Nat
  sectors : Nat
  dataLength : Nat
  base : Nat
  mediaGone : Bool
  serial : Nat
  totals : Counts
  /-- the sector indices whose bit is set, ascending -/
  settledMap : List Nat
  exclusionMap : List Nat
  summaries : List Counts
  /-- records by sector index; an unlisted record is as MOUNT set it -/
  records : SMap SectorRecord
  planner : Planner
  deriving DecidableEq, Repr

/-! ## Delivery Engine (R147) -/

/-- R148. -/
inductive FetchMode where
  | settledOnly | best
  deriving DecidableEq, Repr

/-- An entry of the fetch queue (R147).  `id` is its request entry; `volume` the context it serves. -/
structure FetchEntry where
  id : Nat
  tag : Byte
  channel : Chan
  volume : Nat
  first : Nat
  taken : Nat
  mode : FetchMode
  withConfidence : Bool
  next : Nat
  delivered : Nat
  waiting : Bool
  deriving DecidableEq, Repr

/-! ## The whole part -/

/-- The state of the part and the queue of commands that wait (first in, first out). -/
structure State where
  /-- MODEL'S OWN: the commands waiting, the front first -/
  pending : List Instr
  link : Link
  selfTest : SelfTest
  slots : List ProfileSlot
  channels : Quad Channel
  volumes : Quad (Option Volume)
  /-- image memory, by record number (R90) -/
  image : SMap Area
  pool : Pool
  fetches : List FetchEntry
  /-- MODEL'S OWN: the uid the next volume takes -/
  nextVolume : Nat
  /-- MODEL'S OWN: meetings of an ABORT reply with fetch replies so far (Config.abortReplyFirst) -/
  races : Nat
  deriving DecidableEq, Repr

/-- The part stops on no command: the spec gives every row of the table an effect, so there is no fault to raise. -/
inductive Fault where
  deriving DecidableEq, Repr

/-- Refusals. -/
inductive Refusal where
  /-- Raised by an arm of `exec` whose command has no meaning yet; no arm does.  Safe. -/
  | notModelled (mnemonic : String)
  deriving DecidableEq, Repr

/-! ## After reset -/

/-- All output lines released (R24). -/
def Outputs.released : Outputs :=
  { motor := false, load := false, dir := false, side := false, offsetPlus := false, offsetMinus := false,
    runFwd := false, runRev := false, readEn := false }

/-- R50.  DESIGN CHOICE (notes/assumptions/1.md): P0, W, G, the bounds and the legal lengths are 0 until a pass sets them. -/
def Separator.reset : Separator :=
  { running := false, period := none, nominal := 0, window := 0, gain := 0, periodMin := 0, periodMax := 0,
    cellsMin := 0, cellsMax := 0, runtCarry := 0, windowHit := false }

/-- R88. -/
def Tallies.zero : Tallies :=
  { goodHeaders := 0, wrongTrack := 0, outOfGeometry := 0, badHeader := 0, orphans := 0, misplaced := 0 }

/-- R67.  DESIGN CHOICE (notes/assumptions/1.md): direction, track, pass number, byte assembly, mark class, cursor and counts,
which R67 gives no reset value, are FORWARD, 0, 0, empty, DATA, 0 and 0. -/
def Decoder.reset : Decoder :=
  { state := .hunt, direction := .forward, track := 0, passNumber := 0, recent := [], syncRun := 0, sinceSync := 0,
    assembly := [], heldIdentity := none, gapCount := 0, markGap := 0, markCounter := 0, rejectedWindow := none,
    markClass := .data, identity := .orphan, block := [], cursor := 0, violations := 0, clamped := false,
    lastViolation := none, intervals := 0, tallies := .zero }

/-- R24, with no drive sensed and the KIND pin low. -/
def Channel.reset : Channel :=
  { state := .absent, kind := .floppy, position := 0, positionKnown := false, headSelected := 0, tapeEnd := .none,
    offset := .zero, sectorCounter := 0, faultCode := .none, faultCount := 0, holdTimer := none, mediaSeen := false,
    pass := none, recal := none, heldOrder := none, dirAsserted := false, moved := false, pulses := 0,
    recalStage := none, stageTimer := none, counter := .stopped, sincePulse := none, completing := false,
    probe := none, inputs := .quiet, outputs := .released, separator := .reset, decoder := .reset, handed := [] }

/-- R163: the empty pending set. -/
def NoticeSet.empty : NoticeSet :=
  { pass := false, track := false, volume := false, fault := false, media := false }

/-- R159, R162, R163: the Link Engine after power-on reset. -/
def Link.reset : Link :=
  { received := [], requests := [], nextId := 0, outbound := [],
    pendingSets := ⟨.empty, .empty, .empty, .empty⟩, linkErrors := 0, enumerated := false, restart := .idle,
    meetings := 0 }

/-- `count` slot numbers from `first` up. -/
def slotsFrom (first : Nat) : Nat → List Nat
  | 0 => []
  | count + 1 => first :: slotsFrom (first + 1) count

/-- R10: an EMPTY slot. -/
def ProfileSlot.empty : ProfileSlot := { held := none, useCount := 0 }

/-- R113: the pool with every bank passed and every slot free. -/
def Pool.reset : Pool :=
  { bankPassed := ⟨true, true, true, true⟩, freeList := slotsFrom 0 4096, descriptors := [], memory := [],
    scratch := ⟨none, none, none, none⟩, entries := 0 }

/-- The part right after power-on reset, before the function has enumerated: every self-test stage has run and passed, and
the sense has found no drive on any channel (R165).  DESIGN CHOICE (notes/assumptions/3.md): what self-test and the pins find
is the surroundings' to decide; here all hardware works, all KIND pins are low and all input lines are released. -/
def State.reset : State :=
  { pending := []
    link := .reset
    selfTest := { progress := 0x7FF, failed := 0, carried := false, partFailed := false,
                  presence := ⟨false, false, false, false⟩ }
    slots := [.empty, .empty, .empty, .empty, .empty, .empty, .empty, .empty]
    channels := ⟨.reset, .reset, .reset, .reset⟩
    volumes := ⟨none, none, none, none⟩
    image := []
    pool := .reset
    fetches := []
    nextVolume := 0
    races := 0 }

end Sys2Proof.Machine
end

