-- ==== Sys2Proof/Machine/Ops.lean ====
section
/-! DEFINITION. The shared operations every block uses: the containers, byte order, the CRC16, and the updates of the state's
blocks (each block is written through one of them only). -/

namespace Sys2Proof.Machine

/-! ## Four of a kind -/

/-- The i-th of four. -/
def qget {α : Type} (q : Quad α) (i : Chan) : α :=
  match i with
  | 0 => q.c0
  | 1 => q.c1
  | 2 => q.c2
  | 3 => q.c3

/-- The four with the i-th replaced. -/
def qset {α : Type} (q : Quad α) (i : Chan) (x : α) : Quad α :=
  match i with
  | 0 => { q with c0 := x }
  | 1 => { q with c1 := x }
  | 2 => { q with c2 := x }
  | 3 => { q with c3 := x }

/-- The four, each changed by `f`. -/
def qmap {α β : Type} (f : α → β) (q : Quad α) : Quad β := ⟨f q.c0, f q.c1, f q.c2, f q.c3⟩

/-- The four in ascending order. -/
def qlist {α : Type} (q : Quad α) : List α := [q.c0, q.c1, q.c2, q.c3]

/-! ## Finite maps in canonical form -/

/-- What key `k` holds; `d` where it is not listed. -/
def mapGet {α : Type} (d : α) : SMap α → Nat → α
  | [], _ => d
  | (k', v') :: m, k => if k = k' then v' else mapGet d m k

/-- The map with key `k` holding `v`: keys stay in rising order, and an entry equal to the default is not listed. -/
def mapSet {α : Type} [DecidableEq α] (d : α) : SMap α → Nat → α → SMap α
  | [], k, v => if v = d then [] else [(k, v)]
  | (k', v') :: m, k, v =>
    if k < k' then (if v = d then (k', v') :: m else (k, v) :: (k', v') :: m)
    else if k = k' then (if v = d then m else (k, v) :: m)
    else (k', v') :: mapSet d m k v

/-- The canonical form, with every key at or above `lo`. -/
def mapOkFrom {α : Type} [DecidableEq α] (d : α) : Nat → SMap α → Bool
  | _, [] => true
  | lo, (k, v) :: m => decide (lo ≤ k) && decide (v ≠ d) && mapOkFrom d (k + 1) m

/-- The canonical form of a map: keys strictly rising, no entry equal to the default. -/
def mapOk {α : Type} [DecidableEq α] (d : α) (m : SMap α) : Bool := mapOkFrom d 0 m

/-- A number put into an ascending list without duplicates. -/
def insertAsc : List Nat → Nat → List Nat
  | [], k => [k]
  | k' :: l, k => if k < k' then k :: k' :: l else if k = k' then k' :: l else k' :: insertAsc l k

/-- A list with its i-th entry changed by `f`. -/
def modifyAt {α : Type} (f : α → α) : List α → Nat → List α
  | [], _ => []
  | x :: l, 0 => f x :: l
  | x :: l, n + 1 => x :: modifyAt f l n

/-! ## Bytes, byte order, checks -/

/-- One byte. -/
def b1 (n : Nat) : List Byte := [BitVec.ofNat 8 n]

/-- Two bytes, little-endian (00_scope.md section 6.3). -/
def le2 (n : Nat) : List Byte := [BitVec.ofNat 8 n, BitVec.ofNat 8 (n / 256)]

/-- Four bytes, little-endian. -/
def le4 (n : Nat) : List Byte :=
  [BitVec.ofNat 8 n, BitVec.ofNat 8 (n / 256), BitVec.ofNat 8 (n / 65536), BitVec.ofNat 8 (n / 16777216)]

/-- A yes/no item: 1 for yes, set or present (R172). -/
def yesNo (b : Bool) : List Byte := if b then [1] else [0]

/-- The byte at offset `k`, as a number; 0 beyond the end. -/
def byteAt (l : List Byte) (k : Nat) : Nat := (l.getD k 0).toNat

/-- The little-endian 16-bit number at offset `k`. -/
def le2At (l : List Byte) (k : Nat) : Nat := byteAt l k + 256 * byteAt l (k + 1)

/-- The little-endian 32-bit number at offset `k`. -/
def le4At (l : List Byte) (k : Nat) : Nat := le2At l k + 65536 * le2At l (k + 2)

/-- One bit shifted through the CRC16 register: polynomial x^16 + x^12 + x^5 + 1 (00_scope.md section 7). -/
def crcShift (r : BitVec 16) : BitVec 16 :=
  if r.getLsbD 15 then (r <<< 1) ^^^ 0x1021 else r <<< 1

/-- One byte fed to the CRC16 register, most significant bit first. -/
def crcByte (r : BitVec 16) (b : Byte) : BitVec 16 :=
  let r0 := r ^^^ (b.zeroExtend 16 <<< 8)
  crcShift (crcShift (crcShift (crcShift (crcShift (crcShift (crcShift (crcShift r0)))))))

/-- The CRC16 of bytes in order, from a preset. -/
def crc16 (preset : Nat) (bytes : List Byte) : Nat := (bytes.foldl crcByte (BitVec.ofNat 16 preset)).toNat

/-- The exclusive-or of bytes (R8). -/
def xor8 (bytes : List Byte) : Nat := (bytes.foldl (· ^^^ ·) (0 : Byte)).toNat

/-- A check of the profile's type over bytes (R8, R72, R76, R125). -/
def mediumCheck (p : Profile) (bytes : List Byte) : Nat :=
  match p.checkType with
  | .crc16 => crc16 p.checkPreset bytes
  | .xor8 => xor8 bytes

/-- The bytes a check takes on the medium (R7, R8). -/
def checkBytes (p : Profile) : Nat :=
  match p.checkType with
  | .crc16 => 2
  | .xor8 => 1

/-- Check bytes read as one number, the first byte high (R72). -/
def bigEndian (bytes : List Byte) : Nat := bytes.foldl (fun a b => 256 * a + b.toNat) 0

/-- A count that saturates. -/
def satAdd (limit a b : Nat) : Nat := min limit (a + b)

/-! ## Writing the state, block by block -/

def State.setLink (s : State) (l : Link) : State := { s with link := l }
def State.setSlots (s : State) (l : List ProfileSlot) : State := { s with slots := l }
def State.setVolume (s : State) (ch : Chan) (v : Option Volume) : State :=
  { s with volumes := qset s.volumes ch v }
def State.setPool (s : State) (p : Pool) : State := { s with pool := p }
def State.setImage (s : State) (m : SMap Area) : State := { s with image := m }
def State.setFetches (s : State) (l : List FetchEntry) : State := { s with fetches := l }

/-- The channel with the given number. -/
def State.channel (s : State) (ch : Chan) : Channel := qget s.channels ch

/-- The volume mounted on a channel (R91). -/
def State.volume (s : State) (ch : Chan) : Option Volume := qget s.volumes ch

/-! ## Image and candidate memory -/

/-- What an area nothing has written reads as.  DESIGN CHOICE (notes/assumptions/4.md). -/
def blankArea : Area :=
  { data := List.replicate Config.areaSize 0, confidences := List.replicate Config.areaSize 0 }

/-- An area with its first positions overwritten, the positions beyond kept (R90, R114). -/
def Area.write (a : Area) (data : List Byte) (confidences : List Nat) : Area :=
  { data := data ++ a.data.drop data.length
    confidences := confidences ++ a.confidences.drop confidences.length }

/-- The area numbered `k` of a memory. -/
def areaOf (m : SMap Area) (k : Nat) : Area := mapGet blankArea m k

/-- The memory with the first positions of area `k` written. -/
def writeArea (m : SMap Area) (k : Nat) (data : List Byte) (confidences : List Nat) : SMap Area :=
  mapSet blankArea m k ((areaOf m k).write data confidences)

/-- Memory in canonical form. -/
def memoryOk (m : SMap Area) : Bool := mapOk blankArea m

end Sys2Proof.Machine
end

