-- ==== Sys2Proof/Machine/Flags.lean ====
section
/-! DEFINITION. The codings of statuses, enumerations, flags and sets carried in payloads (R169 to R172). -/

namespace Sys2Proof.Machine

/-- The statuses of R169. -/
inductive Status where
  | ok | unknownKind | badLength | queueFull | partFailed | badChannel | channelAbsent | noVolume | hasVolume
  | wrongMedium | busy | profileEmpty | profileInUse | profileBad | noRoom | range | mediaGone | faultLimit
  | alreadyDone | recalFailed | aborted | volumeGone
  deriving DecidableEq, Repr

/-- The status byte (R169). -/
def statusCode : Status → Nat
  | .ok => 0
  | .unknownKind => 1
  | .badLength => 2
  | .queueFull => 3
  | .partFailed => 4
  | .badChannel => 5
  | .channelAbsent => 6
  | .noVolume => 7
  | .hasVolume => 8
  | .wrongMedium => 9
  | .busy => 10
  | .profileEmpty => 11
  | .profileInUse => 12
  | .profileBad => 13
  | .noRoom => 14
  | .range => 15
  | .mediaGone => 16
  | .faultLimit => 17
  | .alreadyDone => 18
  | .recalFailed => 19
  | .aborted => 20
  | .volumeGone => 21

/-- The fault byte (R169). -/
def faultByte : FaultCode → Nat
  | .none => 0
  | .notReady => 1
  | .indexLost => 2
  | .markerLost => 3
  | .recalFailed => 4

/-- R172: channel state. -/
def chanStateByte : ChanState → Nat
  | .absent => 0
  | .idle => 1
  | .spinup => 2
  | .recal => 3
  | .seeking => 4
  | .settling => 5
  | .armed => 6
  | .capturing => 7
  | .winding => 8
  | .holding => 9
  | .faulted => 10

/-- R172: strap kind. -/
def strapByte : StrapKind → Nat
  | .floppy => 0
  | .cartridge => 1

/-- R172: tape end. -/
def tapeEndByte : TapeEnd → Nat
  | .none => 0
  | .bot => 1
  | .eot => 2

/-- R172: offset level. -/
def offsetByte : Offset → Nat
  | .minus => 0xFF
  | .zero => 0
  | .plus => 1

/-- R172: run state. -/
def runByte : RunState → Nat
  | .stopped => 0
  | .running => 1
  | .pausing => 2
  | .paused => 3
  | .complete => 4
  | .endedPartial => 5
  | .halted => 6

/-- R172: halt reason. -/
def haltByte : HaltReason → Nat
  | .none => 0
  | .fault c => faultByte c
  | .mediaGone => 5

/-- R172: phase. -/
def phaseByte : Phase → Nat
  | .survey => 0
  | .recovery => 1

/-- R172: track state. -/
def trackStateByte : TrackState → Nat
  | .pending => 0
  | .active => 1
  | .done => 2
  | .exhausted => 3

/-- R172: mark class, of a class that is present. -/
def markClassByte : MarkClass → Nat
  | .data => 1
  | .deleted => 2

/-- R172: origin. -/
def originByte : Origin → Nat
  | .read => 0
  | .fused => 1

/-- R172: cause. -/
def causeByte : Cause → Nat
  | .none => 0
  | .fault c => faultByte c
  | .abort => 5
  | .media => 6

/-- R171: record state. -/
def recordStateByte : RecordState → Nat
  | .unseen => 0
  | .weak => 1
  | .contested => 2
  | .settled => 3
  | .lost => 4
  | .excluded => 5

/-- R171: settled_by, of a record that is SETTLED. -/
def settledByByte : SettledBy → Nat
  | .quorum => 1
  | .fusion => 2

/-- R170: medium. -/
def mediumByte : Medium → Nat
  | .floppySoft => 0
  | .floppyHard => 1
  | .cartridge => 2

/-- R170: encoding. -/
def encodingByte : Encoding → Nat
  | .fm => 0
  | .mfm => 1
  | .gcr => 2

/-- R170: check type. -/
def checkTypeByte : CheckType → Nat
  | .crc16 => 0
  | .xor8 => 1

/-- R170: bit order. -/
def bitOrderByte : BitOrder → Nat
  | .msbFirst => 0
  | .lsbFirst => 1

/-- Bit `k` of a set byte, when `b`. -/
def flagBit (k : Nat) (b : Bool) : Nat := if b then 2 ^ k else 0

/-- The record flags, bits 0 to 3 (R171). -/
def recordFlags (r : SectorRecord) : Nat :=
  flagBit 0 r.deletedSeen + flagBit 1 r.overflowed + flagBit 2 r.dissent + flagBit 3 r.truncatedSeen

/-- R172: pending set. -/
def noticeSetByte (n : NoticeSet) : Nat :=
  flagBit 0 n.pass + flagBit 1 n.track + flagBit 2 n.volume + flagBit 3 n.fault + flagBit 4 n.media

/-- R172: channel set. -/
def channelSet (q : Quad Bool) : Nat := flagBit 0 q.c0 + flagBit 1 q.c1 + flagBit 2 q.c2 + flagBit 3 q.c3

/-- The fields R17 clamps and R18 names (bits of R172's clamped set). -/
structure ClampedSet where
  window : Bool
  gain : Bool
  spinUp : Bool
  step : Bool
  settle : Bool
  rpm : Bool
  laneTime : Bool
  quorum : Bool
  deriving DecidableEq, Repr

/-- R172: clamped set. -/
def clampedSetByte (c : ClampedSet) : Nat :=
  flagBit 0 c.window + flagBit 1 c.gain + flagBit 2 c.spinUp + flagBit 3 c.step + flagBit 4 c.settle +
    flagBit 5 c.rpm + flagBit 6 c.laneTime + flagBit 7 c.quorum

/-- The kind byte of a notice (R158). -/
def noticeByte : NoticeKind → Byte
  | .pass => 0x61
  | .track => 0x62
  | .volume => 0x63
  | .fault => 0x64
  | .media => 0x65

/-- A notice kind put into a pending set (R163). -/
def NoticeSet.add (n : NoticeSet) : NoticeKind → NoticeSet
  | .pass => { n with pass := true }
  | .track => { n with track := true }
  | .volume => { n with volume := true }
  | .fault => { n with fault := true }
  | .media => { n with media := true }

end Sys2Proof.Machine
end

