-- ==== Sys2Proof/Machine/Operands.lean ====
section
/-! DEFINITION. The operands of the requests: kinds and payload lengths (section 9.7), and the fields of each payload in the
order the owning rule names them. -/

namespace Sys2Proof.Machine

/-- The payload lengths a request kind takes, or `none` where the kind is not a request kind (section 9.7). -/
def requestLengths (kind : Byte) : Option (Nat × Nat) :=
  if kind = 0x01 then some (0, 0)
  else if kind = 0x02 then some (1, 1)
  else if kind = 0x03 then some (0, 0)
  else if kind = 0x10 then some (1, 2048)
  else if kind = 0x11 then some (1, 1)
  else if kind = 0x12 then some (1, 1)
  else if kind = 0x20 then some (7, 7)
  else if kind = 0x21 then some (1, 1)
  else if kind = 0x22 then some (6, 6)
  else if kind = 0x23 then some (5, 5)
  else if kind = 0x24 then some (3, 3)
  else if kind = 0x30 then some (1, 1)
  else if kind = 0x31 then some (1, 1)
  else if kind = 0x32 then some (1, 1)
  else if kind = 0x33 then some (4, 4)
  else if kind = 0x34 then some (3, 3)
  else if kind = 0x38 then some (1, 1)
  else if kind = 0x40 then some (6, 6)
  else none

/-- A channel number of a payload; `none` above 3. -/
def chanOf (n : Nat) : Option Chan := if h : n < 4 then some ⟨n, h⟩ else none

/-- The channel a payload opens with. -/
def payloadChan (payload : List Byte) : Option Chan := chanOf (byteAt payload 0)

/-- The operations of EXCLUDE (R108). -/
inductive ExcludeOp where
  | set | clear | toggle
  deriving DecidableEq, Repr

/-- EXCLUDE's operation byte (section 9.7). -/
def excludeOpOf : Nat → Option ExcludeOp
  | 0 => some .set
  | 1 => some .clear
  | 2 => some .toggle
  | _ => none

/-- SCAN's direction byte (section 9.7). -/
def scanDirOf : Nat → Option Sweep
  | 0 => some .up
  | 1 => some .down
  | _ => none

/-- The classes of R94 and SCAN (R110). -/
inductive RecordClass where
  | settled | opn | lost | excluded
  deriving DecidableEq, Repr

/-- SCAN's class byte (section 9.7). -/
def scanClassOf : Nat → Option RecordClass
  | 0 => some .settled
  | 1 => some .opn
  | 2 => some .lost
  | 3 => some .excluded
  | _ => none

/-- FETCH's mode byte (section 9.7). -/
def fetchModeOf : Nat → Option FetchMode
  | 0 => some .settledOnly
  | 1 => some .best
  | _ => none

/-- A yes/no byte: neither 0 nor 1 is refused by its owner. -/
def yesNoOf : Nat → Option Bool
  | 0 => some false
  | 1 => some true
  | _ => none

end Sys2Proof.Machine
end

