-- ==== Sys2Proof/Machine/Link.lean ====
section
/-! DEFINITION. The Link Engine: frames and receiver (R158, R159), acceptance and the reserve (R160, R161), the outbound queue
and notices (R162, R163), HELLO (R166, R174). -/

namespace Sys2Proof.Machine

/-! ## Frames (R158, R169) -/

/-- A frame as bytes: SOF, length, kind, tag, payload, check low byte first. -/
def frameBytes (f : OutFrame) : List Byte :=
  let body := le2 f.payload.length ++ [f.kind, f.tag] ++ f.payload
  Config.sof :: (body ++ le2 (crc16 0xFFFF body))

/-- What the receiver finds in the bytes of the OUT pipe (R159). -/
inductive Received where
  | frame (kind : Byte) (tag : Byte) (payload : List Byte)
  | abandoned
  deriving DecidableEq, Repr

/-- The receiver of R159 over bytes that begin in HUNT (after passing over `skip` bytes): what it finds, in order, and the
bytes it holds at the end (none in HUNT).  A frame abandoned at its header or its check gives back every byte after its SOF,
so the search goes on there. -/
def scanBytes : List Byte → Nat → List Received × List Byte
  | [], _ => ([], [])
  | _ :: rest, skip + 1 => scanBytes rest skip
  | b :: rest, 0 =>
    if b ≠ Config.sof then scanBytes rest 0
    else if rest.length < 4 then ([], b :: rest)
    else
      let len := le2At rest 0
      if Config.maxPayload < len then
        let found := scanBytes rest 0
        (.abandoned :: found.1, found.2)
      else if rest.length < len + 6 then ([], b :: rest)
      else if crc16 0xFFFF (rest.take (len + 4)) = le2At rest (len + 4) then
        let found := scanBytes rest (len + 6)
        (.frame (rest.getD 2 0) (rest.getD 3 0) ((rest.drop 4).take len) :: found.1, found.2)
      else
        let found := scanBytes rest 0
        (.abandoned :: found.1, found.2)

/-- The receiver's state (R159). -/
inductive ReceiverState where
  | hunt | header | body
  deriving DecidableEq, Repr

/-- The state the held bytes put the receiver in (R159). -/
def receiverState (l : Link) : ReceiverState :=
  if l.received = [] then .hunt else if l.received.length < 5 then .header else .body

/-! ## The queues -/

/-- Accepted requests whose replies have not been enqueued (R160). -/
def Link.unanswered (l : Link) : Nat := l.requests.length

/-- Outbound entries not in use (R160). -/
def Link.free (l : Link) : Nat := Config.outboundSize - l.outbound.length

/-- R162: after one more entry, free is at least unanswered plus 4. -/
def Link.noticeRoom (l : Link) : Bool :=
  decide (l.outbound.length + 1 + (l.unanswered + Config.noticeReserve) ≤ Config.outboundSize)

/-- A frame put at the end of the outbound queue. -/
def Link.enqueue (l : Link) (f : OutFrame) : Link := { l with outbound := l.outbound ++ [f] }

/-- The SUMMARY notice of a channel (R163, R174). -/
def summaryFrame (ch : Chan) (n : NoticeSet) : OutFrame :=
  { kind := 0x66, tag := 0, payload := b1 ch.val ++ b1 (noticeSetByte n) }

/-- SUMMARY notices offered for the channels listed, in order, until one finds no room (R163). -/
def Link.offerFrom (l : Link) : List Chan → Link
  | [] => l
  | ch :: rest =>
    if qget l.pendingSets ch = .empty then l.offerFrom rest
    else if l.noticeRoom then
      Link.offerFrom
        { l.enqueue (summaryFrame ch (qget l.pendingSets ch)) with
          pendingSets := qset l.pendingSets ch .empty } rest
    else l

/-- The pending SUMMARY notices offered (R163): not after a RESTART was taken (R168), not until the function has enumerated
(R164). -/
def Link.offerSummaries (l : Link) : Link :=
  if l.restart = .idle ∧ l.enumerated then l.offerFrom allChans else l

/-- A notice of a channel handed to the Link Engine (R163); discarded after a RESTART was taken (R168) and on a failed part
(R166); added to the pending set while the function has not enumerated (R164). -/
def Link.notify (l : Link) (failed : Bool) (ch : Chan) (k : NoticeKind) (payload : List Byte) : Link :=
  if failed ∨ l.restart ≠ .idle then l
  else
    let set := qget l.pendingSets ch
    let added := { l with pendingSets := qset l.pendingSets ch (set.add k) }
    if ¬ l.enumerated then added
    else if set = .empty then
      if l.noticeRoom then l.enqueue { kind := noticeByte k, tag := 0, payload := payload } else added
    else added.offerSummaries

/-- Whether a SUMMARY notice waits to be offered (R163, R164, R168). -/
def Link.summaryWaits (l : Link) : Bool :=
  decide (l.restart = .idle) && l.enumerated && allChans.any (fun ch => decide (qget l.pendingSets ch ≠ .empty))

/-- Room is reported (R162): the pending SUMMARY notices are offered.  Where a fetch stands in the fetch queue, its next frame is
offered the same room, and either may be taken first (R153): when the frame is, the SUMMARY notices wait for it.  FREE VALUE
(notes/assumptions/27.md). -/
def Link.reportRoom (l : Link) (fetching : Bool) : Link :=
  if fetching && l.summaryWaits then
    let met := { l with meetings := l.meetings + 1 }
    if Config.frameFirst l.meetings then met else met.offerSummaries
  else l.offerSummaries

/-! ## Requests and replies (R160, R161) -/

/-- The reply of an accepted request: its entry leaves the request queue, the frame is enqueued without a room test, and room
is reported (R161, R162).  A reply whose entry is no longer held is discarded. -/
def Link.reply (l : Link) (fetching : Bool) (id : Nat) (status : Status) (fields : List Byte) : Link :=
  match l.requests.find? (fun r => r.id == id) with
  | none => l
  | some r =>
    Link.reportRoom
      (Link.enqueue { l with requests := l.requests.eraseP (fun r => r.id == id) }
        { kind := r.kind + 0x80, tag := r.tag, payload := b1 (statusCode status) ++ fields }) fetching

/-- The refusal of a request that is not accepted, or its dropping for want of room (R160). -/
def Link.refuse (l : Link) (fetching : Bool) (kind tag : Byte) (status : Status) : Link :=
  if l.unanswered < l.free then
    (l.enqueue { kind := kind, tag := tag, payload := b1 (statusCode status) }).reportRoom fetching
  else { l with linkErrors := satAdd 65535 l.linkErrors 1 }

/-- A frame received whole, tested (R160).  The answer names the entry of an accepted request.  The receiver is in HUNT
after it (R159).  After a RESTART was taken the frame is discarded (R168). -/
def Link.takeFrame (l0 : Link) (failed fetching : Bool) (kind tag : Byte) (payload : List Byte) : Link × Option Nat :=
  let l := { l0 with received := [] }
  if l.restart ≠ .idle then (l, none)
  else
    match requestLengths kind with
    | none => (l.refuse fetching 0xFF tag .unknownKind, none)
    | some (least, most) =>
      if payload.length < least ∨ most < payload.length then (l.refuse fetching (kind + 0x80) tag .badLength, none)
      else if failed ∧ kind ≠ 0x01 ∧ kind ≠ 0x03 then (l.refuse fetching (kind + 0x80) tag .partFailed, none)
      else if l.unanswered < Config.maxUnanswered ∧ l.unanswered < l.free then
        ({ l with requests := l.requests ++ [{ id := l.nextId, kind := kind, tag := tag }]
                  nextId := l.nextId + 1 }, some l.nextId)
      else (l.refuse fetching (kind + 0x80) tag .queueFull, none)

/-- The receiver's abandoning of a frame, counted (R159). -/
def Link.countError (l : Link) : Link := { l with linkErrors := satAdd 65535 l.linkErrors 1 }

/-- The Link Engine after a link reset (R164): a RESTART whose reply the reset clears from the queue begins (R168). -/
def Link.linkReset (l : Link) : Link :=
  { l with
    received := [], requests := [], outbound := []
    pendingSets := ⟨.empty, .empty, .empty, .empty⟩
    enumerated := false
    restart := if l.restart = .idle then .idle else .due }

/-- The reply to a RESTART, as it stands in the outbound queue (R168). -/
def Link.isRestartReply (l : Link) (f : OutFrame) : Bool :=
  decide (l.restart = .replyQueued) && decide (f.kind = 0x83) && decide (f.payload = b1 (statusCode .ok))

/-- The IN pipe takes the last byte of the entry at the head of the queue (R162): room is reported, and a RESTART begins when
it was its reply (R168).  The pipe takes nothing before the function has enumerated (R164), nor once a restart has begun. -/
def Link.entryLeft (l : Link) (fetching : Bool) : Link :=
  if ¬ l.enumerated ∨ l.restart = .due then l
  else
    match l.outbound with
    | [] => l
    | f :: rest =>
      if l.isRestartReply f then { l with outbound := rest, restart := .due }
      else Link.reportRoom { l with outbound := rest } fetching

/-! ## The state's Link Engine -/

/-- A fetch stands in the fetch queue (R147). -/
def State.fetching (s : State) : Bool := !s.fetches.isEmpty

def State.reply (s : State) (id : Nat) (status : Status) (fields : List Byte) : State :=
  s.setLink (s.link.reply s.fetching id status fields)

def State.notify (s : State) (ch : Chan) (k : NoticeKind) (payload : List Byte) : State :=
  s.setLink (s.link.notify s.selfTest.partFailed ch k payload)

/-- A request frame received whole: tested, and served by its owner when accepted (R160, R161). -/
def State.withRequest (s : State) (kind tag : Byte) (payload : List Byte) (serve : State → Nat → State) : State :=
  let a := s.link.takeFrame s.selfTest.partFailed s.fetching kind tag payload
  match a.2 with
  | none => s.setLink a.1
  | some id => serve (s.setLink a.1) id

/-- A request that names a volume by its channel (5.8, 7.7): BAD_CHANNEL and NO_VOLUME come before its own tests. -/
def State.withVolume (s : State) (id : Nat) (payload : List Byte) (serve : Chan → Volume → State) : State :=
  match payloadChan payload with
  | none => s.reply id .badChannel []
  | some ch =>
    match s.volume ch with
    | none => s.reply id .noVolume []
    | some v => serve ch v

/-- Banks of candidate memory that passed self-test (R112). -/
def Pool.banksPassed (p : Pool) : Nat := (qlist p.bankPassed).countP (fun b => b)

/-- The usable capacity of the pool (R112). -/
def Pool.capacity (p : Pool) : Nat := Config.bankSlots * p.banksPassed

/-- The contents of HELLO (R166, R174), as they now stand: a channel is present when its state is not ABSENT (R167).  DEDUCED
(notes/assumptions/6.md). -/
def helloPayload (s : State) : List Byte :=
  le2 Config.partId ++ b1 Config.revision ++ le2 s.selfTest.progress.toNat ++ le2 s.selfTest.failed.toNat ++
    yesNo s.selfTest.carried ++
    b1 (channelSet (qmap (fun c => decide (c.state ≠ .absent)) s.channels)) ++
    b1 (channelSet (qmap (fun c => decide (c.kind = .cartridge)) s.channels)) ++
    yesNo s.selfTest.partFailed ++ le2 s.pool.capacity

/-- The function has enumerated (R164, R166): HELLO goes in as the first entry of the queue, then the pending SUMMARY notices
are offered.  HELLO finds room whenever the queue is as a reset leaves it (notes/assumptions/7.md).  A part whose restart has
begun has detached (R168) and enumerates only after it. -/
def State.enumerate (s : State) : State :=
  if s.link.restart = .due then s
  else
    let l := { s.link with enumerated := true }
    let hello : OutFrame := { kind := 0x60, tag := 0, payload := helloPayload s }
    s.setLink (if l.unanswered < l.free then { l with outbound := hello :: l.outbound } else l).offerSummaries

end Sys2Proof.Machine
end

