-- ==== Sys2Proof/Machine/Profiles.lean ====
section
/-! DEFINITION. The Profile Store: the profile image and its layout (R1 to R9, R170), validation (R13 to R16), the held form
(R17), slots and use counts (R10 to R12), and the three profile requests (R18 to R20). -/

namespace Sys2Proof.Machine

/-! ## Image layout (R170) -/

/-- Medium byte 0, 1 or 2; FLOPPY_SOFT for any other value, which validation has refused. -/
def mediumOf : Nat → Medium
  | 1 => .floppyHard
  | 2 => .cartridge
  | _ => .floppySoft

/-- Encoding byte. -/
def encodingOf : Nat → Encoding
  | 1 => .mfm
  | 2 => .gcr
  | _ => .fm

/-- Check type byte. -/
def checkTypeOf : Nat → CheckType
  | 1 => .xor8
  | _ => .crc16

/-- Bit order byte. -/
def bitOrderOf : Nat → BitOrder
  | 1 => .lsbFirst
  | _ => .msbFirst

/-- A pattern of 32 cells in four bytes, the first cell the most significant bit of the first byte. -/
def patternAt (img : List Byte) (k : Nat) : BitVec 32 :=
  BitVec.ofNat 32 (16777216 * byteAt img k + 65536 * byteAt img (k + 1) + 256 * byteAt img (k + 2) + byteAt img (k + 3))

/-- The four bytes of a pattern. -/
def patternBytes (p : BitVec 32) : List Byte :=
  [BitVec.ofNat 8 (p.toNat / 16777216), BitVec.ofNat 8 (p.toNat / 65536), BitVec.ofNat 8 (p.toNat / 256),
    BitVec.ofNat 8 p.toNat]

/-- The significant cells of a pattern in recording order (R5). -/
def patternCells (p : BitVec 32) (length : Nat) : List Bool :=
  (List.range length).map (fun k => p.getMsbD k)

/-- The mark masks at an offset. -/
def markMaskAt (img : List Byte) (k : Nat) : MarkMask :=
  { mustOne := img.getD k 0, mustZero := img.getD (k + 1) 0 }

/-- The field descriptor at an offset. -/
def fieldDescAt (img : List Byte) (k : Nat) : FieldDesc :=
  { offset := byteAt img k, width := byteAt img (k + 1), swap := byteAt img (k + 2) == 1 }

/-- The fields of an image, as received (R170). -/
def profileOfImage (img : List Byte) : Profile where
  name := (img.drop 7).take 12
  medium := mediumOf (byteAt img 21)
  encoding := encodingOf (byteAt img 22)
  cellPeriod := le2At img 23
  window := byteAt img 25
  gain := byteAt img 26
  cylinders := byteAt img 27
  heads := byteAt img 28
  sectors := le2At img 29
  sectorPulses := byteAt img 31
  rpm := le2At img 32
  laneTime := le2At img 34
  spinUp := le2At img 36
  stepInterval := byteAt img 38
  settleTime := byteAt img 39
  syncLength := byteAt img 40
  syncPattern := patternAt img 41
  syncRepeat := byteAt img 45
  endLength := byteAt img 46
  endPattern := patternAt img 47
  headerMark := markMaskAt img 51
  dataMark := markMaskAt img 53
  deletedMark := markMaskAt img 55
  headerLength := byteAt img 57
  headerCheck := byteAt img 58 == 1
  cylField := fieldDescAt img 59
  headField := fieldDescAt img 62
  sectorField := fieldDescAt img 65
  sectorBase := byteAt img 68
  dataLength := le2At img 69
  checkType := checkTypeOf (byteAt img 71)
  checkPreset := le2At img 72
  gcrTable := (img.drop 74).take 16
  bitOrder := bitOrderOf (byteAt img 90)
  dataGapLimit := byteAt img 91
  quorum := byteAt img 92
  fusionSettles := byteAt img 93 == 1
  trackPassBudget := byteAt img 94
  wearBudget := le2At img 95
  offsetCapable := byteAt img 97 == 1
  reverseAllowed := byteAt img 98 == 1

/-- The two masks of a mark class as bytes. -/
def markMaskBytes (m : MarkMask) : List Byte := [m.mustOne, m.mustZero]

/-- A field descriptor as bytes. -/
def fieldDescBytes (f : FieldDesc) : List Byte := b1 f.offset ++ b1 f.width ++ yesNo f.swap

/-- The bytes of an image before its check field: signature, version, length, name. -/
def imageHead (p : Profile) : List Byte := [0x49, 0x5A, 0x50, 0x46, 0x01] ++ le2 Config.imageLength ++ p.name

/-- The bytes of an image after its check field. -/
def imageTail (p : Profile) : List Byte :=
  b1 (mediumByte p.medium) ++ b1 (encodingByte p.encoding) ++ le2 p.cellPeriod ++ b1 p.window ++ b1 p.gain ++
    b1 p.cylinders ++ b1 p.heads ++ le2 p.sectors ++ b1 p.sectorPulses ++ le2 p.rpm ++ le2 p.laneTime ++
    le2 p.spinUp ++ b1 p.stepInterval ++ b1 p.settleTime ++ b1 p.syncLength ++ patternBytes p.syncPattern ++
    b1 p.syncRepeat ++ b1 p.endLength ++ patternBytes p.endPattern ++ markMaskBytes p.headerMark ++
    markMaskBytes p.dataMark ++ markMaskBytes p.deletedMark ++ b1 p.headerLength ++ yesNo p.headerCheck ++
    fieldDescBytes p.cylField ++ fieldDescBytes p.headField ++ fieldDescBytes p.sectorField ++ b1 p.sectorBase ++
    le2 p.dataLength ++ b1 (checkTypeByte p.checkType) ++ le2 p.checkPreset ++ p.gcrTable ++
    b1 (bitOrderByte p.bitOrder) ++ b1 p.dataGapLimit ++ b1 p.quorum ++ yesNo p.fusionSettles ++
    b1 p.trackPassBudget ++ le2 p.wearBudget ++ yesNo p.offsetCapable ++ yesNo p.reverseAllowed

/-- The held check: CRC16 over every image byte but the two check bytes (R1, R17). -/
def heldCheck (p : Profile) : Nat := crc16 0xFFFF (imageHead p ++ imageTail p)

/-- The held image (R17, R20). -/
def imageOfProfile (p : Profile) : List Byte := imageHead p ++ le2 (heldCheck p) ++ imageTail p

/-! ## Facts of a profile -/

/-- T, the track count (R4). -/
def trackCountOf (p : Profile) : Nat := p.cylinders * p.heads

/-- nmin and nmax (R2, R51). -/
def legalCells : Encoding → Nat × Nat
  | .fm => (1, 2)
  | .mfm => (2, 4)
  | .gcr => (1, 3)

/-- Cells in a byte (R2). -/
def cellsPerByte : Encoding → Nat
  | .fm => 16
  | .mfm => 16
  | .gcr => 10

/-- The strap kind a medium needs (R2, R106). -/
def strapNeeded : Medium → StrapKind
  | .floppySoft => .floppy
  | .floppyHard => .floppy
  | .cartridge => .cartridge

/-- Bytes of the header check (R7). -/
def headerCheckBytes (p : Profile) : Nat := if p.headerCheck then checkBytes p else 0

/-- A mark class with both masks 0 is unused (R6). -/
def MarkMask.used (m : MarkMask) : Bool := decide (m.mustOne ≠ 0) || decide (m.mustZero ≠ 0)

/-- A used class matches a mark byte when its must-one bits are 1 and its must-zero bits 0 (R6). -/
def MarkMask.fits (m : MarkMask) (b : Byte) : Bool :=
  m.used && decide (b &&& m.mustOne = m.mustOne) && decide (b &&& m.mustZero = 0)

/-! ## Validation (R13 to R16) -/

/-- A value within limits, both included. -/
def within (n least most : Nat) : Bool := decide (least ≤ n) && decide (n ≤ most)

/-- R13, steps 1 to 4.  Every step reads its field where the layout places it and fails when the field lies beyond the bytes
received. -/
def signatureOk (img : List Byte) : Bool := decide (img.take 4 = [0x49, 0x5A, 0x50, 0x46])
def versionOk (img : List Byte) : Bool := decide (5 ≤ img.length) && byteAt img 4 == 1
def lengthOk (img : List Byte) : Bool :=
  decide (7 ≤ img.length) && le2At img 5 == Config.imageLength && decide (img.length = Config.imageLength)
def checkOkOf (img : List Byte) : Bool :=
  decide (21 ≤ img.length) && crc16 0xFFFF (img.take 19 ++ img.drop 21) == le2At img 19

/-- R14, step 5. -/
def mediumOk (img : List Byte) : Bool :=
  within (byteAt img 21) 0 2 && within (byteAt img 22) 0 2 && within (byteAt img 71) 0 1 && within (byteAt img 90) 0 1 &&
    within (byteAt img 58) 0 1 && within (byteAt img 93) 0 1 && within (byteAt img 97) 0 1 &&
    within (byteAt img 98) 0 1 && within (byteAt img 61) 0 1 && within (byteAt img 64) 0 1 &&
    within (byteAt img 67) 0 1 && (byteAt img 98 == 0 || byteAt img 21 == 2)

/-- R14, step 6. -/
def geometryOk (p : Profile) : Bool :=
  within p.cellPeriod 320 8000 && within p.cylinders 1 255 && within p.heads 1 2 &&
    (decide (p.medium ≠ .cartridge) || p.heads == 1) && decide (trackCountOf p ≤ 512) && within p.sectors 1 1024 &&
    decide (trackCountOf p * p.sectors ≤ Config.recordCount) &&
    (match p.medium with
     | .floppyHard => within p.sectorPulses 1 32 && p.sectorPulses == p.sectors
     | .floppySoft => p.sectorPulses == 0
     | .cartridge => p.sectorPulses == 0)

/-- R14, step 7. -/
def syncOk (p : Profile) : Bool :=
  within p.syncLength 1 32 && (patternCells p.syncPattern p.syncLength).contains true && within p.syncRepeat 1 4 &&
    (match p.medium with
     | .cartridge => within p.endLength 1 32 && (patternCells p.endPattern p.endLength).contains true
     | .floppySoft => p.endLength == 0
     | .floppyHard => p.endLength == 0)

/-- R14, step 8. -/
def marksOk (p : Profile) : Bool :=
  decide (p.headerMark.mustOne &&& p.headerMark.mustZero = 0) &&
    decide (p.dataMark.mustOne &&& p.dataMark.mustZero = 0) &&
    decide (p.deletedMark.mustOne &&& p.deletedMark.mustZero = 0) && p.dataMark.used &&
    (match p.medium with
     | .floppySoft => p.headerMark.used
     | .cartridge => !p.headerMark.used
     | .floppyHard => true)

/-- The tests of one field descriptor (R15). -/
def fieldOk (f : FieldDesc) (headerLength : Nat) : Bool :=
  within f.width 0 16 && within f.offset 0 95 && (f.width == 0 || decide (f.offset + f.width ≤ 8 * headerLength)) &&
    (!f.swap || within f.width 9 16) && (!f.swap || decide (f.offset + 16 ≤ 8 * headerLength))

/-- R15, step 9. -/
def fieldsOk (p : Profile) : Bool :=
  within p.headerLength 0 12 &&
    (match p.medium with
     | .floppyHard => p.headerMark.used == decide (0 < p.headerLength)
     | .floppySoft => decide (0 < p.headerLength)
     | .cartridge => decide (0 < p.headerLength)) &&
    (!p.headerCheck || decide (0 < p.headerLength)) && within p.dataGapLimit 1 255 &&
    fieldOk p.cylField p.headerLength && fieldOk p.headField p.headerLength && fieldOk p.sectorField p.headerLength &&
    (decide (p.medium = .floppyHard) || decide (0 < p.sectorField.width))

/-- R16, step 10. -/
def dataLengthOk (p : Profile) : Bool := within p.dataLength 1 1024

/-- A list without duplicates. -/
def distinct : List Byte → Bool
  | [] => true
  | b :: l => !l.contains b && distinct l

/-- R16, step 11. -/
def gcrOk (p : Profile) : Bool :=
  match p.encoding with
  | .gcr => p.gcrTable.all (fun c => within c.toNat 1 31) && distinct p.gcrTable
  | .fm => true
  | .mfm => true

/-- The number of the first test that fails, counted from `n`. -/
def firstFailure : Nat → List Bool → Option Nat
  | _, [] => none
  | n, ok :: rest => if ok then firstFailure (n + 1) rest else some n

/-- The eleven steps in order; the answer is the reason of the first that fails (R13 to R16, R169). -/
def validate (img : List Byte) : Option Nat :=
  let p := profileOfImage img
  firstFailure 1
    [signatureOk img, versionOk img, lengthOk img, checkOkOf img, mediumOk img, geometryOk p, syncOk p, marksOk p,
      fieldsOk p, dataLengthOk p, gcrOk p]

/-! ## Held form (R17) -/

/-- A value moved to the nearest limit of its range. -/
def clampTo (n least most : Nat) : Nat := min (max n least) most

/-- The profile in held form. -/
def heldForm (p : Profile) : Profile :=
  { p with
    window := clampTo p.window 1 16
    gain := clampTo p.gain 1 63
    spinUp := clampTo p.spinUp 100 1000
    stepInterval := clampTo p.stepInterval 2 20
    settleTime := clampTo p.settleTime 5 50
    rpm := clampTo p.rpm 150 600
    laneTime := clampTo p.laneTime 1 600
    quorum := clampTo p.quorum 1 7
    trackPassBudget := if p.trackPassBudget = 0 then 255 else p.trackPassBudget
    wearBudget := if p.wearBudget = 0 then 65535 else p.wearBudget }

/-- The fields that clamping changed (R17, R18). -/
def clampedSet (p : Profile) : ClampedSet :=
  { window := decide (clampTo p.window 1 16 ≠ p.window)
    gain := decide (clampTo p.gain 1 63 ≠ p.gain)
    spinUp := decide (clampTo p.spinUp 100 1000 ≠ p.spinUp)
    step := decide (clampTo p.stepInterval 2 20 ≠ p.stepInterval)
    settle := decide (clampTo p.settleTime 5 50 ≠ p.settleTime)
    rpm := decide (clampTo p.rpm 150 600 ≠ p.rpm)
    laneTime := decide (clampTo p.laneTime 1 600 ≠ p.laneTime)
    quorum := decide (clampTo p.quorum 1 7 ≠ p.quorum) }

/-! ## Slots (R10 to R12) -/

/-- The slot with a number; a number above 7 is answered as EMPTY (R12). -/
def State.slot (s : State) (n : Nat) : ProfileSlot := s.slots.getD n .empty

/-- A slot's use count raised by 1 (R11). -/
def State.raiseUse (s : State) (n : Nat) : State :=
  s.setSlots (modifyAt (fun q => { q with useCount := q.useCount + 1 }) s.slots n)

/-- A slot's use count lowered by 1 (R11). -/
def State.lowerUse (s : State) (n : Nat) : State :=
  s.setSlots (modifyAt (fun q => { q with useCount := q.useCount - 1 }) s.slots n)

/-- The profile of the volume mounted on a channel (R12). -/
def State.mountedProfile (s : State) (ch : Chan) : Option Profile :=
  match s.volume ch with
  | none => none
  | some v => (s.slot v.slot).held

/-- What a recalibration accepted with no volume mounted works by: the largest held spin-up time, step interval and lane time
(R47).  Its other fields are not used. -/
def noVolumeProfile : Profile where
  name := []
  medium := .floppySoft
  encoding := .fm
  cellPeriod := 320
  window := 1
  gain := 1
  cylinders := 1
  heads := 1
  sectors := 1
  sectorPulses := 0
  rpm := 150
  laneTime := 600
  spinUp := 1000
  stepInterval := 20
  settleTime := 50
  syncLength := 1
  syncPattern := 0
  syncRepeat := 1
  endLength := 0
  endPattern := 0
  headerMark := { mustOne := 0, mustZero := 0 }
  dataMark := { mustOne := 0, mustZero := 0 }
  deletedMark := { mustOne := 0, mustZero := 0 }
  headerLength := 0
  headerCheck := false
  cylField := { offset := 0, width := 0, swap := false }
  headField := { offset := 0, width := 0, swap := false }
  sectorField := { offset := 0, width := 0, swap := false }
  sectorBase := 0
  dataLength := 1
  checkType := .crc16
  checkPreset := 0
  gcrTable := []
  bitOrder := .msbFirst
  dataGapLimit := 1
  quorum := 1
  fusionSettles := false
  trackPassBudget := 255
  wearBudget := 65535
  offsetCapable := false
  reverseAllowed := false

/-- The profile a channel works by: its volume's, or that of R47 where it has none. -/
def State.chanProfile (s : State) (ch : Chan) : Profile := (s.mountedProfile ch).getD noVolumeProfile

/-! ## Requests (R18 to R20) -/

/-- PROFILE_LOAD (R18). -/
def State.serveProfileLoad (s : State) (id : Nat) (payload : List Byte) : State :=
  let n := byteAt payload 0
  let img := payload.drop 1
  if 7 < n then s.reply id .range []
  else if 0 < (s.slot n).useCount then s.reply id .profileInUse []
  else
    match validate img with
    | some reason => s.reply id .profileBad (b1 reason)
    | none =>
      let received := profileOfImage img
      let held := heldForm received
      (s.setSlots (s.slots.set n { held := some held, useCount := 0 })).reply id .ok
        (b1 n ++ b1 (clampedSetByte (clampedSet received)) ++ le2 (heldCheck held))

/-- PROFILE_DROP (R19). -/
def State.serveProfileDrop (s : State) (id : Nat) (payload : List Byte) : State :=
  let n := byteAt payload 0
  if 7 < n then s.reply id .range []
  else if (s.slot n).held = none then s.reply id .profileEmpty []
  else if 0 < (s.slot n).useCount then s.reply id .profileInUse []
  else (s.setSlots (s.slots.set n .empty)).reply id .ok []

/-- State and use count of a slot (R20). -/
def slotHead (q : ProfileSlot) : List Byte := yesNo q.held.isSome ++ b1 q.useCount

/-- One slot with its held image (R20, R173). -/
def slotWhole (q : ProfileSlot) : List Byte :=
  slotHead q ++
    (match q.held with
     | none => []
     | some p => imageOfProfile p)

/-- One entry of the listing of all slots (R20, R173). -/
def slotEntry (q : ProfileSlot) : List Byte :=
  slotHead q ++
    (match q.held with
     | none => List.replicate 20 0
     | some p =>
       p.name ++ b1 (mediumByte p.medium) ++ b1 (encodingByte p.encoding) ++ le2 (trackCountOf p) ++ le2 p.sectors ++
         le2 p.dataLength)

/-- PROFILE_LIST (R20). -/
def State.serveProfileList (s : State) (id : Nat) (payload : List Byte) : State :=
  let n := byteAt payload 0
  if n = 0xFF then s.reply id .ok ((List.range 8).flatMap (fun k => slotEntry (s.slot k)))
  else if 7 < n then s.reply id .range []
  else s.reply id .ok (slotWhole (s.slot n))

/-! ## Commands -/

/-- PROFILE_LOAD (R18). -/
def execProfileLoad (tag : Byte) (payload : List Byte) (s : State) : Host.Outcome State Fault Refusal :=
  .next (s.withRequest 0x10 tag payload (fun t id => t.serveProfileLoad id payload))

/-- PROFILE_DROP (R19). -/
def execProfileDrop (tag : Byte) (payload : List Byte) (s : State) : Host.Outcome State Fault Refusal :=
  .next (s.withRequest 0x11 tag payload (fun t id => t.serveProfileDrop id payload))

/-- PROFILE_LIST (R20). -/
def execProfileList (tag : Byte) (payload : List Byte) (s : State) : Host.Outcome State Fault Refusal :=
  .next (s.withRequest 0x12 tag payload (fun t id => t.serveProfileList id payload))

end Sys2Proof.Machine
end

