-- ==== Sys2Proof/Machine/Separators.lean ====
section
/-! DEFINITION. The Cell Separator: pass start and end (R51, R52), the arithmetic of one interval (R53 to R60), the cells it hands
on (R61), and its self-test (R66). -/

namespace Sys2Proof.Machine

/-- A pass starts (R51). -/
def Separator.startPass (_sp : Separator) (p : Profile) (gain window : Nat) : Separator :=
  let d := p.cellPeriod * window / 64
  { running := true
    period := some p.cellPeriod
    nominal := p.cellPeriod
    window := window
    gain := gain
    periodMin := p.cellPeriod - d
    periodMax := p.cellPeriod + d
    cellsMin := (legalCells p.encoding).1
    cellsMax := (legalCells p.encoding).2
    runtCarry := 0
    windowHit := false }

/-- A pass ends: a runt carry is discarded, all else but the state is kept (R52). -/
def Separator.endPass (sp : Separator) : Separator := { sp with running := false, runtCarry := 0 }

/-- What an interval came to (R55, R61): nothing for the decoder, the dropout indication, or a run of cells, zero-cells and
then one one-cell. -/
inductive IntervalOutcome where
  | runt
  | dropout
  | cells (n : Nat) (quality : Nat) (kind : CellKind)
  deriving DecidableEq, Repr

/-- The interval with the runt carry folded in (R53). -/
def carriedInterval (sp : Separator) (ticks : Nat) : Nat := min (ticks + sp.runtCarry) 65535

/-- The raw count of cells (R55). -/
def rawCount (period j : Nat) : Nat := (j + period / 2) / period

/-- The phase error (R58 step 1). -/
def phaseError (period j n : Nat) : Int := (j : Int) - (n : Int) * (period : Int)

/-- The correction (R58 step 2): truncated toward zero. -/
def correction (e : Int) (gain n : Nat) : Int := Int.tdiv (e * (gain : Int)) ((n : Int) * 64)

/-- The period held within the bounds of the pass (R59). -/
def boundPeriod (sp : Separator) (period : Int) : Nat :=
  if period < (sp.periodMin : Int) then sp.periodMin
  else if (sp.periodMax : Int) < period then sp.periodMax
  else period.toNat

/-- Whether the bounds moved the period (R59). -/
def outOfWindow (sp : Separator) (period : Int) : Bool :=
  decide (period < (sp.periodMin : Int)) || decide ((sp.periodMax : Int) < period)

/-- The quality of a normal interval's cells (R60). -/
def intervalQuality (e : Int) (period : Nat) (clamped : Bool) : Nat :=
  let q := 4 - e.natAbs * 8 / period
  if clamped then min q 1 else q

/-- One interval through the steps of section 3.2, in their order: carry (R53), dropout (R54), count (R55), runt (R56), violation
(R57), or normal (R58 to R60), with the window-hit flag (R65). -/
def Separator.takeInterval (sp : Separator) (ticks : Nat) : Separator × IntervalOutcome :=
  let i := carriedInterval sp ticks
  let sp0 := { sp with runtCarry := 0 }
  let period := sp.period.getD 0
  if i = 65535 then (sp0, .dropout)
  else
    let j := 16 * i
    let n := rawCount period j
    if n = 0 then ({ sp0 with runtCarry := i }, .runt)
    else if 16 < n then (sp0, .dropout)
    else if n < sp.cellsMin ∨ sp.cellsMax < n then (sp0, .cells n 0 .violation)
    else
      let e := phaseError period j n
      let moved := (period : Int) + correction e sp.gain n
      let clamped := outOfWindow sp moved
      ({ sp0 with period := some (boundPeriod sp moved), windowHit := sp.windowHit || clamped },
        .cells n (intervalQuality e period clamped) (if clamped then .clamped else .normal))

/-- The cells of an outcome, earliest first (R61). -/
def outcomeCells (interval n quality : Nat) (kind : CellKind) : List Cell :=
  List.replicate (n - 1) { value := false, quality := quality, kind := kind, interval := interval } ++
    [{ value := true, quality := quality, kind := kind, interval := interval }]

/-! ## Self-test (R66) -/

/-- A run of intervals, with what each came to. -/
def Separator.takeIntervals (sp : Separator) : List Nat → Separator × List IntervalOutcome
  | [] => (sp, [])
  | t :: rest =>
    let a := sp.takeInterval t
    let b := Separator.takeIntervals a.1 rest
    (b.1, a.2 :: b.2)

/-- The settings of the test pass: MFM, P0 1280, W 8, G 16 (R66). -/
def testPassStart : Separator :=
  Separator.startPass .reset { noVolumeProfile with encoding := .mfm, cellPeriod := 1280 } 16 8

/-- The results R66 expects of the two test passes: those of sections 3.5 and 3.6. -/
def expectedFirst (a : Separator × List IntervalOutcome) : Bool :=
  decide (a.2 = [.cells 2 4 .normal, .cells 3 4 .normal, .cells 2 3 .normal, .cells 4 3 .normal, .cells 1 0 .violation,
      .runt, .cells 2 4 .normal]) &&
    decide (a.1.period = some 1277) && decide (a.1.runtCarry = 0) && !a.1.windowHit

/-- The results of the second test pass. -/
def expectedSecond (b : Separator × List IntervalOutcome) : Bool :=
  decide (b.2 = [.cells 3 1 .clamped]) && decide (b.1.period = some 1440) && b.1.windowHit

/-- The first test pass. -/
def firstTestPass : Separator × List IntervalOutcome :=
  testPassStart.takeIntervals [160, 243, 150, 330, 40, 20, 140]

/-- The second test pass, with P set to 1430 on the same bounds. -/
def secondTestPass : Separator × List IntervalOutcome :=
  ({ firstTestPass.1 with period := some 1430 }).takeIntervals [290]

/-- Whether a separator gives the results of R66. -/
def separatorTestPasses : Bool := expectedFirst firstTestPass && expectedSecond secondTestPass

end Sys2Proof.Machine
end

