-- ==== Sys2Proof/Machine/Decoders.lean ====
section
/-! DEFINITION. The Field Decoder: bytes from cells (R62 to R64, R81), sync and marks (R69 to R71), headers (R72 to R75), data
fields and checks (R76 to R79), reverse blocks (R80 to R82), truncation (R83 to R85), readings and tallies (R86 to R88). -/

namespace Sys2Proof.Machine

/-! ## Bytes from cells -/

/-- Bits as a number, the first the most significant. -/
def bitsToNat (bits : List Bool) : Nat := bits.foldl (fun a b => 2 * a + b.toNat) 0

/-- The eight bits of a byte, the most significant first. -/
def byteBits (b : Byte) : List Bool := (List.range 8).map (fun k => b.getMsbD k)

/-- A byte with its bits reversed. -/
def reverseByte (b : Byte) : Byte := BitVec.ofNat 8 (bitsToNat (byteBits b).reverse)

/-- The entries of a list at every second place, from the first. -/
def everySecond {α : Type} : List α → List α
  | [] => []
  | [x] => [x]
  | x :: _ :: l => x :: everySecond l

/-- The least quality of cells, at most 4 (R64). -/
def leastQuality (cells : List Cell) : Nat := cells.foldl (fun a c => min a c.quality) 4

/-- A group of five cells, in recording order, looked up in the GCR table: the nibble and the group's least quality, or
nibble 0 with quality 0 (R63). -/
def gcrGroup (p : Profile) (cells : List Cell) : Nat × Nat :=
  match p.gcrTable.findIdx? (fun c => c.toNat == bitsToNat (cells.map (·.value))) with
  | some v => (v, leastQuality cells)
  | none => (0, 0)

/-- The bit order of the medium undone (R8). -/
def normalise (p : Profile) (b : Byte) : Byte :=
  match p.bitOrder with
  | .msbFirst => b
  | .lsbFirst => reverseByte b

/-- The byte of a forward byte's cells, with its confidence (R62, R63, R64). -/
def forwardByte (p : Profile) (cells : List Cell) : Deposit :=
  match p.encoding with
  | .gcr =>
    let hi := gcrGroup p (cells.take 5)
    let lo := gcrGroup p (cells.drop 5)
    { byte := normalise p (BitVec.ofNat 8 (16 * hi.1 + lo.1)), confidence := min hi.2 lo.2 }
  | .fm | .mfm =>
    { byte := normalise p (BitVec.ofNat 8 (bitsToNat (everySecond ((cells.drop 1).map (·.value)))))
      confidence := leastQuality cells }

/-- The byte of a reverse byte's cells, as it was recorded (R81). -/
def reverseBlockByte (p : Profile) (cells : List Cell) : Deposit :=
  match p.encoding with
  | .gcr =>
    let lo := gcrGroup p (cells.take 5).reverse
    let hi := gcrGroup p (cells.drop 5).reverse
    { byte := normalise p (BitVec.ofNat 8 (16 * hi.1 + lo.1)), confidence := min hi.2 lo.2 }
  | .fm | .mfm =>
    { byte := normalise p (reverseByte (BitVec.ofNat 8 (bitsToNat (everySecond (cells.map (·.value))))))
      confidence := leastQuality cells }

/-! ## Header fields (R74) -/

/-- A header field's value; `none` where the field is absent. -/
def fieldValue (f : FieldDesc) (header : List Byte) : Option Nat :=
  if f.width = 0 then none
  else
    let bits := header.flatMap byteBits
    if f.swap then
      let span := (bits.drop f.offset).take 16
      some (bitsToNat ((span.drop 8 ++ span.take 8).take f.width))
    else some (bitsToNat ((bits.drop f.offset).take f.width))

/-! ## What the decoder works by -/

/-- What a decoder works by in a pass: the profile, the volume context, and the channel's sector counter (R35). -/
structure DecoderEnv where
  profile : Profile
  volume : Nat
  sectorCounter : Nat

/-- Header bytes and header check bytes that stand inside a data field: those of a cartridge block (R77). -/
def headerSpan (p : Profile) : Nat :=
  match p.medium with
  | .cartridge => p.headerLength + headerCheckBytes p
  | .floppySoft => 0
  | .floppyHard => 0

/-- The position of the first data byte in the block buffer. -/
def dataStart (p : Profile) : Nat := 1 + headerSpan p

/-- The bytes of a whole data field, mark and check included; B on a cartridge (R77). -/
def blockLength (p : Profile) : Nat := dataStart p + p.dataLength + checkBytes p

/-- The data gap limit in cells (R75). -/
def gapLimit (p : Profile) : Nat := p.dataGapLimit * cellsPerByte p.encoding

/-- The cylinder (lane) and head of a track (R4). -/
def placeOf (p : Profile) (track : Nat) : Nat × Nat := (track / p.heads, track - p.heads * (track / p.heads))

/-! ## Header tests (R72, R73) -/

/-- What the tests of a header come to. -/
inductive HeaderTest where
  | badHeader | wrongTrack | outOfGeometry
  | accepted (h : HeldIdentity)
  deriving DecidableEq, Repr

/-- Whether a present field differs from the value expected of it. -/
def fieldDiffers (v : Option Nat) (expected : Nat) : Bool :=
  match v with
  | none => false
  | some n => decide (n ≠ expected)

/-- The logical sector of a SECTOR value; `none` outside the track (R73). -/
def logicalSector (p : Profile) (v : Nat) : Option Nat :=
  if v < p.sectorBase ∨ p.sectors ≤ v - p.sectorBase then none else some (v - p.sectorBase)

/-- The tests of R73 on the mark byte, the header bytes and the header check bytes, in order. -/
def testHeader (p : Profile) (track : Nat) (bytes : List Byte) : HeaderTest :=
  let covered := bytes.take (1 + p.headerLength)
  let header := covered.drop 1
  let recorded := bigEndian ((bytes.drop (1 + p.headerLength)).take (headerCheckBytes p))
  let place := placeOf p track
  let cyl := fieldValue p.cylField header
  let head := fieldValue p.headField header
  if p.headerCheck ∧ mediumCheck p covered ≠ recorded then .badHeader
  else if fieldDiffers cyl place.1 ∨ fieldDiffers head place.2 then .wrongTrack
  else
    match fieldValue p.sectorField header with
    | none => .accepted { sector := none, cyl := cyl, head := head }
    | some v =>
      match logicalSector p v with
      | none => .outOfGeometry
      | some n => .accepted { sector := some n, cyl := cyl, head := head }

/-! ## Tallies (R88) -/

/-- One more, saturating at 65535. -/
def bump (n : Nat) : Nat := satAdd 65535 n 1

/-- The tally a header test raises (R73, R88). -/
def Tallies.countHeader (t : Tallies) : HeaderTest → Tallies
  | .badHeader => { t with badHeader := bump t.badHeader }
  | .wrongTrack => { t with wrongTrack := bump t.wrongTrack }
  | .outOfGeometry => { t with outOfGeometry := bump t.outOfGeometry }
  | .accepted _ => { t with goodHeaders := bump t.goodHeaders }

/-- One more orphan. -/
def Tallies.countOrphan (t : Tallies) : Tallies := { t with orphans := bump t.orphans }

/-- One more MISPLACED field. -/
def Tallies.countMisplaced (t : Tallies) : Tallies := { t with misplaced := bump t.misplaced }

/-! ## Pass start (R68) -/

def Decoder.startPass (d : Decoder) (direction : Direction) (track passNumber : Nat) : Decoder :=
  { d with
    state := .hunt, direction := direction, track := track, passNumber := passNumber
    recent := [], assembly := [], syncRun := 0, sinceSync := 0
    heldIdentity := none, rejectedWindow := none, gapCount := 0
    block := [], tallies := .zero, intervals := 0, lastViolation := none }

/-! ## Common moves -/

/-- A cell taken joins the recent cells, and counts since the last sync occurrence. -/
def Decoder.push (d : Decoder) (c : Cell) : Decoder :=
  { d with recent := (c.value :: d.recent).take 32, sinceSync := min 33 (d.sinceSync + 1) }

/-- Back to HUNT with the sync run at 0, no identity held and nothing in the buffer, which the header or field that ends here
uses no further: DEDUCED (notes/assumptions/32.md). -/
def Decoder.toHunt (d : Decoder) : Decoder :=
  { d with state := .hunt, syncRun := 0, assembly := [], heldIdentity := none, block := [] }

/-- To MARK, with nothing collected. -/
def Decoder.toMark (d : Decoder) : Decoder := { d with state := .mark, assembly := [] }

/-- The sync run after the latest cell, and whether it has reached the repeat minimum (R69). -/
def Decoder.syncStep (d : Decoder) (p : Profile) : Decoder × Bool :=
  if d.recent.take p.syncLength = (patternCells p.syncPattern p.syncLength).reverse then
    let run := if 0 < d.syncRun ∧ d.sinceSync = p.syncLength then min 4 (d.syncRun + 1) else 1
    ({ d with syncRun := run, sinceSync := 0 }, decide (p.syncRepeat ≤ run))
  else if p.syncLength ≤ d.sinceSync then ({ d with syncRun := 0 }, false)
  else (d, false)

/-- A cell of a data or data check byte counted for its field (R86). -/
def Decoder.countInterval (d : Decoder) (c : Cell) : Decoder :=
  match c.kind with
  | .normal => d
  | .clamped => { d with clamped := true }
  | .violation =>
    if d.lastViolation = some c.interval then d
    else { d with violations := satAdd 255 d.violations 1, lastViolation := some c.interval }

/-- The cell counted when it belongs to a data or data check position. -/
def Decoder.countAt (d : Decoder) (p : Profile) (c : Cell) : Decoder :=
  if (dataStart p : Int) ≤ d.cursor then d.countInterval c else d

/-! ## Readings (R84, R87) -/

/-- The first `n` of a list, with `x` for what is missing. -/
def padTo {α : Type} (x : α) (n : Nat) (l : List α) : List α := l.take n ++ List.replicate (n - l.length) x

/-- The reading of a field, from the deposits in forward order: what was not deposited is 0 with confidence 0. -/
def Decoder.readingOf (d : Decoder) (e : DecoderEnv) (deposits : List Deposit) (sector : Nat) (truncated : Bool) : Reading :=
  let p := e.profile
  let mark := (deposits.map (·.byte)).headD 0
  let body := padTo { byte := 0, confidence := 0 } p.dataLength (deposits.drop (dataStart p))
  let data := body.map (·.byte)
  let check := padTo 0 (checkBytes p) ((deposits.drop (dataStart p + p.dataLength)).map (·.byte))
  { volume := e.volume
    sector := d.track * p.sectors + sector
    passNumber := d.passNumber
    markClass := d.markClass
    data := data
    confidences := body.map (·.confidence)
    checkOk := !truncated && decide (mediumCheck p (mark :: data) = bigEndian check)
    truncated := truncated
    clamped := d.clamped
    violations := d.violations
    markByte := mark
    recordedCheck := bigEndian check }

/-- The end of a data field, whole or truncated: a reading, an orphan, or nothing for a MISPLACED field (R76, R79, R84). -/
def Decoder.closeField (d : Decoder) (e : DecoderEnv) (deposits : List Deposit) (truncated : Bool) :
    Decoder × Option Reading :=
  match d.identity with
  | .sector n => (d.toHunt, some (d.readingOf e deposits n truncated))
  | .orphan => ({ d with tallies := d.tallies.countOrphan }.toHunt, none)
  | .misplaced => (d.toHunt, none)

/-! ## Marks (R70, R71) -/

/-- The class of a mark byte (R6): `none` for no class, `some none` for HEADER. -/
def classifyMark (p : Profile) (b : Byte) : Option (Option MarkClass) :=
  if p.headerMark.fits b then some none
  else if p.dataMark.fits b then some (some .data)
  else if p.deletedMark.fits b then some (some .deleted)
  else none

/-- The identity a DATA or DELETED mark's field takes (R71, R75, R78).  A held identity whose mark lies beyond the gap limit
has been dropped. -/
def fieldIdentityOf (p : Profile) (d : Decoder) : FieldIdentity :=
  let held := if d.markGap ≤ gapLimit p then d.heldIdentity else none
  match p.medium with
  | .cartridge => .orphan
  | .floppySoft =>
    match held with
    | some { sector := some n, .. } => .sector n
    | some { sector := none, .. } => .orphan
    | none => .orphan
  | .floppyHard =>
    match held with
    | some { sector := some n, .. } => if n = d.markCounter then .sector d.markCounter else .misplaced
    | some { sector := none, .. } => .sector d.markCounter
    | none => if d.rejectedWindow = some d.markCounter then .orphan else .sector d.markCounter

/-- The mark byte put at position 0 of an emptied block buffer (R71).  DEDUCED (notes/assumptions/30.md): the identity held until
now is held no longer, for the field has taken it. -/
def Decoder.openBlock (d : Decoder) (mark : Deposit) : Decoder :=
  { d with heldIdentity := none, assembly := [], block := [mark], cursor := 1 }

/-- DATA entered (R71); a field found MISPLACED is counted at once (R78). -/
def Decoder.enterData (d : Decoder) (p : Profile) (mark : Deposit) (cls : MarkClass) : Decoder :=
  let identity := fieldIdentityOf p d
  let opened := d.openBlock mark
  { opened with
    state := .data, markClass := cls, identity := identity
    violations := 0, clamped := false, lastViolation := none
    tallies := match identity with
      | .misplaced => d.tallies.countMisplaced
      | .orphan => d.tallies
      | .sector _ => d.tallies }

/-- A mark byte taken, classified (R70, R71).  DEDUCED (notes/assumptions/32.md): the mark byte of a header opens the block buffer
as that of a field does. -/
def Decoder.takeMark (d : Decoder) (p : Profile) (mark : Deposit) : Decoder :=
  match classifyMark p mark.byte with
  | none => d.toHunt
  | some none => { d.openBlock mark with state := .header }
  | some (some cls) => d.enterData p mark cls

/-! ## One cell -/

/-- What taking a cell comes to: the decoder, cells given back to be taken again, a reading. -/
structure Taken where
  decoder : Decoder
  back : List Cell
  reading : Option Reading

/-- A cell taken, with nothing given back. -/
def Taken.only (d : Decoder) : Taken := { decoder := d, back := [], reading := none }

/-- HUNT on a forward pass (R69); on a reverse pass the mirrored end pattern opens a block (R80). -/
def Decoder.huntCell (d0 : Decoder) (e : DecoderEnv) (c : Cell) : Taken :=
  let p := e.profile
  let d := d0.push c
  match d.direction with
  | .forward =>
    let step := d.syncStep p
    Taken.only (if step.2 then step.1.toMark else step.1)
  | .reverse =>
    if d.recent.take p.endLength = patternCells p.endPattern p.endLength then
      Taken.only
        { d with
          state := .blockRev, assembly := [], block := [], cursor := (blockLength p : Int) - 1
          violations := 0, clamped := false, lastViolation := none }
    else Taken.only d

/-- MARK (R70, R75).  The position of the mark's first cell is the gap count as that cell arrives, as in the example of section
4.8 (notes/assumptions/16.md).  DEDUCED (notes/assumptions/17.md): cells given back are taken again after the mark byte, with
fewer recent cells before them than other cells have.  DEDUCED (notes/assumptions/34.md): the cells collected are kept in the
byte assembly, where a sync pattern longer than a byte brings them to 31. -/
def Decoder.markCell (d0 : Decoder) (e : DecoderEnv) (c : Cell) : Taken :=
  let p := e.profile
  let pushed := d0.push c
  let counted :=
    if pushed.heldIdentity.isSome then { pushed with gapCount := satAdd Config.gapCountMax pushed.gapCount 1 } else pushed
  let d :=
    if counted.assembly.isEmpty then
      { counted with markGap := pushed.gapCount, markCounter := e.sectorCounter }
    else counted
  let collected := d.assembly ++ [c]
  let perByte := cellsPerByte p.encoding
  if collected.map (·.value) = (patternCells p.syncPattern p.syncLength).take collected.length then
    if collected.length = p.syncLength then
      Taken.only { d with assembly := [], syncRun := min 4 (d.syncRun + 1), sinceSync := 0 }
    else Taken.only { d with assembly := collected }
  else if perByte ≤ collected.length then
    let back := collected.drop perByte
    let before := { d with recent := d.recent.drop back.length, sinceSync := perByte }
    { decoder := before.takeMark p (forwardByte p (collected.take perByte)), back := back, reading := none }
  else Taken.only { d with assembly := collected }

/-- A header's tests taken on floppy media (R73). -/
def Decoder.endHeader (d : Decoder) (p : Profile) : Decoder :=
  let test := testHeader p d.track (d.block.reverse.map (·.byte))
  let tallied := { d with tallies := d.tallies.countHeader test }
  match test with
  | .accepted h => { tallied.toHunt with state := .gap, gapCount := 0, heldIdentity := some h, syncRun := d.syncRun }
  | .badHeader | .wrongTrack | .outOfGeometry =>
    match p.medium with
    | .floppyHard => { tallied.toHunt with rejectedWindow := some d.markCounter }
    | .floppySoft => tallied.toHunt
    | .cartridge => tallied.toHunt

/-- A cell put to the byte being assembled: the byte when it is whole. -/
def Decoder.assemble (d : Decoder) (p : Profile) (build : Profile → List Cell → Deposit) (c : Cell) :
    Decoder × Option Deposit :=
  let cells := d.assembly ++ [c]
  if cells.length < cellsPerByte p.encoding then ({ d with assembly := cells }, none)
  else ({ d with assembly := [] }, some (build p cells))

/-- HEADER (R72).  DEDUCED (notes/assumptions/32.md): its bytes are kept in the block buffer, behind the header's mark byte, and
the cursor rises with each. -/
def Decoder.headerCell (d0 : Decoder) (e : DecoderEnv) (c : Cell) : Taken :=
  let p := e.profile
  match (d0.push c).assemble p forwardByte c with
  | (d, none) => Taken.only d
  | (d, some dep) =>
    let d := { d with block := dep :: d.block, cursor := d.cursor + 1 }
    if d.block.length = 1 + p.headerLength + headerCheckBytes p then Taken.only (d.endHeader p) else Taken.only d

/-- GAP (R75). -/
def Decoder.gapCell (d0 : Decoder) (e : DecoderEnv) (c : Cell) : Taken :=
  let p := e.profile
  let d1 := d0.push c
  let d := { d1 with gapCount := satAdd Config.gapCountMax d1.gapCount 1 }
  let step := d.syncStep p
  if step.2 then Taken.only step.1.toMark
  else if gapLimit p < step.1.gapCount then Taken.only { step.1 with state := .hunt, heldIdentity := none }
  else Taken.only step.1

/-- A cartridge block's header, when its last byte has been deposited (R77 step 1).  DEDUCED (notes/assumptions/31.md): a rejected
header leaves the sync run at 0. -/
def Decoder.blockHeader (d : Decoder) (p : Profile) : Decoder :=
  let test := testHeader p d.track (d.block.reverse.map (·.byte))
  let tallied := { d with tallies := d.tallies.countHeader test }
  match test with
  | .accepted { sector := some n, .. } => { tallied with identity := .sector n }
  | .accepted { sector := none, .. } => tallied
  | .badHeader | .wrongTrack | .outOfGeometry => tallied.toHunt

/-- DATA (R76, R77).  The cursor rises after every byte, after the last of a field too, so that it may then stand one beyond the
1040 of R67's range: DEDUCED (notes/assumptions/29.md). -/
def Decoder.dataCell (d0 : Decoder) (e : DecoderEnv) (c : Cell) : Taken :=
  let p := e.profile
  match ((d0.push c).countAt p c).assemble p forwardByte c with
  | (d, none) => Taken.only d
  | (d, some dep) =>
    let d := { d with block := dep :: d.block, cursor := d.cursor + 1 }
    if d.block.length = blockLength p then
      let closed := d.closeField e d.block.reverse false
      { decoder := closed.1, back := [], reading := closed.2 }
    else if p.medium = .cartridge ∧ d.block.length = dataStart p then Taken.only (d.blockHeader p)
    else Taken.only d

/-- A reverse block whose mark byte has been deposited, checked as a forward block (R82). -/
def Decoder.endReverseBlock (d : Decoder) (e : DecoderEnv) : Decoder × Option Reading :=
  let p := e.profile
  match classifyMark p ((d.block.map (·.byte)).headD 0) with
  | none => (d.toHunt, none)
  | some none => (d.toHunt, none)
  | some (some cls) =>
    let test := testHeader p d.track (d.block.map (·.byte))
    let tallied := { d with tallies := d.tallies.countHeader test, markClass := cls }
    match test with
    | .accepted { sector := some n, .. } => { tallied with identity := .sector n }.closeField e d.block false
    | .accepted { sector := none, .. } => (tallied.toHunt, none)
    | .badHeader | .wrongTrack | .outOfGeometry => (tallied.toHunt, none)

/-- BLOCK_REV (R81, R82). -/
def Decoder.reverseCell (d0 : Decoder) (e : DecoderEnv) (c : Cell) : Taken :=
  let p := e.profile
  match ((d0.push c).countAt p c).assemble p reverseBlockByte c with
  | (d, none) => Taken.only d
  | (d, some dep) =>
    let d := { d with block := dep :: d.block, cursor := d.cursor - 1 }
    if d.block.length = blockLength p then
      let ended := d.endReverseBlock e
      { decoder := ended.1, back := [], reading := ended.2 }
    else Taken.only d

/-- One cell, by the decoder's state. -/
def Decoder.takeCell (d : Decoder) (e : DecoderEnv) (c : Cell) : Taken :=
  match d.state with
  | .hunt => d.huntCell e c
  | .mark => d.markCell e c
  | .header => d.headerCell e c
  | .gap => d.gapCell e c
  | .data => d.dataCell e c
  | .blockRev => d.reverseCell e c

/-- Cells taken in order, those given back first; `fuel` bounds the takings. -/
def Decoder.feed (e : DecoderEnv) : Nat → Decoder → List Cell → List Reading → Decoder × List Reading
  | 0, d, _, out => (d, out)
  | _ + 1, d, [], out => (d, out)
  | fuel + 1, d, c :: cells, out =>
    let t := d.takeCell e c
    Decoder.feed e fuel t.decoder (t.back ++ cells) (out ++ t.reading.toList)

/-- Takings that one interval can lead to: 16 cells, and those that marks longer than a byte give back, each again at most a
few times. -/
def feedFuel : Nat := 256

/-! ## Dropout and capture end (R83 to R85) -/

/-- What is in progress closed, without a reading or as a truncated field. -/
def Decoder.cutShort (d : Decoder) (e : DecoderEnv) : Decoder × Option Reading :=
  match d.state with
  | .hunt => (d, none)
  | .mark => (d.toHunt, none)
  | .header => (d.toHunt, none)
  | .gap => (d.toHunt, none)
  | .data => d.closeField e d.block.reverse true
  | .blockRev => ({ d with tallies := d.tallies.countOrphan }.toHunt, none)

/-- A dropout: no sync pattern is recognised across it. -/
def Decoder.dropout (d : Decoder) (e : DecoderEnv) : Decoder × Option Reading :=
  let a := d.cutShort e
  ({ a.1 with recent := [], syncRun := 0 }, a.2)

/-- An interval's outcome, as the separator hands it (R61). -/
def Decoder.takeOutcome (d : Decoder) (e : DecoderEnv) : IntervalOutcome → Decoder × List Reading
  | .runt => (d, [])
  | .dropout =>
    let a := d.dropout e
    (a.1, a.2.toList)
  | .cells n quality kind =>
    Decoder.feed e feedFuel { d with intervals := d.intervals + 1 } (outcomeCells d.intervals n quality kind) []

end Sys2Proof.Machine
end

