-- ==== Sys2Proof/Machine/Drives.lean ====
section
/-! DEFINITION. The Drive Channel by itself: output lines (R21, R22, R25), times (R33), the stages of a pass order (R26 to R32),
capture (R36 to R39), holding (R40), cuts and reports (R41, R42), recalibration (R28, R29, R47).  Nothing here touches another
block; what a channel hands on waits in `handed`. -/

namespace Sys2Proof.Machine

/-! ## Output lines (R21, R22, R25) -/

/-- States in which a floppy channel keeps MOTOR and LOAD asserted. -/
def motorOn : ChanState → Bool
  | .absent => false
  | .idle => false
  | .faulted => false
  | .spinup => true
  | .recal => true
  | .seeking => true
  | .settling => true
  | .armed => true
  | .capturing => true
  | .winding => true
  | .holding => true

/-- The direction in which the tape runs; `none` while it stands still (R22, R25). -/
def tapeMotion (c : Channel) : Option Direction :=
  match c.state with
  | .recal =>
    match c.recalStage with
    | some { rewinding := true, .. } => some .reverse
    | some { rewinding := false, .. } => none
    | none => none
  | .winding => some .reverse
  | .armed => c.pass.map (·.direction)
  | .capturing => if c.completing then none else c.pass.map (·.direction)
  | .absent | .idle | .spinup | .seeking | .settling | .holding | .faulted => none

/-- The output lines that the channel's fields give (R25). -/
def outputsOf (c : Channel) : Outputs :=
  match c.kind with
  | .floppy =>
    { motor := motorOn c.state || c.probe.isSome
      load := motorOn c.state
      dir := c.dirAsserted
      side := decide (c.headSelected = 1)
      offsetPlus := decide (c.offset = .plus)
      offsetMinus := decide (c.offset = .minus)
      runFwd := false
      runRev := false
      readEn := false }
  | .cartridge =>
    { motor := false
      load := false
      dir := c.dirAsserted
      side := false
      offsetPlus := decide (c.offset = .plus)
      offsetMinus := decide (c.offset = .minus)
      runFwd := decide (tapeMotion c = some .forward)
      runRev := decide (tapeMotion c = some .reverse)
      readEn := decide (c.state = .capturing) && !c.completing }

/-- The lines brought in step with the fields, as a change is taken (R25); the pulse history ends when MOTOR is released
(R34). -/
def Channel.drive (c : Channel) : Channel :=
  let o := outputsOf c
  { c with outputs := o, sincePulse := if o.motor then c.sincePulse else none }

/-- A channel put back into the state: the one way a channel is written. -/
def State.putChannel (s : State) (ch : Chan) (c : Channel) : State :=
  { s with channels := qset s.channels ch c.drive }

/-! ## Times, in ticks (R3, R29, R32, R33, R38) -/

/-- Revolution time (R33). -/
def revolutionTicks (p : Profile) : Nat := 2400000000 / p.rpm
/-- Index watch limit, 2.5 revolution times (R33). -/
def indexWatchTicks (p : Profile) : Nat := 6000000000 / p.rpm
/-- Nominal sector spacing of hard-sectored media (R33). -/
def sectorSpacing (p : Profile) : Nat := 2400000000 / (p.rpm * p.sectors)
/-- Index threshold of hard-sectored media (R33). -/
def indexThreshold (p : Profile) : Nat := sectorSpacing p / 2
/-- 1.5 times the lane time (R29, R32, R38). -/
def tapeTicks (p : Profile) : Nat := p.laneTime * 60000000
/-- The spin-up time. -/
def spinUpTicks (p : Profile) : Nat := p.spinUp * Config.ticksPerMs
/-- The step interval. -/
def stepTicks (p : Profile) : Nat := p.stepInterval * Config.ticksPerMs
/-- The settle time. -/
def settleTicks (p : Profile) : Nat := p.settleTime * Config.ticksPerMs

/-! ## Targets and needs (R26) -/

/-- Cylinder or lane of an order's track, and head (R4, section 2.3). -/
def orderTarget (p : Profile) (o : PassOrder) : Nat × Nat := placeOf p o.track

/-- SEEKING is needed. -/
def seekNeeded (p : Profile) (c : Channel) (o : PassOrder) : Bool :=
  decide (c.position ≠ (orderTarget p o).1) || decide (c.offset ≠ o.offset)

/-- WINDING is needed (R26). -/
def windingNeeded (c : Channel) (a : Pass) : Bool :=
  match c.kind with
  | .floppy => false
  | .cartridge =>
    match a.direction with
    | .forward => decide (c.tapeEnd ≠ .bot)
    | .reverse => decide (c.tapeEnd ≠ .eot)

/-! ## Holding (R40) -/

/-- HOLDING entered, the hold timer started afresh. -/
def Channel.enterHolding (c : Channel) : Channel :=
  { c with state := .holding, holdTimer := some Config.holdTime, stageTimer := none, recalStage := none }

/-! ## Capture (R36 to R39, R51, R68) -/

/-- Capture begins: the counter idle, the separator and the decoder started. -/
def Channel.startCapture (c : Channel) (p : Profile) (a : Pass) : Channel :=
  { c with
    state := .capturing
    stageTimer := match c.kind with
      | .floppy => some (indexWatchTicks p)
      | .cartridge => c.stageTimer
    counter := .idle
    pass := some { a with revolutionsDone := 0 }
    separator := c.separator.startPass p a.order.gain a.order.window
    decoder := c.decoder.startPass a.direction a.order.track a.order.passNumber }

/-- The decoder's surroundings in a pass. -/
def Channel.decoderEnv (c : Channel) (p : Profile) (volume : Nat) : DecoderEnv :=
  { profile := p, volume := volume, sectorCounter := c.sectorCounter }

/-- Capture ends in counter, separator and decoder (R36, R39 step 1, R52); a reading of a field in progress is handed on. -/
def Channel.endCapture (c : Channel) (p : Profile) (volume : Nat) : Channel :=
  let a := c.decoder.cutShort (c.decoderEnv p volume)
  { c with
    counter := .stopped, separator := c.separator.endPass, decoder := a.1
    handed := c.handed ++ a.2.toList.map .reading }

/-- An interval handed to the separator, its cells to the decoder, the readings on (R36, R61, R87). -/
def Channel.deliver (c : Channel) (p : Profile) (volume : Nat) (ticks : Nat) : Channel :=
  if c.separator.running then
    let a := c.separator.takeInterval ticks
    let b := c.decoder.takeOutcome (c.decoderEnv p volume) a.2
    { c with separator := a.1, decoder := b.1, handed := c.handed ++ b.2.map .reading }
  else c

/-! ## The stages of a pass (R26 to R32, R37, R38) -/

/-- ARMED.  A cartridge whose starting marker is already released begins capture at once (R38). -/
def Channel.enterArmed (c : Channel) (p : Profile) (a : Pass) : Channel :=
  match c.kind with
  | .floppy => { c with state := .armed, stageTimer := some (indexWatchTicks p), pass := some a }
  | .cartridge =>
    let armed :=
      { c with state := .armed, stageTimer := some (tapeTicks p), tapeEnd := .none, pass := some a }
    let atMarker := match a.direction with
      | .forward => c.inputs.bot
      | .reverse => c.inputs.eot
    if atMarker then armed else armed.startCapture p a

/-- WINDING.  A tape that stands at BOT ends it at once (R32). -/
def Channel.enterWinding (c : Channel) (p : Profile) (a : Pass) : Channel :=
  let a := { a with windingBegun := true, direction := .forward }
  if c.inputs.bot then { c with tapeEnd := .bot }.enterArmed p a
  else { c with state := .winding, stageTimer := some (tapeTicks p), pass := some a }

/-- On from SETTLING. -/
def Channel.afterSettling (c : Channel) (p : Profile) (a : Pass) : Channel :=
  if windingNeeded c a then c.enterWinding p a else c.enterArmed p a

/-- On from SEEKING: SETTLING when pulses or an offset change were issued for the order (R30). -/
def Channel.afterSeeking (c : Channel) (p : Profile) (a : Pass) : Channel :=
  if c.moved then { c with state := .settling, stageTimer := some (settleTicks p), pass := some a }
  else c.afterSettling p a

/-- The pulses of SEEKING are done: the offset level is set (R30). -/
def Channel.seekDone (c : Channel) (p : Profile) (a : Pass) : Channel :=
  if c.offset = a.order.offset then c.afterSeeking p a
  else { c with offset := a.order.offset, moved := true }.afterSeeking p a

/-- One position toward the target. -/
def stepToward (position target : Nat) : Nat := if position < target then position + 1 else position - 1

/-- A step pulse of SEEKING, issued now (R30). -/
def Channel.seekPulse (c : Channel) (p : Profile) (a : Pass) : Channel :=
  let target := (orderTarget p a.order).1
  let c := { c with
    state := .seeking, position := stepToward c.position target, moved := true, pulses := c.pulses + 1
    stageTimer := some (stepTicks p), pass := some a }
  if c.position = target then c.seekDone p a else c

/-- SEEKING: the direction line set, the first pulse at once (R30). -/
def Channel.enterSeeking (c : Channel) (p : Profile) (a : Pass) : Channel :=
  let target := (orderTarget p a.order).1
  if c.position = target then { c with state := .seeking, pass := some a }.seekDone p a
  else { c with dirAsserted := decide (c.position < target) }.seekPulse p a

/-- On from RECAL with the position known (R28). -/
def Channel.afterRecal (c : Channel) (p : Profile) (a : Pass) : Channel :=
  if seekNeeded p c a.order then c.enterSeeking p a else c.afterSeeking p a

/-! ## Recalibration (R28, R29) -/

/-- A step pulse of a recalibration, issued now. -/
def Channel.recalPulse (c : Channel) (p : Profile) (issued : Nat) : Channel :=
  { c with
    moved := true, pulses := c.pulses + 1, stageTimer := some (stepTicks p)
    recalStage := some { rewinding := false, pulses := issued + 1 } }

/-- The stepping part: over at once when TRACK0 or LANE0 is asserted, else DIR released and the first pulse.  The second
answer is success. -/
def Channel.recalSteps (c : Channel) (p : Profile) : Channel × Bool :=
  match c.kind with
  | .floppy =>
    let c := { c with dirAsserted := false }
    if c.inputs.track0 then (c, true) else (c.recalPulse p 0, false)
  | .cartridge =>
    if c.inputs.lane0 then (c, true) else ({ c with dirAsserted := false }.recalPulse p 0, false)

/-- RECAL entered: the position not known, the offset level 0; on a cartridge the tape end NONE and the rewind first. -/
def Channel.enterRecal (c : Channel) (p : Profile) : Channel × Bool :=
  let c := { c with
    state := .recal, positionKnown := false, holdTimer := none
    moved := c.moved || decide (c.offset ≠ Offset.zero), offset := Offset.zero
    recalStage := some { rewinding := false, pulses := 0 } }
  match c.kind with
  | .floppy => c.recalSteps p
  | .cartridge =>
    let c := { c with tapeEnd := .none }
    if c.inputs.bot then { c with tapeEnd := .bot }.recalSteps p
    else ({ c with recalStage := some { rewinding := true, pulses := 0 }, stageTimer := some (tapeTicks p) }, false)

/-- A recalibration has succeeded (R28, R29). -/
def Channel.recalSucceeded (c : Channel) : Channel :=
  { c with
    position := 0, positionKnown := true, faultCount := 0, faultCode := .none, recalStage := none, stageTimer := none }

/-- The pulses a recalibration may issue (R28, R29). -/
def recalLimit : StrapKind → Nat
  | .floppy => Config.recalStepLimit
  | .cartridge => Config.recalLaneLimit

/-- The end sensor of a recalibration's stepping (R28, R29). -/
def Channel.atOrigin (c : Channel) : Bool :=
  match c.kind with
  | .floppy => c.inputs.track0
  | .cartridge => c.inputs.lane0

/-! ## Orders (R26, R49) -/

/-- The pass an order begins as. -/
def Pass.ofOrder (o : PassOrder) : Pass :=
  { order := o, direction := o.direction, windingBegun := false, revolutionsDone := 0 }

/-- The stages after SPINUP, from the first that is needed. -/
def Channel.beginStages (c : Channel) (p : Profile) (a : Pass) : Channel :=
  if c.positionKnown then c.afterRecal p a
  else
    let r := { c with pass := some a }.enterRecal p
    if r.2 then r.1.recalSucceeded.afterRecal p a else r.1

/-- SPINUP entered (R27). -/
def Channel.enterSpinup (c : Channel) (p : Profile) : Channel :=
  { c with state := .spinup, stageTimer := some (spinUpTicks p), holdTimer := none }

/-- A floppy channel sets the head selected as it takes an order (R26). -/
def Channel.selectHead (c : Channel) (p : Profile) (o : PassOrder) : Channel :=
  match c.kind with
  | .floppy => { c with headSelected := (orderTarget p o).2 }
  | .cartridge => c

/-- A pass order taken (R26): held while a RECAL request is served (R49), or until a presence probe ends (R23). -/
def Channel.takeOrder (c : Channel) (p : Profile) (o : PassOrder) : Channel :=
  match c.probe with
  | some b => { c with probe := some { b with deferred := b.deferred ++ [.order o] } }
  | none =>
    let c := c.selectHead p o
    if c.recal.isSome then { c with heldOrder := some o }
    else
      let c := { c with moved := false, holdTimer := none, pass := some (Pass.ofOrder o) }
      if motorOn c.state then c.beginStages p (Pass.ofOrder o) else c.enterSpinup p

/-! ## Completion, cuts and reports (R39, R41, R42) -/

/-- The pass-end report of a completed pass (R39). -/
def Channel.endReport (c : Channel) (a : Pass) : PassReport :=
  { volume := a.order.volume, track := a.order.track, direction := a.direction, completed := true, captureBegan := true
    units := match c.kind with
      | .floppy => a.order.revolutions
      | .cartridge => 1 + a.windingBegun.toNat
    winding := a.windingBegun, tapeEnd := c.tapeEnd, cause := .none }

/-- A channel whose capture has ended and whose readings have all been acknowledged enters HOLDING (R39 steps 2 and 3). -/
def Channel.finishCompletion (c : Channel) : Channel :=
  if c.completing then { c with completing := false, pass := none }.enterHolding else c

/-- No reading of the channel waits to be acknowledged. -/
def noReadingWaits (l : List Handed) : Bool :=
  l.all (fun h => match h with
    | .reading _ => false
    | .report _ => true)

/-- Capture has ended on its last index pulse or far marker (R39): the report stands behind the pass's readings, and HOLDING
follows when the last of them is acknowledged. -/
def Channel.completePass (c : Channel) (p : Profile) (a : Pass) : Channel :=
  let c := c.endCapture p a.order.volume
  let c := { c with
    completing := true, stageTimer := none, pass := some a, handed := c.handed ++ [.report (c.endReport a)] }
  if noReadingWaits c.handed then c.finishCompletion else c

/-- Units a cut pass has consumed (R42). -/
def cutUnits (c : Channel) (a : Pass) : Nat :=
  match c.kind with
  | .floppy => if c.state = .capturing then a.revolutionsDone + 1 else 0
  | .cartridge =>
    match c.state with
    | .winding => 1
    | .armed => a.windingBegun.toNat
    | .capturing => 1 + a.windingBegun.toNat
    | .absent | .idle | .spinup | .recal | .seeking | .settling | .holding | .faulted => 0

/-- The cut report of a pass (R42), with the tape end after the cut. -/
def Channel.cutReportOf (c : Channel) (a : Pass) (cause : Cause) (tapeEnd : TapeEnd) : PassReport :=
  { volume := a.order.volume, track := a.order.track, direction := a.direction, completed := false
    captureBegan := decide (c.state = .capturing), units := cutUnits c a, winding := a.windingBegun
    tapeEnd := tapeEnd, cause := cause }

/-- The report of a held order that is dropped: nothing consumed (R41, R44, R45). -/
def droppedReport (o : PassOrder) (cause : Cause) (tapeEnd : TapeEnd) : PassReport :=
  { volume := o.volume, track := o.track, direction := o.direction, completed := false, captureBegan := false, units := 0
    winding := false, tapeEnd := tapeEnd, cause := cause }

/-- A pass in progress cut: capture in progress ends, the report is handed on, and the channel holds no pass (R41, R42).  What
becomes of state, position and tape end is for the caller. -/
def Channel.cutPass (c : Channel) (p : Profile) (cause : Cause) (tapeEnd : TapeEnd) : Channel :=
  match c.pass with
  | none => c
  | some a =>
    let report := c.cutReportOf a cause tapeEnd
    let ended := if c.state = .capturing then c.endCapture p a.order.volume else c
    { ended with handed := ended.handed ++ [.report report], pass := none, recalStage := none, stageTimer := none }

/-- A held order dropped and reported cut. -/
def Channel.dropHeld (c : Channel) (cause : Cause) (tapeEnd : TapeEnd) : Channel :=
  match c.heldOrder with
  | none => c
  | some o => { c with heldOrder := none, handed := c.handed ++ [.report (droppedReport o cause tapeEnd)] }

/-- The tape end after an ABORT cut: NONE where the tape was moving (R41). -/
def stoppedTapeEnd (c : Channel) : TapeEnd := if (tapeMotion c).isSome then .none else c.tapeEnd

/-- A cut order taken (R41).  A capture that has already ended is a completed pass, and the order finds none in progress. -/
def Channel.takeCutOrder (c0 : Channel) (p : Profile) : Channel :=
  let c := c0.finishCompletion
  match c.pass with
  | some _ =>
    let tapeEnd := match c.kind with
      | .floppy => c.tapeEnd
      | .cartridge => stoppedTapeEnd c
    let known := if c.state = .recal then false else c.positionKnown
    { c.cutPass p .abort tapeEnd with tapeEnd := tapeEnd, positionKnown := known }.enterHolding
  | none => c.dropHeld .abort c.tapeEnd

/-! ## Index pulses (R34, R35, R37) -/

/-- Whether an INDEX pulse that comes so many ticks after the last is an index pulse (R34); `none` for the profile where no
volume is mounted. -/
def isIndexPulse (mounted : Option Profile) (spacing : Option Nat) : Bool :=
  match mounted with
  | none => true
  | some p =>
    match p.medium with
    | .floppyHard =>
      match spacing with
      | none => false
      | some t => decide (t < indexThreshold p)
    | .floppySoft => true
    | .cartridge => true

/-- The sector counter after a pulse (R35): 0 on media other than FLOPPY_HARD, and as it stands where no volume is mounted
(notes/assumptions/26.md). -/
def sectorCounterAfter (mounted : Option Profile) (index : Bool) (counter : Nat) : Nat :=
  match mounted with
  | none => counter
  | some p =>
    match p.medium with
    | .floppyHard => if index then 0 else min (counter + 1) (p.sectors - 1)
    | .floppySoft => 0
    | .cartridge => 0

/-- An index pulse in ARMED or CAPTURING (R37). -/
def Channel.indexInPass (c : Channel) (p : Profile) (a : Pass) : Channel :=
  match c.state with
  | .armed => c.startCapture p a
  | .capturing =>
    if c.completing then c
    else
      let a := { a with revolutionsDone := a.revolutionsDone + 1 }
      if a.order.revolutions ≤ a.revolutionsDone then c.completePass p a
      else { c with pass := some a, stageTimer := some (indexWatchTicks p) }
  | .absent | .idle | .spinup | .recal | .seeking | .settling | .winding | .holding | .faulted => c

/-- An INDEX pulse taken, while MOTOR is asserted (R34, R35, R37). -/
def Channel.takeIndex (c : Channel) (mounted : Option Profile) (p : Profile) (ticks : Nat) : Channel :=
  let index := isIndexPulse mounted (c.sincePulse.map (· + ticks))
  let c := { c with sincePulse := some 0, sectorCounter := sectorCounterAfter mounted index c.sectorCounter }
  if index then
    match c.pass with
    | none => c
    | some a => c.indexInPass p a
  else c

/-! ## The interval counter (R36) -/

/-- A READ DATA transition `ticks` after the last event of the counter. -/
def Channel.takeTransition (c : Channel) (p : Profile) (volume : Nat) (ticks : Nat) : Channel :=
  match c.counter with
  | .stopped => c
  | .idle => { c with counter := .counting 0 }
  | .held => { c with counter := .counting 0 }
  | .counting n =>
    if n + ticks = 0 then c
    else { c with counter := .counting 0 }.deliver p volume (min (n + ticks) Config.counterMax)

/-- The count reaches 65535 without a transition. -/
def Channel.saturateCounter (c : Channel) (p : Profile) (volume : Nat) : Channel :=
  match c.counter with
  | .counting _ => { c with counter := .held }.deliver p volume Config.counterMax
  | .stopped => c
  | .idle => c
  | .held => c

/-! ## Presence (R23) -/

/-- What a sense sees on the lines as they stand. -/
def Channel.sensed (c : Channel) : Bool :=
  match c.kind with
  | .floppy => c.inputs.ready || c.inputs.track0
  | .cartridge => c.inputs.present

/-- The state after a sense (R23). -/
def stateAfterSense (state : ChanState) (present : Bool) : ChanState :=
  match state, present with
  | .absent, true => .idle
  | .faulted, true => .idle
  | .idle, false => .absent
  | .faulted, false => .absent
  | st, _ => st

/-- A sense taken by the channel. -/
def Channel.afterSense (c : Channel) (present : Bool) : Channel :=
  { c with state := stateAfterSense c.state present }

/-! ## Time going by -/

/-- One millisecond with no command: the hold timer and the state's timer count down, the interval counter and the pulse
spacing count up.  An expiry is a command of its own.  DESIGN CHOICE (notes/assumptions/8.md). -/
def Channel.passTime (c : Channel) : Channel :=
  { c with
    holdTimer := c.holdTimer.map (· - 1)
    stageTimer := c.stageTimer.map (· - Config.ticksPerMs)
    counter := match c.counter with
      | .counting n => .counting (min (n + Config.ticksPerMs) Config.counterMax)
      | .stopped => .stopped
      | .idle => .idle
      | .held => .held
    sincePulse := c.sincePulse.map (· + Config.ticksPerMs) }

end Sys2Proof.Machine
end

