-- ==== Sys2Proof/Machine/CandidatePool.lean ====
section
/-! DEFINITION. The Candidate Pool: slots, allocation, return and reuse (R112 to R118), rank (R97), and fusion (R119 to R126). -/

namespace Sys2Proof.Machine

/-! ## Slots (R112 to R118) -/

/-- The slots of the banks that passed, ascending (R112, R113). -/
def usableSlots (banks : Quad Bool) : List Nat :=
  (if banks.c0 then slotsFrom 0 Config.bankSlots else []) ++
    (if banks.c1 then slotsFrom 1024 Config.bankSlots else []) ++
    (if banks.c2 then slotsFrom 2048 Config.bankSlots else []) ++
    (if banks.c3 then slotsFrom 3072 Config.bankSlots else [])

/-- Free slots (R113). -/
def Pool.freeCount (p : Pool) : Nat := p.freeList.length

/-- The descriptor of a slot; `none` when empty (R114). -/
def Pool.descriptor (p : Pool) (slot : Nat) : Option Candidate := mapGet none p.descriptors slot

/-- The data bytes of a slot's candidate (R114). -/
def Pool.data (p : Pool) (slot length : Nat) : List Byte := (areaOf p.memory slot).data.take length

/-- The confidences of a slot's candidate (R114). -/
def Pool.confidences (p : Pool) (slot length : Nat) : List Nat := (areaOf p.memory slot).confidences.take length

/-- A candidate's descriptor, data and confidences written into a slot. -/
def Pool.write (p : Pool) (slot : Nat) (c : Candidate) (data : List Byte) (confidences : List Nat) : Pool :=
  { p with
    descriptors := mapSet none p.descriptors slot (some c)
    memory := writeArea p.memory slot data confidences }

/-- A candidate entered: the lowest free slot, or NONE (R115). -/
def Pool.allocate (p : Pool) (c : Candidate) (data : List Byte) (confidences : List Nat) : Option (Nat × Pool) :=
  match p.freeList with
  | [] => none
  | slot :: rest => some (slot, { p with freeList := rest }.write slot c data confidences)

/-- A slot returned: its descriptor empty, the slot in the free list at its place (R116). -/
def Pool.giveBack (p : Pool) (slot : Nat) : Pool :=
  { p with freeList := insertAsc p.freeList slot, descriptors := mapSet none p.descriptors slot none }

/-- The slots of a list returned as one step (R116). -/
def Pool.giveBackAll (p : Pool) (slots : List Nat) : Pool := slots.foldl Pool.giveBack p

/-! ## Rank (R97) -/

/-- Whether one candidate ranks above another: check_ok, matches, score, arrival serial, order of entry. -/
def ranksAbove (a b : Candidate) : Bool :=
  if a.checkOk ≠ b.checkOk then a.checkOk
  else if a.matchCount ≠ b.matchCount then decide (b.matchCount < a.matchCount)
  else if a.score ≠ b.score then decide (b.score < a.score)
  else if a.serial ≠ b.serial then decide (a.serial < b.serial)
  else decide (a.entered < b.entered)

/-- Whether the candidate of one slot ranks above that of another. -/
def Pool.slotAbove (p : Pool) (a b : Nat) : Bool :=
  match p.descriptor a, p.descriptor b with
  | some x, some y => ranksAbove x y
  | some _, none => true
  | none, _ => false

/-- A slot put at its rank position in a ranked list. -/
def Pool.insertRank (p : Pool) (slot : Nat) : List Nat → List Nat
  | [] => [slot]
  | x :: l => if p.slotAbove slot x then slot :: x :: l else x :: p.insertRank slot l

/-- A list put back into rank order (R97). -/
def Pool.rankOrder (p : Pool) : List Nat → List Nat
  | [] => []
  | x :: l => p.insertRank x (p.rankOrder l)

/-- Whether the slot's candidate is check_ok. -/
def Pool.slotOk (p : Pool) (slot : Nat) : Bool :=
  match p.descriptor slot with
  | some c => c.checkOk
  | none => false

/-- The matches of the slot's candidate. -/
def Pool.slotMatches (p : Pool) (slot : Nat) : Nat :=
  match p.descriptor slot with
  | some c => c.matchCount
  | none => 0

/-- Whether a slot's candidate holds the same data bytes with the same mark class (R97, R100). -/
def Pool.sameVersion (p : Pool) (slot : Nat) (data : List Byte) (cls : MarkClass) : Bool :=
  match p.descriptor slot with
  | some c => decide (c.markClass = cls) && decide (p.data slot data.length = data)
  | none => false

/-! ## Merging (R100) -/

/-- The larger of each pair of confidences. -/
def maxEach : List Nat → List Nat → List Nat
  | x :: a, y :: b => max x y :: maxEach a b
  | _, _ => []

/-- A reading merged into a slot's candidate: matches, confidences, score, check_ok. -/
def Pool.merge (p : Pool) (slot : Nat) (confidences : List Nat) (checkOk : Bool) : Pool :=
  match p.descriptor slot with
  | none => p
  | some c =>
    let raised := maxEach (p.confidences slot confidences.length) confidences
    { p with
      descriptors := mapSet none p.descriptors slot
        (some { c with
          matchCount := satAdd 255 c.matchCount 1
          score := raised.sum
          checkOk := c.checkOk || checkOk })
      memory := writeArea p.memory slot [] raised }

/-- A candidate made check_ok (R103). -/
def Pool.markOk (p : Pool) (slot : Nat) : Pool :=
  match p.descriptor slot with
  | none => p
  | some c => { p with descriptors := mapSet none p.descriptors slot (some { c with checkOk := true }) }

/-! ## Fusion (R119 to R126) -/

/-- One participant at one byte: the byte and its weight (R122). -/
structure Vote where
  byte : Byte
  weight : Nat
  deriving DecidableEq, Repr

/-- The weight of a participant at a byte (R122). -/
def voteWeight (confidence matchCount : Nat) : Nat := confidence * min matchCount 7

/-- The weights for a bit set and for a bit clear (R123). -/
def bitVotes (votes : List Vote) (bit : Nat) : Nat × Nat :=
  votes.foldl (fun a v => if v.byte.getLsbD bit then (a.1 + v.weight, a.2) else (a.1, a.2 + v.weight)) (0, 0)

/-- The fused bit: a tie goes to the top-ranked participant, the first (R123). -/
def fusedBit (votes : List Vote) (bit : Nat) : Bool :=
  let w := bitVotes votes bit
  if w.2 < w.1 then true
  else if w.1 < w.2 then false
  else
    match votes with
    | [] => false
    | v :: _ => v.byte.getLsbD bit

/-- The margin of a bit (R124). -/
def bitMargin (votes : List Vote) (bit : Nat) : Nat :=
  let w := bitVotes votes bit
  if w.1 + w.2 = 0 then 0 else 4 * (max w.1 w.2 - min w.1 w.2) / (w.1 + w.2)

/-- The fused byte (R123). -/
def fusedByte (votes : List Vote) : Byte :=
  BitVec.ofNat 8 (((List.range 8).map (fun k => (fusedBit votes k).toNat * 2 ^ k)).sum)

/-- The fused confidence: the least margin among the eight bits (R124). -/
def fusedConfidence (votes : List Vote) : Nat :=
  ((List.range 8).map (bitMargin votes)).foldl min 4

/-- A participant as fusion sees it. -/
structure Participant where
  slot : Nat
  data : List Byte
  confidences : List Nat
  matchCount : Nat
  markByte : Byte
  recordedCheck : Nat
  deriving DecidableEq, Repr

/-- The votes at byte `j`, in rank order. -/
def votesAt (parts : List Participant) (j : Nat) : List Vote :=
  parts.map (fun k => { byte := k.data.getD j 0, weight := voteWeight (k.confidences.getD j 0) k.matchCount })

/-- The participants: the candidates of the top-ranked one's mark class, in rank order (R121). -/
def Pool.participants (p : Pool) (slots : List Nat) (cls : MarkClass) (length : Nat) : List Participant :=
  slots.filterMap (fun slot =>
    match p.descriptor slot with
    | some c =>
      if c.markClass = cls then
        some { slot := slot, data := p.data slot length, confidences := p.confidences slot length
               matchCount := c.matchCount, markByte := c.markByte, recordedCheck := c.recordedCheck }
      else none
    | none => none)

/-- The mark class of the top-ranked candidate. -/
def Pool.topClass (p : Pool) (slots : List Nat) : MarkClass :=
  match slots with
  | [] => .data
  | slot :: _ =>
    match p.descriptor slot with
    | some c => c.markClass
    | none => .data

/-- A fusion run to its result on a scratch slot (R121 to R125). -/
def Pool.fuse (p : Pool) (prof : Profile) (volume sector length : Nat) (slots : List Nat) : Scratch :=
  let cls := p.topClass slots
  let parts := p.participants slots cls length
  let mark := (parts.map (·.markByte)).headD 0
  if parts.length < 3 then
    { volume := volume, sector := sector, participants := parts.map (·.slot), data := [], confidences := []
      markClass := cls, markByte := mark, check := 0, result := .tooFew }
  else
    let data := (List.range length).map (fun j => fusedByte (votesAt parts j))
    let check := mediumCheck prof (mark :: data)
    { volume := volume, sector := sector, participants := parts.map (·.slot), data := data
      confidences := (List.range length).map (fun j => fusedConfidence (votesAt parts j))
      markClass := cls, markByte := mark, check := check
      result := if parts.any (fun k => k.recordedCheck == check) then .good else .bad }

/-- A scratch slot written, or emptied (R119). -/
def Pool.setScratch (p : Pool) (ch : Chan) (x : Option Scratch) : Pool := { p with scratch := qset p.scratch ch x }

end Sys2Proof.Machine
end

