-- ==== Sys2Proof/Machine/Table.lean ====
section
/-! DEFINITION. The Recovery Table: the record store (R89), records, summaries and maps (R93 to R95), a reading taken (R98 to
R103), loss and reversion (R104, R105). -/

namespace Sys2Proof.Machine

/-! ## The record store (R89) -/

/-- Records of a volume: T × S. -/
def Volume.size (v : Volume) : Nat := v.trackCount * v.sectors

/-- The runs of the mounted volumes: base and length. -/
def State.runs (s : State) : List (Nat × Nat) :=
  (qlist s.volumes).filterMap (fun v => v.map (fun w => (w.base, w.size)))

/-- Whether records b to b + n - 1 exist and are all free. -/
def runFree (runs : List (Nat × Nat)) (b n : Nat) : Bool :=
  decide (b + n ≤ Config.recordCount) && runs.all (fun r => decide (b + n ≤ r.1) || decide (r.1 + r.2 ≤ b))

/-- The least of a list of numbers. -/
def leastOf : List Nat → Option Nat
  | [] => none
  | x :: l =>
    match leastOf l with
    | none => some x
    | some y => some (min x y)

/-- First fit: the lowest base whose run is free (R89).  A lowest base is 0 or the end of a run. -/
def firstFit (runs : List (Nat × Nat)) (n : Nat) : Option Nat :=
  leastOf ((0 :: runs.map (fun r => r.1 + r.2)).filter (fun b => runFree runs b n))

/-- Free records (R89). -/
def State.freeRecords (s : State) : Nat := Config.recordCount - (s.runs.map (·.2)).sum

/-! ## Records (R93 to R95) -/

/-- A record as MOUNT sets it (R93). -/
def SectorRecord.fresh : SectorRecord :=
  { state := .unseen, candidates := [], fusionArmed := false, reads := 0, settled := none
    deletedSeen := false, overflowed := false, dissent := false, truncatedSeen := false }

/-- The record of a sector index. -/
def Volume.record (v : Volume) (i : Nat) : SectorRecord := mapGet .fresh v.records i

/-- The class a state counts in (R94). -/
def classOf : RecordState → RecordClass
  | .unseen => .opn
  | .weak => .opn
  | .contested => .opn
  | .settled => .settled
  | .lost => .lost
  | .excluded => .excluded

/-- One record out of a class. -/
def Counts.lower (c : Counts) : RecordClass → Counts
  | .opn => { c with opn := c.opn - 1 }
  | .settled => { c with settled := c.settled - 1 }
  | .lost => { c with lost := c.lost - 1 }
  | .excluded => { c with excluded := c.excluded - 1 }

/-- One record into a class. -/
def Counts.raise (c : Counts) : RecordClass → Counts
  | .opn => { c with opn := c.opn + 1 }
  | .settled => { c with settled := c.settled + 1 }
  | .lost => { c with lost := c.lost + 1 }
  | .excluded => { c with excluded := c.excluded + 1 }

/-- A record moved between classes (R94). -/
def Counts.move (c : Counts) (old new : RecordClass) : Counts := if old = new then c else (c.lower old).raise new

/-- A map bit set or cleared (R95). -/
def setBit (m : List Nat) (i : Nat) (b : Bool) : List Nat := if b then insertAsc m i else m.filter (· ≠ i)

/-- A record written: its track's summary, the totals and the maps change with its state (R94, R95). -/
def Volume.putRecord (v : Volume) (i : Nat) (r : SectorRecord) : Volume :=
  let old := classOf (v.record i).state
  let new := classOf r.state
  { v with
    records := mapSet .fresh v.records i r
    summaries := modifyAt (fun c => c.move old new) v.summaries (i / v.sectors)
    totals := v.totals.move old new
    settledMap := if old = new then v.settledMap else setBit v.settledMap i (decide (r.state = .settled))
    exclusionMap := if old = new then v.exclusionMap else setBit v.exclusionMap i (decide (r.state = .excluded)) }

/-- The summary of a track (R94). -/
def Volume.summary (v : Volume) (t : Nat) : Counts :=
  v.summaries.getD t { opn := 0, settled := 0, lost := 0, excluded := 0 }

/-- The sector indices of a track. -/
def Volume.trackSectors (v : Volume) (t : Nat) : List Nat := (List.range v.sectors).map (fun k => t * v.sectors + k)

/-! ## Loss and reversion (R104, R105) -/

/-- An open record becomes LOST. -/
def Volume.loseRecord (v : Volume) (i : Nat) : Volume :=
  let r := v.record i
  if classOf r.state = .opn then v.putRecord i { r with state := .lost } else v

/-- The open records of a track become LOST (R104). -/
def Volume.loseTrack (v : Volume) (t : Nat) : Volume := (v.trackSectors t).foldl Volume.loseRecord v

/-- The open state that candidates give (R105). -/
def stateOfCandidates (p : Pool) (slots : List Nat) : RecordState :=
  if 2 ≤ slots.countP p.slotOk then .contested
  else if slots.isEmpty then .unseen
  else .weak

/-- A LOST record takes the state its candidates give. -/
def Volume.revertRecord (p : Pool) (v : Volume) (i : Nat) : Volume :=
  let r := v.record i
  if r.state = .lost then v.putRecord i { r with state := stateOfCandidates p r.candidates } else v

/-- The LOST records of a track reverted (R105). -/
def Volume.revertTrack (v : Volume) (p : Pool) (t : Nat) : Volume :=
  (v.trackSectors t).foldl (Volume.revertRecord p) v

/-! ## A reading taken (R98 to R103) -/

/-- What the handling of one reading works on: the record, the pool, image memory. -/
structure Work where
  record : SectorRecord
  pool : Pool
  image : SMap Area

/-- What is fixed while a reading is handled: the channel, the profile, the volume's serial as just raised, the record's number,
the reading. -/
structure ReadingEnv where
  channel : Chan
  profile : Profile
  serial : Nat
  recordNumber : Nat
  reading : Reading

/-- Reads and flags (R98). -/
def SectorRecord.countRead (r : SectorRecord) (x : Reading) : SectorRecord :=
  { r with
    reads := satAdd 65535 r.reads 1
    deletedSeen := r.deletedSeen || decide (x.markClass = .deleted)
    truncatedSeen := r.truncatedSeen || x.truncated }

/-- A reading for a SETTLED record (R99). -/
def Work.compareSettled (w : Work) (e : ReadingEnv) : Work :=
  match w.record.settled with
  | none => w
  | some info =>
    let length := e.reading.data.length
    let area := areaOf w.image e.recordNumber
    if area.data.take length = e.reading.data ∧ info.markClass = e.reading.markClass then
      { w with
        record := { w.record with settled := some { info with matchCount := satAdd 255 info.matchCount 1 } }
        image := writeArea w.image e.recordNumber [] (maxEach (area.confidences.take length) e.reading.confidences) }
    else if e.reading.checkOk then { w with record := { w.record with dissent := true } }
    else w

/-- The READ candidate of a reading (R101, R114). -/
def readCandidate (e : ReadingEnv) (entered : Nat) : Candidate :=
  { volume := e.reading.volume, sector := e.reading.sector, markClass := e.reading.markClass
    checkOk := e.reading.checkOk, origin := .read, matchCount := 1, score := e.reading.confidences.sum
    serial := e.serial, markByte := e.reading.markByte, recordedCheck := e.reading.recordedCheck, entered := entered }

/-- A new candidate put into a record's list in rank order; `armed` is what fusion armed becomes. -/
def Work.enter (w : Work) (slot : Nat) (pool : Pool) (kept : List Nat) (armed overflowed : Bool) : Work :=
  { w with
    pool := { pool with entries := pool.entries + 1 }
    record := { w.record with
      candidates := pool.rankOrder (kept ++ [slot]), fusionArmed := armed, overflowed := w.record.overflowed || overflowed } }

/-- No room for a new candidate: it takes the slot of the lowest-ranked candidate when it ranks above it (R101, R118, R126). -/
def Work.replaceLowest (w : Work) (c : Candidate) (data : List Byte) (confidences : List Nat) (armed : Bool) : Work :=
  match w.record.candidates.getLast? with
  | none => { w with record := { w.record with overflowed := true } }
  | some slot =>
    match w.pool.descriptor slot with
    | none => { w with record := { w.record with overflowed := true } }
    | some lowest =>
      if ranksAbove c lowest then
        w.enter slot (w.pool.write slot c data confidences) w.record.candidates.dropLast armed true
      else { w with record := { w.record with overflowed := true } }

/-- A new candidate: a free slot where the list and the pool have room (R101, R115), else the no-room path. -/
def Work.addCandidate (w : Work) (c : Candidate) (data : List Byte) (confidences : List Nat) (armed : Bool) : Work :=
  if w.record.candidates.length < Config.maxCandidates then
    match w.pool.allocate c data confidences with
    | some (slot, pool) => w.enter slot pool w.record.candidates armed false
    | none => w.replaceLowest c data confidences armed
  else w.replaceLowest c data confidences armed

/-- A reading merged into a candidate, or a new candidate of it (R100, R101). -/
def Work.mergeOrForm (w : Work) (e : ReadingEnv) : Work :=
  match w.record.candidates.find? (fun slot => w.pool.sameVersion slot e.reading.data e.reading.markClass) with
  | some slot =>
    let pool := w.pool.merge slot e.reading.confidences e.reading.checkOk
    { w with
      pool := pool
      record := { w.record with candidates := pool.rankOrder w.record.candidates, fusionArmed := true } }
  | none => w.addCandidate (readCandidate e w.pool.entries) e.reading.data e.reading.confidences true

/-- The record settled with data, confidences and how (R102, R103): its slots are returned. -/
def Work.settle (w : Work) (e : ReadingEnv) (data : List Byte) (confidences : List Nat) (info : SettledInfo) : Work :=
  { record := { w.record with state := .settled, candidates := [], fusionArmed := false, settled := some info }
    pool := w.pool.giveBackAll w.record.candidates
    image := writeArea w.image e.recordNumber data confidences }

/-- Whether a slot's candidate settles the record by quorum (R102): check_ok, matches at the quorum, and 2 more than every other
check_ok candidate. -/
def Work.hasQuorum (w : Work) (quorum slot : Nat) : Bool :=
  w.pool.slotOk slot && decide (quorum ≤ w.pool.slotMatches slot) &&
    w.record.candidates.all (fun other =>
      decide (other = slot) || !w.pool.slotOk other ||
        decide (w.pool.slotMatches other + 2 ≤ w.pool.slotMatches slot))

/-- The mark class of a slot's candidate. -/
def Pool.slotClass (p : Pool) (slot : Nat) : MarkClass :=
  match p.descriptor slot with
  | some c => c.markClass
  | none => .data

/-- WEAK or CONTESTED, but a LOST record stays LOST (R103). -/
def Work.become (w : Work) (st : RecordState) : Work :=
  if w.record.state = .lost then w else { w with record := { w.record with state := st } }

/-- The FUSED candidate of a fusion result (R126). -/
def fusedCandidate (e : ReadingEnv) (sc : Scratch) (entered : Nat) : Candidate :=
  { volume := e.reading.volume, sector := e.reading.sector, markClass := sc.markClass, checkOk := true, origin := .fused
    matchCount := 0, score := sc.confidences.sum, serial := e.serial, markByte := sc.markByte, recordedCheck := sc.check
    entered := entered }

/-- The record takes a fusion result (R103, R126, R127). -/
def Work.takeFusion (w : Work) (e : ReadingEnv) (sc : Scratch) : Work :=
  match sc.result with
  | .bad => w.become .weak
  | .tooFew => w.become .weak
  | .good =>
    match w.record.candidates.find? (fun slot => w.pool.sameVersion slot sc.data sc.markClass) with
    | some slot =>
      let pool := w.pool.markOk slot
      let w := { w with
        pool := pool, record := { w.record with candidates := pool.rankOrder w.record.candidates } }
      if e.profile.fusionSettles then
        w.settle e sc.data sc.confidences
          { by_ := .fusion, markClass := sc.markClass, pass := e.reading.passNumber, matchCount := pool.slotMatches slot }
      else w.become .weak
    | none =>
      if e.profile.fusionSettles then
        w.settle e sc.data sc.confidences
          { by_ := .fusion, markClass := sc.markClass, pass := e.reading.passNumber, matchCount := 1 }
      else (w.addCandidate (fusedCandidate e sc w.pool.entries) sc.data sc.confidences w.record.fusionArmed).become .weak

/-- The record evaluated (R102, R103). -/
def Work.evaluate (w : Work) (e : ReadingEnv) : Work :=
  match w.record.candidates.find? (w.hasQuorum e.profile.quorum) with
  | some slot =>
    let length := e.reading.data.length
    w.settle e (w.pool.data slot length) (w.pool.confidences slot length)
      { by_ := .quorum, markClass := w.pool.slotClass slot, pass := e.reading.passNumber
        matchCount := w.pool.slotMatches slot }
  | none =>
    let good := w.record.candidates.countP w.pool.slotOk
    if 2 ≤ good then w.become .contested
    else if good = 0 ∧ 3 ≤ w.record.candidates.length ∧ w.record.fusionArmed then
      let sc := w.pool.fuse e.profile e.reading.volume e.reading.sector e.reading.data.length w.record.candidates
      let w := { w with record := { w.record with fusionArmed := false }, pool := w.pool.setScratch e.channel (some sc) }
      let w := w.takeFusion e sc
      { w with pool := w.pool.setScratch e.channel none }
    else if w.record.candidates.isEmpty then w
    else w.become .weak

/-- The handling of a reading by the record's state (R98), as one step with the fusion and the slots it takes (R117, R128). -/
def Work.takeReading (w : Work) (e : ReadingEnv) : Work :=
  match w.record.state with
  | .excluded => w
  | .settled => { w with record := w.record.countRead e.reading }.compareSettled e
  | .unseen | .weak | .contested | .lost =>
    (({ w with record := w.record.countRead e.reading } : Work).mergeOrForm e).evaluate e

/-- A reading taken for the volume mounted on a channel; discarded where it names a released one (R92, R98). -/
def State.takeReading (s : State) (ch : Chan) (x : Reading) : State :=
  match s.volume ch with
  | none => s
  | some v =>
    if v.uid ≠ x.volume then s
    else
      let v := { v with serial := satAdd Config.serialMax v.serial 1 }
      let e : ReadingEnv :=
        { channel := ch, profile := s.chanProfile ch, serial := v.serial, recordNumber := v.base + x.sector, reading := x }
      let w := Work.takeReading { record := v.record x.sector, pool := s.pool, image := s.image } e
      ((s.setVolume ch (some (v.putRecord x.sector w.record))).setPool w.pool).setImage w.image

end Sys2Proof.Machine
end

