-- ==== Sys2Proof/Machine/Planning.lean ====
section
/-! DEFINITION. The Pass Planner: plan entries (R129, R130), the ladder (R131), costs (R132), choice and order (R133 to R136),
reports (R137, R138), tells (R139), open counts changed by EXCLUDE (R140), notices (R141). -/

namespace Sys2Proof.Machine

/-! ## Plan entries -/

/-- The plan entry of a track (R130). -/
def Volume.plan (v : Volume) (t : Nat) : TrackPlan :=
  v.planner.tracks.getD t { state := .done, passesUsed := 0, ladderStep := 0, misplaced := false }

/-- The planner's fields changed. -/
def Volume.setPlanner (v : Volume) (f : Planner → Planner) : Volume := { v with planner := f v.planner }

/-- A plan entry changed. -/
def Volume.setPlan (v : Volume) (t : Nat) (f : TrackPlan → TrackPlan) : Volume :=
  v.setPlanner (fun a => { a with tracks := modifyAt f a.tracks t })

/-- Whether the pending-track map has a track's bit set (R130). -/
def Volume.isPending (v : Volume) (t : Nat) : Bool := v.planner.pendingMap.getD t false

/-- A track's state changed, its bit of the pending-track map with it (R130). -/
def Volume.setTrackState (v : Volume) (t : Nat) (st : TrackState) : Volume :=
  let bit := match st with
    | .pending => true
    | .active => true
    | .done => false
    | .exhausted => false
  v.setPlanner (fun a => { a with
    tracks := modifyAt (fun e => { e with state := st }) a.tracks t
    pendingMap := modifyAt (fun _ => bit) a.pendingMap t })

/-- The planner's part of a new context (R129, R130). -/
def Planner.atMount (p : Profile) : Planner :=
  { run := .stopped, halt := .none, phase := .survey, surveyCursor := 0, sweep := .up, currentTrack := 0, fruitful := false
    outstanding := none, baseline := 0, passBudget := p.trackPassBudget, wearUsed := 0, wearBudget := p.wearBudget
    pendingMap := List.replicate (trackCountOf p) true
    tracks := List.replicate (trackCountOf p)
      { state := .pending, passesUsed := 0, ladderStep := 0, misplaced := false } }

/-! ## Notices (R141, R174) -/

/-- The four counts, in the order of the layouts: open first or settled first. -/
def countsSettledFirst (c : Counts) : List Byte := le2 c.settled ++ le2 c.opn ++ le2 c.lost ++ le2 c.excluded

/-- A TRACK notice. -/
def State.trackNotice (s : State) (ch : Chan) (v : Volume) (t : Nat) : State :=
  let e := v.plan t
  let c := v.summary t
  s.notify ch .track
    (b1 ch.val ++ le4 v.tag ++ le2 t ++ b1 (trackStateByte e.state) ++ b1 e.passesUsed ++ b1 e.ladderStep ++
      le2 c.opn ++ le2 c.settled ++ le2 c.lost ++ le2 c.excluded)

/-- A VOLUME notice. -/
def State.volumeNotice (s : State) (ch : Chan) (v : Volume) : State :=
  let a := v.planner
  s.notify ch .volume
    (b1 ch.val ++ le4 v.tag ++ b1 (runByte a.run) ++ b1 (haltByte a.halt) ++ b1 (phaseByte a.phase) ++
      le2 a.wearUsed ++ le2 a.wearBudget ++ countsSettledFirst v.totals)

/-- The six tallies in the order of R88. -/
def talliesBytes (t : Tallies) : List Byte :=
  le2 t.goodHeaders ++ le2 t.wrongTrack ++ le2 t.outOfGeometry ++ le2 t.badHeader ++ le2 t.orphans ++ le2 t.misplaced

/-- What a PASS notice tells beside the report (R141). -/
structure PassFacts where
  passNumber : Nat
  ladderStep : Nat
  settledNow : Nat
  misplaced : Bool

/-- A PASS notice; the window-hit flag and the tallies are clear where capture did not begin (R141). -/
def State.passNotice (s : State) (ch : Chan) (v : Volume) (r : PassReport) (f : PassFacts) : State :=
  let c := s.channel ch
  let hit := r.captureBegan && c.separator.windowHit
  let tallies := if r.captureBegan then c.decoder.tallies else .zero
  s.notify ch .pass
    (b1 ch.val ++ le4 v.tag ++ le2 r.track ++ b1 f.passNumber ++ b1 f.ladderStep ++ yesNo (!r.completed) ++
      b1 (causeByte r.cause) ++ b1 r.units ++ le2 f.settledNow ++ le2 (v.summary r.track).opn ++
      yesNo f.misplaced ++ yesNo hit ++ talliesBytes tallies)

/-! ## The ladder and the cost of a pass (R131, R132, R136) -/

/-- Gain of a ladder step. -/
def ladderGain (p : Profile) (step : Nat) : Nat :=
  match step with
  | 1 => min (2 * p.gain) 63
  | 5 => max (p.gain / 2) 1
  | _ => p.gain

/-- Window of a ladder step. -/
def ladderWindow (p : Profile) (step : Nat) : Nat :=
  match step with
  | 2 => min (2 * p.window) 16
  | 5 => min (2 * p.window) 16
  | _ => p.window

/-- Head offset of a ladder step. -/
def ladderOffset (step : Nat) : Offset :=
  match step with
  | 3 => .plus
  | 4 => .minus
  | _ => .zero

/-- Revolutions of a ladder step: 1 on a cartridge. -/
def ladderRevolutions (p : Profile) (step : Nat) : Nat :=
  match p.medium with
  | .cartridge => 1
  | .floppySoft => if step = 5 then 3 else 1
  | .floppyHard => if step = 5 then 3 else 1

/-- The step after a fruitless pass. -/
def nextStep (p : Profile) (step : Nat) : Nat :=
  if step = 2 ∧ ¬ p.offsetCapable then 5 else min (step + 1) 5

/-- The direction of an order, and whether it needs a winding first (R136). -/
def orderDirection (p : Profile) (c : Channel) : Direction × Bool :=
  match p.medium with
  | .floppySoft => (.forward, false)
  | .floppyHard => (.forward, false)
  | .cartridge =>
    if ¬ c.positionKnown ∨ c.recal.isSome then (.forward, false)
    else
      match c.tapeEnd with
      | .bot => (.forward, false)
      | .eot => if p.reverseAllowed then (.reverse, false) else (.forward, true)
      | .none => (.forward, true)

/-- The cost of a pass (R132). -/
def passCost (p : Profile) (c : Channel) (step : Nat) : Nat :=
  match p.medium with
  | .cartridge => 1 + (orderDirection p c).2.toNat
  | .floppySoft => ladderRevolutions p step
  | .floppyHard => ladderRevolutions p step

/-! ## Choice (R133, R134) -/

/-- The nearest pending track at or above `t`, within `fuel` tracks. -/
def Volume.pendingUp (v : Volume) : Nat → Nat → Option Nat
  | 0, _ => none
  | fuel + 1, t => if v.isPending t then some t else Volume.pendingUp v fuel (t + 1)

/-- The nearest pending track below `t`. -/
def Volume.pendingBelow (v : Volume) : Nat → Option Nat
  | 0 => none
  | t + 1 => if v.isPending t then some t else Volume.pendingBelow v t

/-- The scan of R134 from the track next to the current one. -/
def Volume.scanFrom (v : Volume) (dir : Sweep) (t : Nat) : Option Nat :=
  match dir with
  | .up => v.pendingUp (v.trackCount - (t + 1)) (t + 1)
  | .down => v.pendingBelow t

/-- The other direction. -/
def Sweep.opposite : Sweep → Sweep
  | .up => .down
  | .down => .up

/-- The choice of R134: the track, and the sweep direction as the choice leaves it. -/
def Volume.recoveryChoice (v : Volume) : Option Nat × Sweep :=
  let a := v.planner
  let here := a.currentTrack
  if v.isPending here ∧ (a.fruitful ∨ (v.plan here).misplaced) then (some here, a.sweep)
  else
    match v.scanFrom a.sweep here with
    | some t => (some t, a.sweep)
    | none =>
      let back := a.sweep.opposite
      match v.scanFrom back here with
      | some t => (some t, back)
      | none => (if v.isPending here then some here else none, back)

/-- The choice by phase (R133, R134), with the volume as the choice leaves it. -/
def Volume.choice (v : Volume) : Option Nat × Volume :=
  let recover (w : Volume) : Option Nat × Volume :=
    let r := w.recoveryChoice
    (r.1, w.setPlanner (fun a => { a with sweep := r.2 }))
  match v.planner.phase with
  | .recovery => recover v
  | .survey =>
    match v.pendingUp (v.trackCount - v.planner.surveyCursor) v.planner.surveyCursor with
    | some t => (some t, v)
    | none => recover (v.setPlanner (fun a => { a with phase := .recovery, sweep := .down }))

/-! ## Ends of a volume (R135) -/

/-- Every track is DONE. -/
def Volume.allDone (v : Volume) : Bool := v.planner.tracks.all (fun e => decide (e.state = .done))

/-- A track made EXHAUSTED, its open records LOST (R104, R135, R137). -/
def Volume.exhaust (v : Volume) (t : Nat) : Volume := (v.setTrackState t .exhausted).loseTrack t

/-- The wear is spent: every track not DONE is made EXHAUSTED, in ascending order (R135). -/
def Volume.wearSpent (v : Volume) : Volume :=
  ((List.range v.trackCount).foldl (fun w t => if (w.plan t).state = .done then w else w.exhaust t) v).setPlanner
    (fun a => { a with run := .endedPartial })

/-- No track to choose: the volume ends (R135). -/
def Volume.ended (v : Volume) : Volume :=
  v.setPlanner (fun a => { a with run := if v.allDone then .complete else .endedPartial })

/-! ## Ordering (R136) -/

/-- The order of a chosen track. -/
def Volume.orderFor (v : Volume) (p : Profile) (c : Channel) (t : Nat) : PassOrder :=
  let step := (v.plan t).ladderStep
  { volume := v.uid, track := t, direction := (orderDirection p c).1, offset := ladderOffset step
    revolutions := ladderRevolutions p step, gain := ladderGain p step, window := ladderWindow p step
    passNumber := (v.plan t).passesUsed + 1 }

/-- The planner's fields as the order is given. -/
def Volume.givenOrder (v : Volume) (t : Nat) : Volume :=
  (v.setTrackState t .active).setPlanner (fun a => { a with
    currentTrack := t, baseline := (v.summary t).settled, outstanding := some t })

/-- The order given to the channel. -/
def State.giveOrder (s : State) (ch : Chan) (v : Volume) (t : Nat) : State :=
  let p := s.chanProfile ch
  let c := s.channel ch
  (s.setVolume ch (some (v.givenOrder t))).putChannel ch (c.takeOrder p (v.orderFor p c t))

/-- The choice of a pass, through the checks of R135, to an order or the end of the volume (R133 to R136).  `fuel` bounds the
tracks found at their pass budget. -/
def State.chooseFrom : Nat → State → Chan → State
  | 0, s, _ => s
  | fuel + 1, s, ch =>
    match s.volume ch with
    | none => s
    | some v0 =>
      let choice := v0.choice
      let v := choice.2
      match choice.1 with
      | none => (s.setVolume ch (some v.ended)).volumeNotice ch v.ended
      | some t =>
        if v.planner.passBudget ≤ (v.plan t).passesUsed then
          let w := v.exhaust t
          State.chooseFrom fuel ((s.setVolume ch (some w)).trackNotice ch w t) ch
        else if v.planner.wearBudget <
            v.planner.wearUsed + passCost (s.chanProfile ch) (s.channel ch) (v.plan t).ladderStep then
          (s.setVolume ch (some v.wearSpent)).volumeNotice ch v.wearSpent
        else s.giveOrder ch v t

/-- The planner chooses. -/
def State.choosePass (s : State) (ch : Chan) : State :=
  match s.volume ch with
  | none => s
  | some v => s.chooseFrom (v.trackCount + 1) ch

/-! ## Reports (R137, R138) -/

/-- Counts of a reported pass (R132, R137 step 1, R138 step 1): the track PENDING again, the order no longer outstanding. -/
def Volume.chargePass (v : Volume) (r : PassReport) : Volume :=
  ((v.setTrackState r.track .pending).setPlan r.track (fun e => { e with
      passesUsed := if r.captureBegan then satAdd 255 e.passesUsed 1 else e.passesUsed })).setPlanner
    (fun a => { a with
      outstanding := none
      wearUsed := min (a.wearUsed + r.units) a.wearBudget })

/-- Sectors settled in a reported pass (R137). -/
def Volume.settledThisPass (v : Volume) (t : Nat) : Nat := (v.summary t).settled - v.planner.baseline

/-- A pass is misplaced by its tallies (R137 step 2). -/
def passMisplaced (t : Tallies) : Bool := decide (1 ≤ t.wrongTrack) && decide (t.goodHeaders ≤ t.wrongTrack)

/-- Misplacement and fruit of a completed pass (R137 steps 2 and 3). -/
def Volume.judge (v : Volume) (p : Profile) (t settledNow : Nat) (misplaced : Bool) : Volume :=
  let fruitless := v.planner.phase = .recovery ∧ ¬ misplaced ∧ settledNow = 0
  let v := v.setPlan t (fun e => { e with
    misplaced := misplaced, ladderStep := if fruitless then nextStep p e.ladderStep else e.ladderStep })
  v.setPlanner (fun a => { a with
    fruitful := decide (1 ≤ settledNow)
    surveyCursor := if a.phase = .survey ∧ ¬ misplaced then t + 1 else a.surveyCursor })

/-- A track with no open record becomes DONE, with a TRACK notice (R137 step 4, R138 step 2). -/
def State.trackDone (s : State) (ch : Chan) (v : Volume) (t : Nat) : State :=
  let w := v.setTrackState t .done
  (s.setVolume ch (some w)).trackNotice ch w t

/-- The PASS notice of a verbose volume (R137 step 6, R138 step 3). -/
def State.passNoticeIfVerbose (s : State) (ch : Chan) (r : PassReport) (f : PassFacts) : State :=
  match s.volume ch with
  | none => s
  | some v => if v.verbose then s.passNotice ch v r f else s

/-- Onward after a report (R137 step 7, R138 step 5). -/
def State.onward (s : State) (ch : Chan) : State :=
  match s.volume ch with
  | none => s
  | some v =>
    match v.planner.run with
    | .pausing => s.setVolume ch (some (v.setPlanner (fun a => { a with run := .paused })))
    | .running => s.choosePass ch
    | .stopped | .paused | .complete | .endedPartial | .halted => s

/-- A pass-end report taken for the volume's outstanding order (R137). -/
def State.takeEndReport (s : State) (ch : Chan) (v0 : Volume) (r : PassReport) : State :=
  let c := s.channel ch
  let entry := v0.plan r.track
  let settledNow := v0.settledThisPass r.track
  let misplaced := passMisplaced c.decoder.tallies
  let v := (v0.chargePass r).judge (s.chanProfile ch) r.track settledNow misplaced
  let s := if misplaced then s.putChannel ch { c with positionKnown := false } else s
  let facts : PassFacts :=
    { passNumber := entry.passesUsed + 1, ladderStep := entry.ladderStep, settledNow := settledNow, misplaced := misplaced }
  let s :=
    if (v.summary r.track).opn = 0 then s.trackDone ch v r.track
    else if v.planner.passBudget ≤ (v.plan r.track).passesUsed then
      let w := v.exhaust r.track
      (s.setVolume ch (some w)).trackNotice ch w r.track
    else s.setVolume ch (some v)
  (s.passNoticeIfVerbose ch r facts).onward ch

/-- The halt reason of a cut's cause; `none` for causes that do not halt (R138 step 4). -/
def haltOf : Cause → Option HaltReason
  | .none => none
  | .abort => none
  | .fault c => some (.fault c)
  | .media => some .mediaGone

/-- A RUNNING or PAUSING volume HALTED, with a VOLUME notice (R138 step 4, R139). -/
def State.haltVolume (s : State) (ch : Chan) (reason : HaltReason) : State :=
  match s.volume ch with
  | none => s
  | some v =>
    if v.planner.run = .running ∨ v.planner.run = .pausing then
      let w := v.setPlanner (fun a => { a with run := .halted, halt := reason })
      (s.setVolume ch (some w)).volumeNotice ch w
    else s

/-- A cut report taken for the volume's outstanding order (R138). -/
def State.takeCutReport (s : State) (ch : Chan) (v0 : Volume) (r : PassReport) : State :=
  let entry := v0.plan r.track
  let settledNow := v0.settledThisPass r.track
  let v := (v0.chargePass r).setPlanner (fun a => { a with fruitful := decide (1 ≤ settledNow) })
  let facts : PassFacts :=
    { passNumber := entry.passesUsed + 1, ladderStep := entry.ladderStep, settledNow := settledNow, misplaced := false }
  let s := if (v.summary r.track).opn = 0 then s.trackDone ch v r.track else s.setVolume ch (some v)
  let s := s.passNoticeIfVerbose ch r facts
  let s :=
    match haltOf r.cause with
    | none => s
    | some reason => s.haltVolume ch reason
  s.onward ch

/-! ## Tells and cut orders (R139, R144) -/

/-- A cut order sent to a channel (R41). -/
def State.sendCutOrder (s : State) (ch : Chan) : State :=
  s.putChannel ch ((s.channel ch).takeCutOrder (s.chanProfile ch))

/-- A fault with no pass in progress, or a media change, told to the planner (R139). -/
def State.tellPlanner (s : State) (ch : Chan) (reason : HaltReason) : State :=
  match s.volume ch with
  | none => s
  | some v =>
    if v.planner.run = .running ∨ v.planner.run = .pausing then
      let s := s.haltVolume ch reason
      if v.planner.outstanding.isSome then s.sendCutOrder ch else s
    else s

/-- A RUNNING or PAUSING volume STOPPED, its outstanding order cut (R144). -/
def State.abortRun (s : State) (ch : Chan) : State :=
  match s.volume ch with
  | none => s
  | some v =>
    if v.planner.run = .running ∨ v.planner.run = .pausing then
      let s := s.setVolume ch (some (v.setPlanner (fun a => { a with run := .stopped })))
      if v.planner.outstanding.isSome then s.sendCutOrder ch else s
    else s

/-! ## Open counts changed by EXCLUDE (R140) -/

/-- The planner told of one track's new open count. -/
def State.tellOpenCount (s : State) (ch : Chan) (t : Nat) : State :=
  match s.volume ch with
  | none => s
  | some v =>
    match (v.plan t).state with
    | .active => s
    | .exhausted => s
    | .pending => if (v.summary t).opn = 0 then s.trackDone ch v t else s
    | .done =>
      if (v.summary t).opn = 0 then s
      else
        let w := (v.setTrackState t .pending).setPlanner (fun a => { a with
          run := match a.run with
            | .complete => .stopped
            | .endedPartial => .stopped
            | r => r })
        (s.setVolume ch (some w)).trackNotice ch w t

end Sys2Proof.Machine
end

