-- ==== Sys2Proof/Machine/Channels.lean ====
section
/-! DEFINITION. The events of a drive channel with what they touch beyond it: the end of a recalibration (R48, R49), faults (R44),
media changes (R45, R46), the RECAL request (R47); and the commands of the channels.

A command whose event the channel's state does not wait for sets the pins and nothing else (R43: an event that comes after
its timer's expiry was taken has no effect).  notes/assumptions/9.md. -/

namespace Sys2Proof.Machine

/-! ## Recalibration -/

/-- The profile a recalibration is timed by: that of R47 where the request was accepted with no volume mounted. -/
def State.recalProfile (s : State) (ch : Chan) (c : Channel) : Profile :=
  match c.recal with
  | none => s.chanProfile ch
  | some f => if f.noVolume then noVolumeProfile else s.chanProfile ch

/-- The pass order a recalibration served on goes on with, from the first stage needed (R28, R49). -/
def Channel.resume (c : Channel) (p : Profile) (o : PassOrder) : Channel :=
  { c with heldOrder := none, pass := some (Pass.ofOrder o) }.afterRecal p (Pass.ofOrder o)

/-- A recalibration found its end sensor: the channel goes on with its pass, its held order, or to HOLDING, and a request is
answered OK (R28, R29, R48, R49).  `c` is the channel as it found the sensor. -/
def State.recalEnds (s : State) (ch : Chan) (c : Channel) : State :=
  let p := s.chanProfile ch
  let d := c.recalSucceeded
  match c.recal with
  | some f =>
    let e := { d with recal := none }
    let onward := match e.heldOrder with
      | some o => e.resume p o
      | none => e.enterHolding
    (s.putChannel ch onward).reply f.id .ok []
  | none =>
    match d.pass with
    | some a => s.putChannel ch (d.afterRecal p a)
    | none => s.putChannel ch d.enterHolding

/-- RECAL entered by a channel that serves a request. -/
def State.startRecal (s : State) (ch : Chan) (c : Channel) : State :=
  let r := c.enterRecal (s.recalProfile ch c)
  if r.2 then s.recalEnds ch r.1 else s.putChannel ch r.1

/-- Whether a volume is RUNNING or PAUSING. -/
def Volume.inRun (v : Volume) : Bool := decide (v.planner.run = .running) || decide (v.planner.run = .pausing)

/-- RECAL from its second test on (R47), on a channel that is not being probed. -/
def State.takeRecal (s : State) (ch : Chan) (id : Nat) (tag : Byte) : State :=
  let c := s.channel ch
  if c.state = .absent then s.reply id .channelAbsent []
  else if (s.volume ch).any Volume.inRun then s.reply id .busy []
  else if c.recal.isSome then s.reply id .busy []
  else
    let c := { c with
      recal := some { id := id, tag := tag, noVolume := (s.volume ch).isNone }, moved := false, holdTimer := none }
    if motorOn c.state then s.startRecal ch c else s.putChannel ch (c.enterSpinup (s.recalProfile ch c))

/-- RECAL (R47); a request that finds the channel being probed waits for the sense (R23). -/
def State.serveRecal (s : State) (id : Nat) (tag : Byte) (payload : List Byte) : State :=
  match payloadChan payload with
  | none => s.reply id .badChannel []
  | some ch =>
    let c := s.channel ch
    match c.probe with
    | some b => s.putChannel ch { c with probe := some { b with deferred := b.deferred ++ [.recal id tag] } }
    | none => s.takeRecal ch id tag

/-! ## Faults (R44) -/

/-- The payload of a FAULT notice (R174). -/
def faultPayload (ch : Chan) (code : FaultCode) (was : ChanState) (track : Option Nat) (count : Nat) : List Byte :=
  b1 ch.val ++ b1 (faultByte code) ++ b1 (chanStateByte was) ++ yesNo track.isSome ++ le2 (track.getD 0) ++ b1 count

/-- The channel after a fault: pass cut, lines released, FAULTED (R44 steps 1 to 4). -/
def Channel.faulted (c : Channel) (p : Profile) (code : FaultCode) : Channel :=
  { (c.cutPass p (.fault code) .none).dropHeld (.fault code) .none with
    state := .faulted, positionKnown := false, tapeEnd := .none, faultCode := code
    faultCount := satAdd 3 c.faultCount 1, recal := none, recalStage := none, stageTimer := none, holdTimer := none }

/-- A RECAL request in flight answered, where there is one. -/
def State.answerRecal (s : State) (flight : Option RecalFlight) (status : Status) (fields : List Byte) : State :=
  match flight with
  | none => s
  | some f => s.reply f.id status fields

/-- A fault of any code (R44).  A capture that has already ended is a completed pass (R43). -/
def State.fault (s : State) (ch : Chan) (code : FaultCode) : State :=
  let c := (s.channel ch).finishCompletion
  let track := c.pass.map (·.order.track)
  let d := c.faulted (s.chanProfile ch) code
  let t := ((s.putChannel ch d).answerRecal c.recal .recalFailed (b1 (faultByte code))).notify ch .fault
    (faultPayload ch code c.state track d.faultCount)
  if track.isSome then t else t.tellPlanner ch (.fault code)

/-! ## Media changes (R45, R46) -/

/-- The channel after a media change that puts it in IDLE. -/
def Channel.mediaIdle (c : Channel) : Channel :=
  { c with
    state := .idle, positionKnown := false, tapeEnd := .none, holdTimer := none, stageTimer := none, recal := none
    recalStage := none }

/-- A media change on a channel with a mounted volume (R45).  The tell of step 4 follows a cut report's halt and then changes
nothing (R139), so it is made here where no pass was cut. -/
def State.mediaWithVolume (s : State) (ch : Chan) (v : Volume) : State :=
  let c := (s.channel ch).finishCompletion
  let d := ((c.cutPass (s.chanProfile ch) .media .none).dropHeld .media .none).mediaIdle
  let t := ((s.putChannel ch d).answerRecal c.recal .aborted []).setVolume ch (some { v with mediaGone := true })
  let u := if c.pass.isSome then t else t.tellPlanner ch .mediaGone
  u.notify ch .media (b1 ch.val ++ b1 (chanStateByte c.state))

/-- A media change on a channel with no volume (R46). -/
def State.mediaNoVolume (s : State) (ch : Chan) : State :=
  let c := s.channel ch
  let d := { c with mediaSeen := true }
  if c.state = .idle ∧ c.recal = none then s.putChannel ch d
  else (s.putChannel ch d.mediaIdle).answerRecal c.recal .aborted []

/-- A media change taken (R45, R46): not in ABSENT; after the sense where the channel is being probed (R23). -/
def State.takeMedia (s : State) (ch : Chan) : State :=
  let c := s.channel ch
  match c.probe with
  | some b => s.putChannel ch { c with probe := some { b with deferred := b.deferred ++ [.media] } }
  | none =>
    if c.state = .absent then s
    else
      match s.volume ch with
      | some v => s.mediaWithVolume ch v
      | none => s.mediaNoVolume ch

/-! ## Pins and timers -/

/-- The pins of a channel take new levels. -/
def State.pins (s : State) (ch : Chan) (lines : Lines) : State :=
  s.putChannel ch { s.channel ch with inputs := lines }

/-- The state's timer has expired: the channel as its rule finds it. -/
def Channel.expired (c : Channel) : Channel := { c with stageTimer := none }

/-- The spin-up timer expires (R27). -/
def State.spinupExpires (s : State) (ch : Chan) : State :=
  let c := (s.channel ch).expired
  if ¬ c.inputs.ready then s.fault ch .notReady
  else if c.recal.isSome then s.startRecal ch c
  else
    match c.pass with
    | some a => s.putChannel ch (c.beginStages (s.chanProfile ch) a)
    | none => s.putChannel ch c.enterHolding

/-- A recalibration's pulse falls due (R28, R29). -/
def State.recalPulseFalls (s : State) (ch : Chan) (issued : Nat) : State :=
  let c := s.channel ch
  if c.atOrigin then s.recalEnds ch c
  else if recalLimit c.kind ≤ issued then s.fault ch .recalFailed
  else s.putChannel ch (c.recalPulse (s.recalProfile ch c) issued)

/-- The rewind of a recalibration reaches BOT (R29). -/
def State.rewindEnds (s : State) (ch : Chan) : State :=
  let c := { (s.channel ch).expired with
    tapeEnd := .bot, recalStage := some { rewinding := false, pulses := 0 } }
  let r := c.recalSteps (s.recalProfile ch c)
  if r.2 then s.recalEnds ch r.1 else s.putChannel ch r.1

/-- States in which READY is watched (R27, R43). -/
def readyWatched : ChanState → Bool
  | .absent => false
  | .idle => false
  | .spinup => false
  | .recal => true
  | .seeking => true
  | .settling => true
  | .armed => true
  | .capturing => true
  | .winding => true
  | .holding => true
  | .faulted => false

/-- The lines with the starting marker of a pass released. -/
def releaseStart (l : Lines) : Direction → Lines
  | .forward => { l with bot := false }
  | .reverse => { l with eot := false }

/-- The lines with the far marker of a pass asserted. -/
def assertFar (l : Lines) : Direction → Lines
  | .forward => { l with eot := true }
  | .reverse => { l with bot := true }

/-- The tape end a completed pass leaves (R38). -/
def farEnd : Direction → TapeEnd
  | .forward => .eot
  | .reverse => .bot

/-- The media line after a change: CHANGE risen on a floppy, PRESENT fallen on a cartridge (R45). -/
def afterMedia (l : Lines) : StrapKind → Lines
  | .floppy => { l with change := true }
  | .cartridge => { l with present := false }

/-! ## Commands -/

/-- SPINUP_TIMER_EXPIRY (R27). -/
def execSpinupTimerExpiry (ch : Chan) (lines : Lines) (s : State) : Host.Outcome State Fault Refusal :=
  let t := s.pins ch lines
  .next (if (s.channel ch).state = .spinup then t.spinupExpires ch else t)

/-- RECAL_PULSE_DUE (R28, R29). -/
def execRecalPulseDue (ch : Chan) (lines : Lines) (s : State) : Host.Outcome State Fault Refusal :=
  let t := s.pins ch lines
  .next (match (s.channel ch).state, (s.channel ch).recalStage with
    | .recal, some { rewinding := false, pulses := n } => t.recalPulseFalls ch n
    | _, _ => t)

/-- REWIND_BOT (R29). -/
def execRewindBot (ch : Chan) (lines : Lines) (s : State) : Host.Outcome State Fault Refusal :=
  let t := s.pins ch { lines with bot := true }
  .next (match (s.channel ch).state, (s.channel ch).recalStage with
    | .recal, some { rewinding := true, .. } => t.rewindEnds ch
    | _, _ => t)

/-- REWIND_TIMER_EXPIRY (R29, R43). -/
def execRewindTimerExpiry (ch : Chan) (lines : Lines) (s : State) : Host.Outcome State Fault Refusal :=
  let t := s.pins ch lines
  .next (match (s.channel ch).state, (s.channel ch).recalStage with
    | .recal, some { rewinding := true, .. } => t.fault ch .markerLost
    | _, _ => t)

/-- SEEK_PULSE_DUE (R30). -/
def execSeekPulseDue (ch : Chan) (lines : Lines) (s : State) : Host.Outcome State Fault Refusal :=
  let t := s.pins ch lines
  .next (match (s.channel ch).state, (s.channel ch).pass with
    | .seeking, some a => t.putChannel ch ((t.channel ch).seekPulse (t.chanProfile ch) a)
    | _, _ => t)

/-- SETTLE_TIMER_EXPIRY (R31). -/
def execSettleTimerExpiry (ch : Chan) (lines : Lines) (s : State) : Host.Outcome State Fault Refusal :=
  let t := s.pins ch lines
  .next (match (s.channel ch).state, (s.channel ch).pass with
    | .settling, some a => t.putChannel ch ((t.channel ch).expired.afterSettling (t.chanProfile ch) a)
    | _, _ => t)

/-- WINDING_BOT (R32). -/
def execWindingBot (ch : Chan) (lines : Lines) (s : State) : Host.Outcome State Fault Refusal :=
  let t := s.pins ch { lines with bot := true }
  .next (match (s.channel ch).state, (s.channel ch).pass with
    | .winding, some a => t.putChannel ch ({ (t.channel ch).expired with tapeEnd := .bot }.enterArmed (t.chanProfile ch) a)
    | _, _ => t)

/-- WINDING_TIMER_EXPIRY (R32, R43). -/
def execWindingTimerExpiry (ch : Chan) (lines : Lines) (s : State) : Host.Outcome State Fault Refusal :=
  let t := s.pins ch lines
  .next (if (s.channel ch).state = .winding then t.fault ch .markerLost else t)

/-- INDEX_PULSE (R34, R35, R37), followed while MOTOR is asserted. -/
def execIndexPulse (ch : Chan) (ticks : Nat) (s : State) : Host.Outcome State Fault Refusal :=
  let c := s.channel ch
  .next (if (outputsOf c).motor then
    s.putChannel ch (c.takeIndex (s.mountedProfile ch) (s.chanProfile ch) ticks)
  else s)

/-- In ARMED, or in CAPTURING with capture going on. -/
def Channel.inCapture (c : Channel) : Bool :=
  decide (c.state = .armed) || (decide (c.state = .capturing) && !c.completing)

/-- INDEX_WATCH_EXPIRY (R37, R43). -/
def execIndexWatchExpiry (ch : Chan) (lines : Lines) (s : State) : Host.Outcome State Fault Refusal :=
  let c := s.channel ch
  let t := s.pins ch lines
  .next (if c.kind = .floppy ∧ c.inCapture then t.fault ch .indexLost else t)

/-- START_MARKER_RELEASED (R38). -/
def execStartMarkerReleased (ch : Chan) (lines : Lines) (s : State) : Host.Outcome State Fault Refusal :=
  let c := s.channel ch
  .next (match c.kind, c.state, c.pass with
    | .cartridge, .armed, some a =>
      let t := s.pins ch (releaseStart lines a.direction)
      t.putChannel ch ((t.channel ch).startCapture (t.chanProfile ch) a)
    | _, _, _ => s.pins ch lines)

/-- FAR_MARKER_ASSERTED (R38, R39). -/
def execFarMarkerAsserted (ch : Chan) (lines : Lines) (s : State) : Host.Outcome State Fault Refusal :=
  let c := s.channel ch
  .next (match c.kind, c.state, c.completing, c.pass with
    | .cartridge, .capturing, false, some a =>
      let t := s.pins ch (assertFar lines a.direction)
      t.putChannel ch ({ t.channel ch with tapeEnd := farEnd a.direction }.completePass (t.chanProfile ch) a)
    | _, _, _, _ => s.pins ch lines)

/-- MARKER_WATCH_EXPIRY (R38, R43). -/
def execMarkerWatchExpiry (ch : Chan) (lines : Lines) (s : State) : Host.Outcome State Fault Refusal :=
  let c := s.channel ch
  let t := s.pins ch lines
  .next (if c.kind = .cartridge ∧ c.inCapture then t.fault ch .markerLost else t)

/-- FLUX_TRANSITION (R36). -/
def execFluxTransition (ch : Chan) (ticks : Nat) (s : State) : Host.Outcome State Fault Refusal :=
  let c := s.channel ch
  .next (match c.pass with
    | some a => s.putChannel ch (c.takeTransition (s.chanProfile ch) a.order.volume ticks)
    | none => s)

/-- COUNTER_SATURATION (R36). -/
def execCounterSaturation (ch : Chan) (s : State) : Host.Outcome State Fault Refusal :=
  let c := s.channel ch
  .next (match c.pass with
    | some a => s.putChannel ch (c.saturateCounter (s.chanProfile ch) a.order.volume)
    | none => s)

/-- HOLD_TIMER_EXPIRY (R40). -/
def execHoldTimerExpiry (ch : Chan) (lines : Lines) (s : State) : Host.Outcome State Fault Refusal :=
  let t := s.pins ch lines
  .next (if (s.channel ch).state = .holding then
    t.putChannel ch { t.channel ch with state := .idle, holdTimer := none }
  else t)

/-- READY_FALLING (R43). -/
def execReadyFalling (ch : Chan) (lines : Lines) (s : State) : Host.Outcome State Fault Refusal :=
  let t := s.pins ch { lines with ready := false }
  .next (if readyWatched (s.channel ch).state then t.fault ch .notReady else t)

/-- MEDIA_CHANGE (R45, R46). -/
def execMediaChange (ch : Chan) (lines : Lines) (s : State) : Host.Outcome State Fault Refusal :=
  .next ((s.pins ch (afterMedia lines (s.channel ch).kind)).takeMedia ch)

/-- RECAL (R47). -/
def execRecal (tag : Byte) (payload : List Byte) (s : State) : Host.Outcome State Fault Refusal :=
  .next (s.withRequest 0x38 tag payload (fun t id => t.serveRecal id tag payload))

/-! ## What the channels hand on -/

/-- The channel without the front of what it has handed on. -/
def State.popHanded (s : State) (ch : Chan) : State :=
  s.putChannel ch { s.channel ch with handed := (s.channel ch).handed.tail }

/-- The volume context a report is for, when its order is outstanding (R137, R138). -/
def State.reportedVolume (s : State) (ch : Chan) (r : PassReport) : Option Volume :=
  (s.volume ch).filter (fun v => v.uid == r.volume && v.planner.outstanding == some r.track)

/-- PASS_END_REPORT (R137): the planner takes the report at the front. -/
def execPassEndReport (ch : Chan) (s : State) : Host.Outcome State Fault Refusal :=
  .next (match (s.channel ch).handed with
    | .report r :: _ =>
      if r.completed then
        match s.reportedVolume ch r with
        | some v => (s.popHanded ch).takeEndReport ch v r
        | none => s.popHanded ch
      else s
    | _ => s)

/-- CUT_REPORT (R138): the planner takes the report at the front. -/
def execCutReport (ch : Chan) (s : State) : Host.Outcome State Fault Refusal :=
  .next (match (s.channel ch).handed with
    | .report r :: _ =>
      if r.completed then s
      else
        match s.reportedVolume ch r with
        | some v => (s.popHanded ch).takeCutReport ch v r
        | none => s.popHanded ch
    | _ => s)

/-- The last reading of a completed pass has been acknowledged: HOLDING follows (R39). -/
def Channel.acknowledged (c : Channel) : Channel := if noReadingWaits c.handed then c.finishCompletion else c

/-- READING (R98): the Recovery Table takes the reading at the front. -/
def execReading (ch : Chan) (s : State) : Host.Outcome State Fault Refusal :=
  .next (match (s.channel ch).handed with
    | .reading x :: _ =>
      let t := (s.popHanded ch).takeReading ch x
      t.putChannel ch (t.channel ch).acknowledged
    | _ => s)

end Sys2Proof.Machine
end

