-- ==== Sys2Proof/Machine/Delivery.lean ====
section
/-! DEFINITION. The Delivery Engine: the FETCH request (R148), SECTOR frames (R150 to R152, R171), pacing (R153), the ends of a
fetch (R154 to R156). -/

namespace Sys2Proof.Machine

/-! ## SECTOR frames (R150, R151, R171) -/

/-- What a frame delivers beside the record: data, confidences, matches, check_ok, and whether the mark class is DELETED. -/
structure Delivered where
  data : List Byte
  confidences : List Nat
  matchCount : Nat
  checkOk : Bool
  deleted : Bool
  deriving DecidableEq, Repr

/-- State only (R150). -/
def Delivered.stateOnly : Delivered := { data := [], confidences := [], matchCount := 0, checkOk := false, deleted := false }

/-- The settled data of a record (R150). -/
def State.deliverSettled (s : State) (v : Volume) (i : Nat) (info : SettledInfo) : Delivered :=
  let area := areaOf s.image (v.base + i)
  { data := area.data.take v.dataLength, confidences := area.confidences.take v.dataLength, matchCount := info.matchCount
    checkOk := true, deleted := decide (info.markClass = .deleted) }

/-- The top-ranked candidate's data, or the state alone where there is none (R150).  The matches and check_ok are the
candidate's where it was READ, and 0 and true where it is FUSED, although a reading may have merged into it (R100): DEDUCED
(notes/assumptions/28.md). -/
def State.deliverBest (s : State) (v : Volume) (r : SectorRecord) : Delivered :=
  match r.candidates with
  | [] => .stateOnly
  | slot :: _ =>
    match s.pool.descriptor slot with
    | none => .stateOnly
    | some c =>
      { data := s.pool.data slot v.dataLength, confidences := s.pool.confidences slot v.dataLength
        matchCount := match c.origin with | .read => c.matchCount | .fused => 0
        checkOk := match c.origin with | .read => c.checkOk | .fused => true
        deleted := decide (c.markClass = .deleted) }

/-- What a frame of a sector delivers, by the record's state and the mode (R150). -/
def State.delivered (s : State) (v : Volume) (i : Nat) (mode : FetchMode) : Delivered :=
  let r := v.record i
  match r.state with
  | .settled =>
    match r.settled with
    | some info => s.deliverSettled v i info
    | none => .stateOnly
  | .weak | .contested | .lost =>
    match mode with
    | .best => s.deliverBest v r
    | .settledOnly => .stateOnly
  | .unseen | .excluded => .stateOnly

/-- Confidences packed two to a byte, the first in the low four bits (R171). -/
def packConfidences : List Nat → List Byte
  | [] => []
  | [a] => b1 (a % 16)
  | a :: b :: rest => b1 (a % 16 + 16 * (b % 16)) ++ packConfidences rest

/-- The settled_by byte of a record (R171). -/
def settledByOf (r : SectorRecord) : Nat :=
  match r.settled with
  | some info => settledByByte info.by_
  | none => 0

/-- The payload of a SECTOR frame (R171). -/
def State.sectorPayload (s : State) (v : Volume) (i : Nat) (mode : FetchMode) (withConfidence : Bool) : List Byte :=
  let r := v.record i
  let d := s.delivered v i mode
  let t := i / v.sectors
  let place := match (s.slot v.slot).held with
    | some p => placeOf p t
    | none => (t, 0)
  le2 i ++ b1 place.1 ++ b1 place.2 ++ le2 (i - t * v.sectors) ++ b1 (recordStateByte r.state) ++ b1 (settledByOf r) ++
    b1 (recordFlags r + flagBit 4 d.deleted) ++ le2 r.reads ++ b1 d.matchCount ++ yesNo d.checkOk ++
    le2 d.data.length ++ d.data ++ (if withConfidence then packConfidences d.confidences else [])

/-- The SECTOR frame for the next index of a fetch (R151). -/
def State.sectorFrame (s : State) (v : Volume) (e : FetchEntry) : OutFrame :=
  { kind := 0x70, tag := e.tag, payload := s.sectorPayload v e.next e.mode e.withConfidence }

/-! ## FETCH (R148) -/

/-- The fields of a FETCH reply: count taken, count delivered (R173). -/
def fetchFields (e : FetchEntry) : List Byte := le2 e.taken ++ le2 e.delivered

/-- A count of 0 stands for 256 (R148). -/
def fetchCount (n : Nat) : Nat := if n = 0 then 256 else n

/-- The entry of an accepted FETCH (R147, R148). -/
def fetchEntry (id : Nat) (tag : Byte) (ch : Chan) (v : Volume) (first count : Nat) (mode : FetchMode)
    (withConfidence : Bool) : FetchEntry :=
  { id := id, tag := tag, channel := ch, volume := v.uid, first := first, taken := min (fetchCount count) (v.size - first)
    mode := mode, withConfidence := withConfidence, next := first, delivered := 0, waiting := false }

/-- FETCH (R148). -/
def State.serveFetch (s : State) (id : Nat) (tag : Byte) (payload : List Byte) : State :=
  s.withVolume id payload (fun ch v =>
    let first := le2At payload 1
    match fetchModeOf (byteAt payload 4), yesNoOf (byteAt payload 5) with
    | some mode, some conf =>
      if v.size ≤ first then s.reply id .range []
      else if Config.fetchQueueSize ≤ s.fetches.length then s.reply id .busy []
      else s.setFetches (s.fetches ++ [fetchEntry id tag ch v first (byteAt payload 3) mode conf])
    | _, _ => s.reply id .range [])

/-! ## Pacing and the end of a fetch (R153, R154) -/

/-- The entry after a frame of it was enqueued. -/
def FetchEntry.advance (e : FetchEntry) : FetchEntry :=
  { e with next := e.next + 1, delivered := e.delivered + 1, waiting := false }

/-- A frame of the active fetch enqueued; after the last one the reply, and the entry leaves (R153, R154).  After any other, a
SUMMARY notice that waits meets the next frame (notes/assumptions/27.md). -/
def State.enqueueSector (s : State) (v : Volume) (e : FetchEntry) (rest : List FetchEntry) : State :=
  let t := s.setLink (s.link.enqueue (s.sectorFrame v e))
  let f := e.advance
  if f.first + f.taken ≤ f.next then (t.setFetches rest).reply f.id .ok (fetchFields f)
  else (t.setLink (t.link.reportRoom true)).setFetches (f :: rest)

/-- The active fetch, the first of the queue (R149), offers its next frame (R153); not after a RESTART was taken (R157). -/
def State.offerFrame (s : State) : State :=
  match s.fetches with
  | [] => s
  | e :: rest =>
    if s.link.restart ≠ .idle then s
    else
      match (s.volume e.channel).filter (fun v => v.uid == e.volume) with
      | none => s
      | some v =>
        if s.link.noticeRoom then s.enqueueSector v e rest
        else s.setFetches ({ e with waiting := true } :: rest)

/-- Every fetch of a volume context ended with a status, in acceptance order (R155, R156). -/
def State.endFetches (s : State) (uid : Nat) (status : Status) : State :=
  (s.fetches.filter (fun e => e.volume == uid)).foldl (fun t e => t.reply e.id status (fetchFields e))
    (s.setFetches (s.fetches.filter (fun e => e.volume != uid)))

/-! ## Commands -/

/-- FETCH (R148). -/
def execFetch (tag : Byte) (payload : List Byte) (s : State) : Host.Outcome State Fault Refusal :=
  .next (s.withRequest 0x40 tag payload (fun t id => t.serveFetch id tag payload))

/-- FETCH_FRAME_OFFER (R153). -/
def execFetchFrameOffer (s : State) : Host.Outcome State Fault Refusal := .next s.offerFrame

end Sys2Proof.Machine
end

