-- ==== Sys2Proof/Machine/Runs.lean ====
section
/-! DEFINITION. The run requests of the Pass Planner: START (R142), PAUSE (R143), ABORT (R144, R156), EXTEND (R145), TRACK_INFO
(R146). -/

namespace Sys2Proof.Machine

/-- The run state byte of the volume mounted on a channel (R172). -/
def State.runByteOf (s : State) (ch : Chan) : Nat :=
  match s.volume ch with
  | none => 0
  | some v => runByte v.planner.run

/-- START (R142). -/
def State.serveStart (s : State) (id : Nat) (payload : List Byte) : State :=
  s.withVolume id payload (fun ch v =>
    let begin_ (_ : Unit) : State :=
      if v.mediaGone then s.reply id .mediaGone []
      else if (s.channel ch).faultCount = 3 then s.reply id .faultLimit []
      else
        let t := s.setVolume ch (some (v.setPlanner (fun a => { a with run := .running, halt := .none })))
        let u := if v.planner.outstanding.isSome then t else t.choosePass ch
        u.reply id .ok (b1 (u.runByteOf ch))
    match v.planner.run with
    | .running => s.reply id .ok (b1 (runByte v.planner.run))
    | .pausing => s.reply id .ok (b1 (runByte v.planner.run))
    | .complete => s.reply id .alreadyDone []
    | .endedPartial => s.reply id .alreadyDone []
    | .stopped => begin_ ()
    | .paused => begin_ ()
    | .halted => begin_ ())

/-- PAUSE (R143). -/
def State.servePause (s : State) (id : Nat) (payload : List Byte) : State :=
  s.withVolume id payload (fun ch v =>
    if v.planner.run = .running then
      (s.setVolume ch (some (v.setPlanner (fun a => { a with run := .pausing })))).reply id .ok (b1 (runByte .pausing))
    else s.reply id .ok (b1 (runByte v.planner.run)))

/-- The end of an ABORT's run: its reply and the fetches' replies, of which either may be enqueued first (R156).  FREE VALUE
(notes/assumptions/2.md). -/
def State.answerAbort (s : State) (id uid : Nat) : State :=
  if s.fetches.any (fun e => e.volume == uid) then
    let t := { s with races := s.races + 1 }
    if Config.abortReplyFirst s.races then (t.reply id .ok []).endFetches uid .aborted
    else (t.endFetches uid .aborted).reply id .ok []
  else s.reply id .ok []

/-- ABORT (R144, R156). -/
def State.serveAbort (s : State) (id : Nat) (payload : List Byte) : State :=
  s.withVolume id payload (fun ch v =>
    if v.inRun then (s.abortRun ch).answerAbort id v.uid else s.reply id .ok [])

/-- EXTEND on one track (R105, R145 step 2): the volume, and the tracks made PENDING so far. -/
def extendTrack (p : Pool) (a : Volume × Nat) (t : Nat) : Volume × Nat :=
  if (a.1.plan t).state = .exhausted ∧ (a.1.plan t).passesUsed < a.1.planner.passBudget then
    let v := a.1.revertTrack p t
    if 0 < (v.summary t).opn then (v.setTrackState t .pending, a.2 + 1) else (v.setTrackState t .done, a.2)
  else a

/-- Whether a track of the volume is PENDING. -/
def Volume.anyPending (v : Volume) : Bool := v.planner.tracks.any (fun e => decide (e.state = .pending))

/-- EXTEND on a volume: the volume, and the count of tracks made PENDING (R145). -/
def Volume.extend (v : Volume) (p : Pool) (passes wear : Nat) : Volume × Nat :=
  let raised := v.setPlanner (fun a => { a with
    passBudget := satAdd 255 a.passBudget passes, wearBudget := satAdd 65535 a.wearBudget wear })
  let r := (List.range v.trackCount).foldl (extendTrack p) (raised, 0)
  (if r.1.planner.run = .endedPartial ∧ r.1.anyPending then r.1.setPlanner (fun a => { a with run := .stopped }) else r.1,
    r.2)

/-- EXTEND (R145). -/
def State.serveExtend (s : State) (id : Nat) (payload : List Byte) : State :=
  s.withVolume id payload (fun ch v =>
    let r := v.extend s.pool (byteAt payload 1) (le2At payload 2)
    let a := r.1.planner
    (s.setVolume ch (some r.1)).reply id .ok (b1 a.passBudget ++ le2 a.wearBudget ++ le2 r.2 ++ b1 (runByte a.run)))

/-- The fields of a TRACK_INFO reply (R146, R173). -/
def Volume.trackInfo (v : Volume) (t : Nat) : List Byte :=
  let e := v.plan t
  let c := v.summary t
  b1 (trackStateByte e.state) ++ b1 e.passesUsed ++ b1 e.ladderStep ++ yesNo e.misplaced ++ b1 v.planner.passBudget ++
    le2 c.opn ++ le2 c.settled ++ le2 c.lost ++ le2 c.excluded

/-- TRACK_INFO (R146). -/
def State.serveTrackInfo (s : State) (id : Nat) (payload : List Byte) : State :=
  s.withVolume id payload (fun _ v =>
    let t := le2At payload 1
    if v.trackCount ≤ t then s.reply id .range [] else s.reply id .ok (v.trackInfo t))

/-! ## Commands -/

/-- START (R142). -/
def execStart (tag : Byte) (payload : List Byte) (s : State) : Host.Outcome State Fault Refusal :=
  .next (s.withRequest 0x30 tag payload (fun t id => t.serveStart id payload))

/-- PAUSE (R143). -/
def execPause (tag : Byte) (payload : List Byte) (s : State) : Host.Outcome State Fault Refusal :=
  .next (s.withRequest 0x31 tag payload (fun t id => t.servePause id payload))

/-- ABORT (R144). -/
def execAbort (tag : Byte) (payload : List Byte) (s : State) : Host.Outcome State Fault Refusal :=
  .next (s.withRequest 0x32 tag payload (fun t id => t.serveAbort id payload))

/-- EXTEND (R145). -/
def execExtend (tag : Byte) (payload : List Byte) (s : State) : Host.Outcome State Fault Refusal :=
  .next (s.withRequest 0x33 tag payload (fun t id => t.serveExtend id payload))

/-- TRACK_INFO (R146). -/
def execTrackInfo (tag : Byte) (payload : List Byte) (s : State) : Host.Outcome State Fault Refusal :=
  .next (s.withRequest 0x34 tag payload (fun t id => t.serveTrackInfo id payload))

end Sys2Proof.Machine
end

