-- ==== Sys2Proof/Machine/Volumes.lean ====
section
/-! DEFINITION. The requests of the Recovery Table: MOUNT with its presence probe (R106, R23), UNMOUNT (R107), EXCLUDE (R108,
R109), SCAN (R110), SECTOR_INFO (R111). -/

namespace Sys2Proof.Machine

/-! ## MOUNT (R106, R23) -/

/-- A new volume context (R91, R93 to R95, R129). -/
def Volume.atMount (uid base : Nat) (m : MountRequest) (p : Profile) : Volume :=
  let T := trackCountOf p
  let fresh (n : Nat) : Counts := { opn := n, settled := 0, lost := 0, excluded := 0 }
  { uid := uid, slot := m.slot, tag := m.volumeTag, verbose := m.verbose, trackCount := T, sectors := p.sectors
    dataLength := p.dataLength, base := base, mediaGone := false, serial := 0, totals := fresh (T * p.sectors)
    settledMap := [], exclusionMap := [], summaries := List.replicate T (fresh p.sectors), records := []
    planner := Planner.atMount p }

/-- The sector counter as a volume is mounted: 0 on media other than FLOPPY_HARD (R35). -/
def counterAtMount (p : Profile) (counter : Nat) : Nat :=
  match p.medium with
  | .floppyHard => counter
  | .floppySoft => 0
  | .cartridge => 0

/-- A MOUNT that passes every test (R106). -/
def State.createVolume (s : State) (ch : Chan) (m : MountRequest) (p : Profile) (base : Nat) : State :=
  let t := ({ s with nextVolume := s.nextVolume + 1 }.setVolume ch (some (Volume.atMount s.nextVolume base m p))).raiseUse
    m.slot
  (t.putChannel ch { t.channel ch with
    positionKnown := false, mediaSeen := false
    sectorCounter := counterAtMount p (t.channel ch).sectorCounter }).reply m.id .ok
    (le2 base ++ le2 (trackCountOf p * p.sectors))

/-- A MOUNT whose sense has ended: tests 4 to 7 of R106, on the slot and the free records as they are then.  DEDUCED
(notes/assumptions/33.md): a profile request or another MOUNT taken during its presence probe has taken effect first. -/
def State.finishMount (s : State) (ch : Chan) (m : MountRequest) (present : Bool) : State :=
  let t := s.putChannel ch ((s.channel ch).afterSense present)
  if ¬ present then t.reply m.id .channelAbsent []
  else
    match (t.slot m.slot).held with
    | none => t.reply m.id .profileEmpty []
    | some p =>
      if strapNeeded p.medium ≠ (t.channel ch).kind then t.reply m.id .wrongMedium []
      else
        match firstFit t.runs (trackCountOf p * p.sectors) with
        | none => t.reply m.id .noRoom []
        | some base => t.createVolume ch m p base

/-- A presence probe begun (R23). -/
def Channel.startProbe (c : Channel) (m : MountRequest) : Channel :=
  { c with probe := some { mount := m, deferred := [] }, stageTimer := some (Config.probeTime * Config.ticksPerMs) }

/-- MOUNT from its third test on.  A floppy channel in ABSENT, IDLE or FAULTED probes, unless the drive shows itself at once;
every other sense is of the moment (R23).  A MOUNT that finds a probe going on waits for its end. -/
def State.takeMount (s : State) (ch : Chan) (m : MountRequest) : State :=
  if (s.volume ch).isSome then s.reply m.id .hasVolume []
  else
    let c := s.channel ch
    match c.probe with
    | some b => s.putChannel ch { c with probe := some { b with deferred := b.deferred ++ [.mount m] } }
    | none =>
      if c.kind = .cartridge ∨ motorOn c.state ∨ c.sensed then s.finishMount ch m c.sensed
      else s.putChannel ch (c.startProbe m)

/-- MOUNT (R106). -/
def State.serveMount (s : State) (id : Nat) (payload : List Byte) : State :=
  match payloadChan payload with
  | none => s.reply id .badChannel []
  | some ch =>
    match yesNoOf (byteAt payload 6) with
    | none => s.reply id .range []
    | some verbose =>
      s.takeMount ch { id := id, slot := byteAt payload 1, volumeTag := le4At payload 2, verbose := verbose }

/-- What waited for the end of a probe, taken (R23). -/
def State.takeDeferred (s : State) (ch : Chan) : Deferred → State
  | .recal id tag =>
    let c := s.channel ch
    match c.probe with
    | some b => s.putChannel ch { c with probe := some { b with deferred := b.deferred ++ [.recal id tag] } }
    | none => s.takeRecal ch id tag
  | .order o => s.putChannel ch ((s.channel ch).takeOrder (s.chanProfile ch) o)
  | .media => s.takeMedia ch
  | .mount m => s.takeMount ch m

/-- A probe ends: MOTOR is released, the MOUNT goes on to its end, and what waited is then taken in order of arrival (R23).  That
the MOUNT comes first is the model's choice (notes/assumptions/13.md). -/
def State.probeEnds (s : State) (ch : Chan) (b : Probe) : State :=
  let c := s.channel ch
  b.deferred.foldl (fun t d => t.takeDeferred ch d)
    ((s.putChannel ch { c with probe := none, stageTimer := none }).finishMount ch b.mount c.sensed)

/-! ## UNMOUNT (R107) -/

/-- A RECAL request in flight ended by UNMOUNT (R48). -/
def State.recalUnmounted (s : State) (ch : Chan) : State :=
  let c := s.channel ch
  match c.recal with
  | none => s
  | some f =>
    (s.putChannel ch { c with recal := none, positionKnown := false }.enterHolding).reply f.id .aborted []

/-- The slots referenced by any record of a volume (R116). -/
def Volume.heldSlots (v : Volume) : List Nat := v.records.flatMap (fun r => r.2.candidates)

/-- Slots, run, use count and context released (R107 steps 3 and 4). -/
def State.releaseVolume (s : State) (ch : Chan) : State :=
  match s.volume ch with
  | none => s
  | some v => ((s.setPool (s.pool.giveBackAll v.heldSlots)).setVolume ch none).lowerUse v.slot

/-- UNMOUNT (R107). -/
def State.serveUnmount (s : State) (id : Nat) (payload : List Byte) : State :=
  s.withVolume id payload (fun ch v =>
    ((((s.abortRun ch).recalUnmounted ch).endFetches v.uid .volumeGone).releaseVolume ch).reply id .ok [])

/-! ## EXCLUDE (R108, R109) -/

/-- EXCLUDE at work: the volume and the pool so far, the counts of the reply. -/
structure Excluding where
  volume : Volume
  pool : Pool
  changed : Nat
  skipped : Nat

/-- A record's state changed by EXCLUDE. -/
def Excluding.change (a : Excluding) (i : Nat) (st : RecordState) : Excluding :=
  let r := a.volume.record i
  { a with
    volume := a.volume.putRecord i { r with state := st, candidates := [], fusionArmed := false }
    pool := a.pool.giveBackAll r.candidates
    changed := a.changed + 1 }

/-- The state of a record cleared from EXCLUDED (R108). -/
def Excluding.cleared (a : Excluding) (i : Nat) : RecordState :=
  if (a.volume.plan (i / a.volume.sectors)).state = .exhausted then .lost else .unseen

/-- EXCLUDE on one sector index (R108). -/
def Excluding.apply (op : ExcludeOp) (a : Excluding) (i : Nat) : Excluding :=
  match (a.volume.record i).state, op with
  | .settled, _ => { a with skipped := a.skipped + 1 }
  | .excluded, .set => a
  | .excluded, .clear => a.change i (a.cleared i)
  | .excluded, .toggle => a.change i (a.cleared i)
  | .unseen, .clear | .weak, .clear | .contested, .clear | .lost, .clear => a
  | .unseen, _ | .weak, _ | .contested, _ | .lost, _ => a.change i .excluded

/-- EXCLUDE applied to a range in ascending order. -/
def excludeRange (op : ExcludeOp) (v : Volume) (p : Pool) (first taken : Nat) : Excluding :=
  ((List.range taken).map (fun k => first + k)).foldl (Excluding.apply op) { volume := v, pool := p, changed := 0, skipped := 0 }

/-- The tracks whose open count differs, ascending (R109). -/
def changedTracks (old new : Volume) : List Nat :=
  (List.range new.trackCount).filter (fun t => decide ((old.summary t).opn ≠ (new.summary t).opn))

/-- EXCLUDE (R108, R109). -/
def State.serveExclude (s : State) (id : Nat) (payload : List Byte) : State :=
  s.withVolume id payload (fun ch v =>
    let first := le2At payload 1
    let count := le2At payload 3
    match excludeOpOf (byteAt payload 5) with
    | none => s.reply id .range []
    | some op =>
      if v.size ≤ first ∨ count = 0 then s.reply id .range []
      else
        let taken := min count (v.size - first)
        let a := excludeRange op v s.pool first taken
        let t := (s.setVolume ch (some a.volume)).setPool a.pool
        ((changedTracks v a.volume).foldl (fun u k => u.tellOpenCount ch k) t).reply id .ok
          (le2 taken ++ le2 a.changed ++ le2 a.skipped))

/-! ## SCAN and SECTOR_INFO (R110, R111) -/

/-- Whether a sector's record is in a class; the maps answer for SETTLED and EXCLUDED (R95, R110). -/
def Volume.inClass (v : Volume) (cls : RecordClass) (i : Nat) : Bool :=
  match cls with
  | .settled => v.settledMap.contains i
  | .excluded => v.exclusionMap.contains i
  | .opn => decide (classOf (v.record i).state = .opn)
  | .lost => decide (classOf (v.record i).state = .lost)

/-- The indices SCAN examines, in order. -/
def scanOrder (size start : Nat) : Sweep → List Nat
  | .up => (List.range (size - start)).map (fun k => start + k)
  | .down => (List.range (start + 1)).map (fun k => start - k)

/-- The first index in the class (R110). -/
def Volume.scan (v : Volume) (start : Nat) (dir : Sweep) (cls : RecordClass) : Option Nat :=
  (scanOrder v.size start dir).find? (v.inClass cls)

/-- SCAN (R110). -/
def State.serveScan (s : State) (id : Nat) (payload : List Byte) : State :=
  s.withVolume id payload (fun _ v =>
    let start := le2At payload 1
    match scanDirOf (byteAt payload 3), scanClassOf (byteAt payload 4) with
    | some dir, some cls =>
      if v.size ≤ start then s.reply id .range []
      else s.reply id .ok (le2 ((v.scan start dir cls).getD 0xFFFF))
    | _, _ => s.reply id .range [])

/-- One candidate of a SECTOR_INFO reply (R173). -/
def candidateEntry (p : Pool) (rank slot : Nat) : List Byte :=
  match p.descriptor slot with
  | none => List.replicate 7 0
  | some c =>
    b1 rank ++ b1 (originByte c.origin) ++ yesNo c.checkOk ++ b1 c.matchCount ++ le2 c.score ++ b1 (markClassByte c.markClass)

/-- The candidates of a SECTOR_INFO reply, from a rank on. -/
def candidateEntries (p : Pool) (rank : Nat) : List Nat → List Byte
  | [] => []
  | slot :: rest => candidateEntry p rank slot ++ candidateEntries p (rank + 1) rest

/-- The four settled fields; 0 when the record is not SETTLED (R173). -/
def settledBytes (r : SectorRecord) : List Byte :=
  match r.settled with
  | none => [0, 0, 0, 0]
  | some x => b1 (settledByByte x.by_) ++ b1 (markClassByte x.markClass) ++ b1 x.pass ++ b1 x.matchCount

/-- The fields of a SECTOR_INFO reply (R111, R173). -/
def sectorInfoFields (p : Pool) (r : SectorRecord) : List Byte :=
  b1 (recordStateByte r.state) ++ le2 r.reads ++ yesNo r.fusionArmed ++ b1 (recordFlags r) ++ settledBytes r ++
    b1 r.candidates.length ++ candidateEntries p 1 r.candidates

/-- SECTOR_INFO (R111). -/
def State.serveSectorInfo (s : State) (id : Nat) (payload : List Byte) : State :=
  s.withVolume id payload (fun _ v =>
    let i := le2At payload 1
    if v.size ≤ i then s.reply id .range [] else s.reply id .ok (sectorInfoFields s.pool (v.record i)))

/-! ## Commands -/

/-- MOUNT (R106). -/
def execMount (tag : Byte) (payload : List Byte) (s : State) : Host.Outcome State Fault Refusal :=
  .next (s.withRequest 0x20 tag payload (fun t id => t.serveMount id payload))

/-- UNMOUNT (R107). -/
def execUnmount (tag : Byte) (payload : List Byte) (s : State) : Host.Outcome State Fault Refusal :=
  .next (s.withRequest 0x21 tag payload (fun t id => t.serveUnmount id payload))

/-- EXCLUDE (R108). -/
def execExclude (tag : Byte) (payload : List Byte) (s : State) : Host.Outcome State Fault Refusal :=
  .next (s.withRequest 0x22 tag payload (fun t id => t.serveExclude id payload))

/-- SCAN (R110). -/
def execScan (tag : Byte) (payload : List Byte) (s : State) : Host.Outcome State Fault Refusal :=
  .next (s.withRequest 0x23 tag payload (fun t id => t.serveScan id payload))

/-- SECTOR_INFO (R111). -/
def execSectorInfo (tag : Byte) (payload : List Byte) (s : State) : Host.Outcome State Fault Refusal :=
  .next (s.withRequest 0x24 tag payload (fun t id => t.serveSectorInfo id payload))

/-- PRESENCE_PROBE_END (R23): at the first sighting, or after 100 ms. -/
def execPresenceProbeEnd (ch : Chan) (lines : Lines) (s : State) : Host.Outcome State Fault Refusal :=
  let t := s.pins ch lines
  .next (match (s.channel ch).probe with
    | some b => t.probeEnds ch b
    | none => t)

end Sys2Proof.Machine
end

