-- ==== Sys2Proof/Machine/Part.lean ====
section
/-! DEFINITION. The part as a whole: self-test and the resets (R165, R166, R168), IDENT, STATUS and RESTART (R166 to R168), link
reset and enumeration (R164), and the receiver with its frames (R159, R160). -/

namespace Sys2Proof.Machine

/-! ## Self-test and reset (R23, R165, R168) -/

/-- The separator stage: the two test passes of R66, and each separator's own hardware. -/
def separatorsPass (env : Environment) : Bool := separatorTestPasses && (qlist env.separatorsOk).all (fun b => b)

/-- The self-test stages that fail, as a stage set (R165, R172). -/
def failedStages (env : Environment) (banks : Quad Bool) : Nat :=
  flagBit 0 (!env.tableRomOk) + flagBit 1 (!env.imageMemoryOk) + flagBit 2 (!banks.c0) + flagBit 3 (!banks.c1) +
    flagBit 4 (!banks.c2) + flagBit 5 (!banks.c3) + flagBit 6 (!separatorsPass env)

/-- Self-test has found the part failed (R165). -/
def partFails (env : Environment) (banks : Quad Bool) : Bool :=
  !env.tableRomOk || !env.imageMemoryOk || !separatorsPass env || (qlist banks).all (fun b => !b)

/-- A channel after reset: its strap pin read, its presence sensed (R23, R24). -/
def Channel.start (lines : Lines) : Channel :=
  let c := { Channel.reset with kind := if lines.kind then .cartridge else .floppy, inputs := lines }
  { c with state := if c.sensed then .idle else .absent }.drive

/-- The results of self-test (R165): every stage runs. -/
def selfTestOf (env : Environment) (banks : Quad Bool) (carried : Bool) : SelfTest :=
  { progress := 0x7FF, failed := BitVec.ofNat 11 (failedStages env banks), carried := carried
    partFailed := partFails env banks, presence := qmap (fun l => decide ((Channel.start l).state = .idle)) env.lines }

/-- Every block at its state after reset, with the bank results and the contents of candidate memory given.  What waits to
be commanded, and the counts behind the free values, are not the part's. -/
def State.restarted (s : State) (env : Environment) (banks : Quad Bool) (carried : Bool) (memory : SMap Area) : State :=
  { State.reset with
    pending := s.pending
    link := { Link.reset with meetings := s.link.meetings }
    selfTest := selfTestOf env banks carried
    channels := qmap Channel.start env.lines
    pool := { Pool.reset with bankPassed := banks, freeList := usableSlots banks, memory := memory }
    races := s.races }

/-! ## IDENT and RESTART (R166, R168) -/

/-- IDENT (R166). -/
def State.serveIdent (s : State) (id : Nat) : State := s.reply id .ok (helloPayload s)

/-- RESTART (R168): answered at once, and from then on nothing is received, noticed or summarised. -/
def State.serveRestart (s : State) (id : Nat) : State :=
  (s.setLink { s.link with restart := .replyQueued }).reply id .ok []

/-! ## STATUS (R167, R173) -/

/-- The channel group of a STATUS reply. -/
def channelGroup (c : Channel) : List Byte :=
  b1 (chanStateByte c.state) ++ b1 (strapByte c.kind) ++ yesNo (decide (c.state ≠ .absent)) ++ b1 (faultByte c.faultCode) ++
    b1 c.faultCount ++ b1 c.position ++ yesNo c.positionKnown ++ b1 c.headSelected ++ b1 (tapeEndByte c.tapeEnd) ++
    b1 (offsetByte c.offset) ++ yesNo c.mediaSeen ++ le2 c.sectorCounter ++ le2 (c.holdTimer.getD 0xFFFF) ++
    yesNo c.pass.isSome ++ le2 ((c.pass.map (·.order.track)).getD 0) ++ yesNo c.recal.isSome

/-- The volume group of a STATUS reply. -/
def volumeGroup (v : Option Volume) : List Byte :=
  match v with
  | none => List.replicate 25 0
  | some v =>
    let a := v.planner
    [1] ++ le4 v.tag ++ b1 v.slot ++ b1 (runByte a.run) ++ b1 (haltByte a.halt) ++ b1 (phaseByte a.phase) ++
      le2 a.currentTrack ++ b1 (v.plan a.currentTrack).ladderStep ++ le2 a.wearUsed ++ le2 a.wearBudget ++
      yesNo v.mediaGone ++ countsSettledFirst v.totals

/-- The part group of a STATUS reply. -/
def partGroup (s : State) : List Byte :=
  le2 s.pool.freeCount ++ le2 s.pool.capacity ++ le2 s.freeRecords ++ le2 s.link.linkErrors ++
    le2 s.selfTest.progress.toNat ++ le2 s.selfTest.failed.toNat ++ yesNo s.selfTest.carried

/-- What a STATUS reply tells of one channel. -/
def channelReport (s : State) (ch : Chan) : List Byte :=
  b1 ch.val ++ channelGroup (s.channel ch) ++ volumeGroup (s.volume ch)

/-- STATUS (R167). -/
def State.serveStatus (s : State) (id : Nat) (payload : List Byte) : State :=
  if byteAt payload 0 = 0xFF then s.reply id .ok (allChans.flatMap (channelReport s) ++ partGroup s)
  else
    match payloadChan payload with
    | none => s.reply id .badChannel []
    | some ch => s.reply id .ok (channelReport s ch ++ partGroup s)

/-! ## Frames received whole (R159 to R161) -/

/-- An accepted request of any kind, served by its owner (section 9.7). -/
def State.serveKind (s : State) (id : Nat) (kind tag : Byte) (payload : List Byte) : State :=
  if kind = 0x01 then s.serveIdent id
  else if kind = 0x02 then s.serveStatus id payload
  else if kind = 0x03 then s.serveRestart id
  else if kind = 0x10 then s.serveProfileLoad id payload
  else if kind = 0x11 then s.serveProfileDrop id payload
  else if kind = 0x12 then s.serveProfileList id payload
  else if kind = 0x20 then s.serveMount id payload
  else if kind = 0x21 then s.serveUnmount id payload
  else if kind = 0x22 then s.serveExclude id payload
  else if kind = 0x23 then s.serveScan id payload
  else if kind = 0x24 then s.serveSectorInfo id payload
  else if kind = 0x30 then s.serveStart id payload
  else if kind = 0x31 then s.servePause id payload
  else if kind = 0x32 then s.serveAbort id payload
  else if kind = 0x33 then s.serveExtend id payload
  else if kind = 0x34 then s.serveTrackInfo id payload
  else if kind = 0x38 then s.serveRecal id tag payload
  else s.serveFetch id tag payload

/-- A frame of any kind received whole (R160, R161). -/
def State.receiveFrame (s : State) (kind tag : Byte) (payload : List Byte) : State :=
  s.withRequest kind tag payload (fun t id => t.serveKind id kind tag payload)

/-- What the receiver found, taken in order (R159). -/
def State.takeReceived (s : State) : Received → State
  | .frame kind tag payload => s.receiveFrame kind tag payload
  | .abandoned => s.setLink s.link.countError

/-- Bytes of the OUT pipe taken by the receiver (R159). -/
def State.takeBytes (s : State) (bytes : List Byte) : State :=
  let found := scanBytes (s.link.received ++ bytes) 0
  let t := found.1.foldl State.takeReceived s
  t.setLink { t.link with received := found.2 }

/-! ## Commands -/

/-- POWER_ON_RESET (R165): bank results taken fresh; what the bank tests leave in candidate memory is not told
(notes/assumptions/4.md). -/
def execPowerOnReset (env : Environment) (s : State) : Host.Outcome State Fault Refusal :=
  .next (s.restarted env env.banksOk false [])

/-- LINK_RESET (R164). -/
def execLinkReset (s : State) : Host.Outcome State Fault Refusal := .next ((s.setLink s.link.linkReset).setFetches [])

/-- ENUMERATION (R164, R166). -/
def execEnumeration (s : State) : Host.Outcome State Fault Refusal := .next s.enumerate

/-- FRAME_ABANDONED (R159): the receiver takes bytes. -/
def execFrameAbandoned (bytes : List Byte) (s : State) : Host.Outcome State Fault Refusal := .next (s.takeBytes bytes)

/-- UNKNOWN_KIND (R160). -/
def execUnknownKind (kind tag : Byte) (payload : List Byte) (s : State) : Host.Outcome State Fault Refusal :=
  .next (s.receiveFrame kind tag payload)

/-- IDENT (R166). -/
def execIdent (tag : Byte) (payload : List Byte) (s : State) : Host.Outcome State Fault Refusal :=
  .next (s.withRequest 0x01 tag payload (fun t id => t.serveIdent id))

/-- STATUS (R167). -/
def execStatus (tag : Byte) (payload : List Byte) (s : State) : Host.Outcome State Fault Refusal :=
  .next (s.withRequest 0x02 tag payload (fun t id => t.serveStatus id payload))

/-- RESTART (R168). -/
def execRestart (tag : Byte) (payload : List Byte) (s : State) : Host.Outcome State Fault Refusal :=
  .next (s.withRequest 0x03 tag payload (fun t id => t.serveRestart id))

/-- RESTART_BEGIN (R168): when the RESTART reply has left or been cleared; bank results carried (R112),
and the slots' positions keep what they held (R114). -/
def execRestartBegin (env : Environment) (s : State) : Host.Outcome State Fault Refusal :=
  .next (if s.link.restart = .due then s.restarted env s.pool.bankPassed true s.pool.memory else s)

/-- OUTBOUND_ENTRY_LEFT (R162). -/
def execOutboundEntryLeft (s : State) : Host.Outcome State Fault Refusal := .next (s.setLink (s.link.entryLeft s.fetching))

end Sys2Proof.Machine
end

