-- ==== Sys2Proof/Machine/Dispatch.lean ====
section
/-! DEFINITION. The one arm of each command. -/

namespace Sys2Proof.Machine

def exec (i : Instr) (s : State) : Host.Outcome State Fault Refusal :=
  match i with
  | .powerOnReset env => Sys2Proof.Machine.execPowerOnReset env s
  | .linkReset => Sys2Proof.Machine.execLinkReset s
  | .enumeration => Sys2Proof.Machine.execEnumeration s
  | .frameAbandoned bytes => Sys2Proof.Machine.execFrameAbandoned bytes s
  | .unknownKind kind tag payload => Sys2Proof.Machine.execUnknownKind kind tag payload s
  | .ident tag payload => Sys2Proof.Machine.execIdent tag payload s
  | .status tag payload => Sys2Proof.Machine.execStatus tag payload s
  | .restart tag payload => Sys2Proof.Machine.execRestart tag payload s
  | .restartBegin env => Sys2Proof.Machine.execRestartBegin env s
  | .profileLoad tag payload => Sys2Proof.Machine.execProfileLoad tag payload s
  | .profileDrop tag payload => Sys2Proof.Machine.execProfileDrop tag payload s
  | .profileList tag payload => Sys2Proof.Machine.execProfileList tag payload s
  | .mount tag payload => Sys2Proof.Machine.execMount tag payload s
  | .unmount tag payload => Sys2Proof.Machine.execUnmount tag payload s
  | .exclude tag payload => Sys2Proof.Machine.execExclude tag payload s
  | .scan tag payload => Sys2Proof.Machine.execScan tag payload s
  | .sectorInfo tag payload => Sys2Proof.Machine.execSectorInfo tag payload s
  | .start tag payload => Sys2Proof.Machine.execStart tag payload s
  | .pause tag payload => Sys2Proof.Machine.execPause tag payload s
  | .abort tag payload => Sys2Proof.Machine.execAbort tag payload s
  | .extend tag payload => Sys2Proof.Machine.execExtend tag payload s
  | .trackInfo tag payload => Sys2Proof.Machine.execTrackInfo tag payload s
  | .recal tag payload => Sys2Proof.Machine.execRecal tag payload s
  | .fetch tag payload => Sys2Proof.Machine.execFetch tag payload s
  | .outboundEntryLeft => Sys2Proof.Machine.execOutboundEntryLeft s
  | .fetchFrameOffer => Sys2Proof.Machine.execFetchFrameOffer s
  | .presenceProbeEnd ch lines => Sys2Proof.Machine.execPresenceProbeEnd ch lines s
  | .spinupTimerExpiry ch lines => Sys2Proof.Machine.execSpinupTimerExpiry ch lines s
  | .recalPulseDue ch lines => Sys2Proof.Machine.execRecalPulseDue ch lines s
  | .rewindBot ch lines => Sys2Proof.Machine.execRewindBot ch lines s
  | .rewindTimerExpiry ch lines => Sys2Proof.Machine.execRewindTimerExpiry ch lines s
  | .seekPulseDue ch lines => Sys2Proof.Machine.execSeekPulseDue ch lines s
  | .settleTimerExpiry ch lines => Sys2Proof.Machine.execSettleTimerExpiry ch lines s
  | .windingBot ch lines => Sys2Proof.Machine.execWindingBot ch lines s
  | .windingTimerExpiry ch lines => Sys2Proof.Machine.execWindingTimerExpiry ch lines s
  | .indexPulse ch ticks => Sys2Proof.Machine.execIndexPulse ch ticks s
  | .indexWatchExpiry ch lines => Sys2Proof.Machine.execIndexWatchExpiry ch lines s
  | .startMarkerReleased ch lines => Sys2Proof.Machine.execStartMarkerReleased ch lines s
  | .farMarkerAsserted ch lines => Sys2Proof.Machine.execFarMarkerAsserted ch lines s
  | .markerWatchExpiry ch lines => Sys2Proof.Machine.execMarkerWatchExpiry ch lines s
  | .fluxTransition ch ticks => Sys2Proof.Machine.execFluxTransition ch ticks s
  | .counterSaturation ch => Sys2Proof.Machine.execCounterSaturation ch s
  | .holdTimerExpiry ch lines => Sys2Proof.Machine.execHoldTimerExpiry ch lines s
  | .readyFalling ch lines => Sys2Proof.Machine.execReadyFalling ch lines s
  | .mediaChange ch lines => Sys2Proof.Machine.execMediaChange ch lines s
  | .passEndReport ch => Sys2Proof.Machine.execPassEndReport ch s
  | .cutReport ch => Sys2Proof.Machine.execCutReport ch s
  | .reading ch => Sys2Proof.Machine.execReading ch s

end Sys2Proof.Machine
end

