-- ==== Sys2Proof/Machine/Step.lean ====
section
/-! DEFINITION. One step: the command at the front of the queue, or a millisecond of time on an empty queue. -/

namespace Sys2Proof.Machine

/-- The queue of waiting commands replaced. -/
def State.setPending (s : State) (l : List Instr) : State := { s with pending := l }

/-- One millisecond with nothing commanded: time goes by on every channel.  DESIGN CHOICE (notes/assumptions/8.md). -/
def State.passTime (s : State) : State :=
  allChans.foldl (fun t ch => t.putChannel ch (t.channel ch).passTime) s

/-- The step of the part. -/
def step (s : State) : Host.Outcome State Fault Refusal :=
  match s.pending with
  | [] => .next s.passTime
  | c :: rest => exec c (s.setPending rest)

/-- The state with the command a word spells put at the front of its queue; no word spells one (Decode.lean). -/
def State.withFetchWord (s : State) (nbits w : Nat) : State :=
  match decodeTableWord nbits w with
  | some c => s.setPending (c :: s.pending)
  | none => s

end Sys2Proof.Machine
end

