-- ==== Sys2Proof/Safety.lean ====
section
/-! DEFINITION. The terms in which claims are made: what it takes for a request to be accepted, what an answer is, what a
command may touch, and the invariants of the part. -/

namespace Sys2Proof.Machine

/-! ## Requests -/

/-- A frame received whole that R160 accepts: no RESTART taken, a request kind with a payload of its length, a part that serves
the kind, fewer than 8 unanswered, and more free than unanswered. -/
structure Accepts (s : State) (kind : Byte) (payload : List Byte) : Prop where
  idle : s.link.restart = .idle
  length : ∃ least most, requestLengths kind = some (least, most) ∧ least ≤ payload.length ∧ payload.length ≤ most
  serves : s.selfTest.partFailed = false ∨ kind = 0x01 ∨ kind = 0x03
  few : s.link.requests.length < 8
  room : s.link.outbound.length + s.link.requests.length < 32

/-- The ids of the request queue are all below the next (the model's own names of entries). -/
def Link.idsFresh (l : Link) : Prop := ∀ r ∈ l.requests, r.id < l.nextId

/-- The link after a request was accepted and not answered. -/
def Link.accepted (l : Link) (kind tag : Byte) : Link :=
  { l with
    received := [], nextId := l.nextId + 1
    requests := l.requests ++ [{ id := l.nextId, kind := kind, tag := tag }] }

/-- The reply frame of a request (R158, R173). -/
def replyFrame (kind tag : Byte) (status : Status) (fields : List Byte) : OutFrame :=
  { kind := kind + 0x80, tag := tag, payload := b1 (statusCode status) ++ fields }

/-- The link after a request was accepted and at once answered: its reply stands last in the queue, and room is reported. -/
def Link.answered (l : Link) (fetching : Bool) (kind tag : Byte) (status : Status) (fields : List Byte) : Link :=
  Link.reportRoom
    { l with
      received := [], nextId := l.nextId + 1, outbound := l.outbound ++ [replyFrame kind tag status fields] }
    fetching

/-- The byte that names a channel in a payload. -/
def chanByte (ch : Chan) : Byte := BitVec.ofNat 8 ch.val

/-- A state whose link has answered a request at once. -/
def State.answered (s : State) (kind tag : Byte) (status : Status) (fields : List Byte) : State :=
  s.setLink (s.link.answered s.fetching kind tag status fields)

/-! ## Validation (R13 to R16) -/

/-- What each of the eleven validation steps asks of an image, by the bytes of R170's layout; the steps after a failed one are
not taken (R13). -/
def ValidationStep (img : List Byte) (step : Nat) : Prop :=
  let byte (n : Nat) : Nat := (img.getD n 0).toNat
  let word (n : Nat) : Nat := byte n + 256 * byte (n + 1)
  let cell (n k : Nat) : Prop := (img.getD (n + k / 8) 0).getLsbD (7 - k % 8) = true
  let used (n : Nat) : Prop := img.getD n 0 ≠ 0 ∨ img.getD (n + 1) 0 ≠ 0
  let apart (n : Nat) : Prop := img.getD n 0 &&& img.getD (n + 1) 0 = 0
  let field (n : Nat) : Prop := byte (n + 1) ≤ 16 ∧ byte n ≤ 95 ∧
    (byte (n + 1) ≠ 0 → byte n + byte (n + 1) ≤ 8 * byte 57) ∧
    (byte (n + 2) = 1 → 9 ≤ byte (n + 1) ∧ byte n + 16 ≤ 8 * byte 57)
  match step with
  | 1 => img.take 4 = [0x49, 0x5A, 0x50, 0x46]
  | 2 => 5 ≤ img.length ∧ byte 4 = 1
  | 3 => img.length = 99 ∧ word 5 = 99
  | 4 => crc16 0xFFFF (img.take 19 ++ img.drop 21) = word 19
  | 5 => byte 21 ≤ 2 ∧ byte 22 ≤ 2 ∧ (∀ n ∈ [71, 90, 58, 93, 97, 98, 61, 64, 67], byte n ≤ 1) ∧ (byte 98 = 1 → byte 21 = 2)
  | 6 => 320 ≤ word 23 ∧ word 23 ≤ 8000 ∧ 1 ≤ byte 27 ∧ 1 ≤ byte 28 ∧ byte 28 ≤ 2 ∧ (byte 21 = 2 → byte 28 = 1) ∧
      byte 27 * byte 28 ≤ 512 ∧ 1 ≤ word 29 ∧ word 29 ≤ 1024 ∧ byte 27 * byte 28 * word 29 ≤ 32768 ∧
      (byte 21 = 1 → 1 ≤ byte 31 ∧ byte 31 ≤ 32 ∧ byte 31 = word 29) ∧ (byte 21 ≠ 1 → byte 31 = 0)
  | 7 => 1 ≤ byte 40 ∧ byte 40 ≤ 32 ∧ (∃ k, k < byte 40 ∧ cell 41 k) ∧ 1 ≤ byte 45 ∧ byte 45 ≤ 4 ∧
      (byte 21 = 2 → 1 ≤ byte 46 ∧ byte 46 ≤ 32 ∧ ∃ k, k < byte 46 ∧ cell 47 k) ∧ (byte 21 ≠ 2 → byte 46 = 0)
  | 8 => apart 51 ∧ apart 53 ∧ apart 55 ∧ used 53 ∧ (byte 21 = 0 → used 51) ∧ (byte 21 = 2 → ¬ used 51)
  | 9 => byte 57 ≤ 12 ∧ (byte 57 = 0 → byte 21 = 1) ∧ (byte 21 = 1 → (used 51 ↔ 0 < byte 57)) ∧
      (byte 57 = 0 → byte 58 = 0) ∧ 1 ≤ byte 91 ∧ field 59 ∧ field 62 ∧ field 65 ∧ (byte 21 ≠ 1 → byte 66 ≠ 0)
  | 10 => 1 ≤ word 69 ∧ word 69 ≤ 1024
  | 11 => byte 22 = 2 → (∀ i, i < 16 → 1 ≤ byte (74 + i) ∧ byte (74 + i) ≤ 31) ∧
      ∀ i j, i < j → j < 16 → byte (74 + i) ≠ byte (74 + j)
  | _ => True

/-! ## What a command leaves unchanged -/

/-- Two states that differ in one channel alone. -/
def OnlyChannel (ch : Chan) (s t : State) : Prop :=
  t = { s with channels := t.channels } ∧ ∀ k, k ≠ ch → t.channel k = s.channel k

/-- Two states that differ in one channel, the link, and the plan and MEDIA_GONE flag of the volume on that channel alone. -/
def OnlyChannelPlanLink (ch : Chan) (s t : State) : Prop :=
  t = { s with channels := t.channels, link := t.link, volumes := t.volumes } ∧
    (∀ k, k ≠ ch → t.channel k = s.channel k ∧ t.volume k = s.volume k) ∧
    (s.volume ch = none → t.volume ch = none) ∧
    (∀ v, s.volume ch = some v → ∃ w, t.volume ch = some w ∧ w = { v with planner := w.planner, mediaGone := w.mediaGone })

/-! ## Invariants -/

/-- The reserve of the outbound queue (R160), with the model's ids. -/
def Link.ok (l : Link) : Prop :=
  l.requests.length ≤ 8 ∧ l.outbound.length + l.requests.length ≤ 32 ∧ l.idsFresh

/-- Every channel's output lines are those its fields give (R21, R22, R25). -/
def State.linesOk (s : State) : Prop := ∀ ch, (s.channel ch).outputs = outputsOf (s.channel ch)

/-- Every separator's period lies within the bounds of its pass (R59). -/
def Separator.periodOk (sp : Separator) : Prop := ∀ p, sp.period = some p → sp.periodMin ≤ p ∧ p ≤ sp.periodMax

def State.periodsOk (s : State) : Prop := ∀ ch, (s.channel ch).separator.periodOk

/-- Image memory, candidate memory and the slot descriptors are in canonical form. -/
def State.memoriesOk (s : State) : Prop :=
  memoryOk s.image = true ∧ memoryOk s.pool.memory = true ∧ mapOk none s.pool.descriptors = true

/-- Wear used and passes used lie within their budgets, the budgets within their widths, and the outstanding order is for a
track below its pass budget (R129, R132, R135). -/
structure Volume.budgetsOk (v : Volume) : Prop where
  wear : v.planner.wearUsed ≤ v.planner.wearBudget ∧ v.planner.wearBudget ≤ 65535
  passes : (∀ e ∈ v.planner.tracks, e.passesUsed ≤ v.planner.passBudget) ∧ v.planner.passBudget ≤ 255
  ordered : ∀ t, v.planner.outstanding = some t → (v.plan t).passesUsed < v.planner.passBudget

/-- Counts within their ranges (R24, R129, R132, R147, R159), the budgets of held profiles included (R9). -/
structure State.rangesOk (s : State) : Prop where
  part : s.fetches.length ≤ 4 ∧ s.link.linkErrors ≤ 65535
  channels : ∀ ch, (s.channel ch).faultCount ≤ 3 ∧ ∀ n, (s.channel ch).holdTimer = some n → n ≤ 2000
  volumes : ∀ ch v, s.volume ch = some v → v.budgetsOk
  profiles : ∀ n p, (s.slot n).held = some p → p.trackPassBudget ≤ 255 ∧ p.wearBudget ≤ 65535

/-- Counts that are those of a list of record states, by class (R94). -/
def Counts.tell (c : Counts) (states : List RecordState) : Prop :=
  c.opn = states.countP (fun x => decide (x = .unseen ∨ x = .weak ∨ x = .contested)) ∧
    c.settled = states.countP (fun x => decide (x = .settled)) ∧ c.lost = states.countP (fun x => decide (x = .lost)) ∧
    c.excluded = states.countP (fun x => decide (x = .excluded))

/-- A volume's summaries, totals and maps tell the states of its records (R94, R95).  The totals do so where no record is listed
beyond the volume: no reading names one (R87). -/
structure Volume.mapsOk (v : Volume) : Prop where
  form : mapOk .fresh v.records = true ∧ 1 ≤ v.sectors ∧ v.summaries.length = v.trackCount
  summaries : ∀ t, t < v.trackCount →
    (v.summary t).tell ((List.range v.sectors).map (fun k => (v.record (t * v.sectors + k)).state))
  totals : (∀ e ∈ v.records, e.1 < v.trackCount * v.sectors) →
    v.totals.tell ((List.range (v.trackCount * v.sectors)).map (fun i => (v.record i).state))
  settledMap : ∀ i, i ∈ v.settledMap ↔ (v.record i).state = .settled
  exclusionMap : ∀ i, i ∈ v.exclusionMap ↔ (v.record i).state = .excluded

/-- Every mounted volume's maps and counts agree with its records, and every held profile has a sector (R4, R94, R95). -/
def State.mapsOk (s : State) : Prop :=
  (∀ n p, (s.slot n).held = some p → 1 ≤ p.sectors) ∧ ∀ ch v, s.volume ch = some v → v.mapsOk

/-- The slots of candidate memory (R112, R115, R116): the free list ascends, every slot of a bank that passed is free or held
and not both, no other slot is either, and every slot that a record references is held, and referenced there alone. -/
structure State.slotsOk (s : State) : Prop where
  ascending : s.pool.freeList.Pairwise (· < ·)
  form : mapOk none s.pool.descriptors = true
  usable : ∀ k, (k ∈ s.pool.freeList ∨ s.pool.descriptor k ≠ none) ↔
    ∃ b : Chan, qget s.pool.bankPassed b = true ∧ 1024 * b.val ≤ k ∧ k < 1024 * (b.val + 1)
  apart : ∀ k ∈ s.pool.freeList, s.pool.descriptor k = none
  records : ∀ ch v, s.volume ch = some v → mapOk .fresh v.records = true ∧
    ∀ i, (v.record i).candidates.Nodup ∧ ∀ k ∈ (v.record i).candidates, s.pool.descriptor k ≠ none
  once : ∀ ch ch' v w i j k, s.volume ch = some v → s.volume ch' = some w → k ∈ (v.record i).candidates →
    k ∈ (w.record j).candidates → ch = ch' ∧ i = j

/-- The channels whose volume uses a profile slot. -/
def State.usersOf (s : State) (n : Nat) : Nat :=
  (qlist s.volumes).countP (fun v => decide (v.map (·.slot) = some n))

/-- Eight slots; every mounted volume's slot HOLDS a profile, and every use count is the number of volumes that use the slot
(R11, R12).  A channel being probed has no volume (R106). -/
def State.useCountsOk (s : State) : Prop :=
  s.slots.length = 8 ∧ (∀ n, n < 8 → (s.slot n).useCount = s.usersOf n) ∧
    (∀ ch v, s.volume ch = some v → (s.slot v.slot).held.isSome = true) ∧
    (∀ ch, (s.channel ch).probe.isSome = true → s.volume ch = none)

/-- The runs of the mounted volumes lie in the store and do not overlap (R89). -/
def State.runsOk (s : State) : Prop :=
  (∀ ch v, s.volume ch = some v → v.base + v.size ≤ Config.recordCount) ∧
    ∀ ch k v w, ch ≠ k → s.volume ch = some v → s.volume k = some w → v.base + v.size ≤ w.base ∨ w.base + w.size ≤ v.base

/-! ## After reset (R10, R23, R24, R50, R67, R91, R113, R147, R159, R162, R163, R165) -/

/-- A channel's three blocks after reset, with the levels its pins had. -/
structure ChannelReset (lines : Lines) (c : Channel) : Prop where
  kind : c.kind = if lines.kind then .cartridge else .floppy
  state : c.state = if (if lines.kind then lines.present else lines.ready || lines.track0) then .idle else .absent
  position : c.position = 0 ∧ c.positionKnown = false ∧ c.headSelected = 0
  marks : c.tapeEnd = .none ∧ c.offset = .zero ∧ c.sectorCounter = 0
  fault : c.faultCode = .none ∧ c.faultCount = 0
  quiet : c.holdTimer = none ∧ c.mediaSeen = false ∧ c.pass = none ∧ c.recal = none
  lines : c.outputs = .released
  separator : c.separator.running = false ∧ c.separator.period = none ∧ c.separator.runtCarry = 0 ∧
    c.separator.windowHit = false
  decoder : c.decoder.state = .hunt ∧ c.decoder.recent = [] ∧ c.decoder.syncRun = 0 ∧ c.decoder.heldIdentity = none ∧
    c.decoder.rejectedWindow = none ∧ c.decoder.block = [] ∧ c.decoder.tallies = .zero

/-- The part after power-on reset or RESTART, with the bank results it then has. -/
structure PartReset (env : Environment) (banks : Quad Bool) (carried : Bool) (t : State) : Prop where
  channels : ∀ ch, ChannelReset (qget env.lines ch) (t.channel ch)
  volumes : ∀ ch, t.volume ch = none
  slots : t.slots = List.replicate 8 .empty
  link : t.link = { Link.reset with meetings := t.link.meetings }
  fetches : t.fetches = []
  pool : t.pool.bankPassed = banks ∧ t.pool.freeList = usableSlots banks ∧ t.pool.freeCount = t.pool.capacity ∧
    (∀ slot, t.pool.descriptor slot = none) ∧ ∀ ch, qget t.pool.scratch ch = none
  selfTest : t.selfTest.progress = 0x7FF ∧ t.selfTest.carried = carried ∧
    t.selfTest.failed.toNat = flagBit 0 (!env.tableRomOk) + flagBit 1 (!env.imageMemoryOk) + flagBit 2 (!banks.c0) +
      flagBit 3 (!banks.c1) + flagBit 4 (!banks.c2) + flagBit 5 (!banks.c3) +
      flagBit 6 (!(qlist env.separatorsOk).all (fun b => b))
  failed : t.selfTest.partFailed = !(env.tableRomOk && env.imageMemoryOk && (qlist env.separatorsOk).all (fun b => b) &&
    (qlist banks).any (fun b => b))

end Sys2Proof.Machine
end

