-- ==== Sys2Proof/Certificates/Slice0/Obligations.lean ====
section
/-! DEFINITION. What is to be proved of the model.  Each statement's docstring names the rules of spec/ it rests on. -/

open Sys2Proof Sys2Proof.Machine

/-! ## The step -/

/-- A step takes the command at the front of the queue and runs it with the rest waiting. -/
def Obligations.StepRunsFront : Prop :=
  ∀ (c : Instr) (rest : List Instr) (s : State), step (s.setPending (c :: rest)) = exec c (s.setPending rest)

/-- MODEL'S CHOICE (notes/assumptions/8.md): on an empty queue a millisecond passes, and no block but the channels is touched.
-/
def Obligations.IdleStepPassesTime : Prop :=
  ∀ s : State, s.pending = [] → ∃ t, step s = .next t ∧ t = { s with channels := t.channels } ∧
    ∀ ch, t.channel ch = Channel.drive { s.channel ch with
      holdTimer := (s.channel ch).holdTimer.map (· - 1)
      stageTimer := (s.channel ch).stageTimer.map (· - 40000)
      counter := match (s.channel ch).counter with
        | .counting n => .counting (min (n + 40000) 65535)
        | .stopped => .stopped
        | .idle => .idle
        | .held => .held
      sincePulse := (s.channel ch).sincePulse.map (· + 40000) }

/-- Every command has an effect in every state, and no command touches the queue of waiting commands.  That a command whose
event the state does not wait for goes on without its effect, and the queue itself, are the model's choice:
notes/assumptions/9.md, 20.md. -/
def Obligations.EveryCommandGoesOn : Prop :=
  ∀ (c : Instr) (s : State), ∃ t, exec c s = .next t ∧ t.pending = s.pending

/-! ## Invariants that every step keeps -/

/-- R160: free is never below unanswered, and unanswered never exceeds 8. -/
def Obligations.ReserveKept : Prop :=
  ∀ s t : State, step s = .next t → s.link.ok → t.link.ok

/-- R21, R22, R25: every step keeps the output lines of every channel in step with its fields, and the lines that go with them
are those of R25's table: MOTOR and LOAD by state, RUN_FWD and RUN_REV by state and direction, READ_EN in CAPTURING alone, SIDE
by the head selected, OFFSET+ and OFFSET- by the offset level.  A cartridge whose capture has ended but whose last reading waits
holds its lines released: notes/assumptions/12.md. -/
def Obligations.LinesFollowState : Prop :=
  (∀ s t : State, step s = .next t → s.linesOk → t.linesOk) ∧
    ∀ s : State, s.linesOk → ∀ (ch : Chan) (c : Channel) (o : Outputs), s.channel ch = c → c.outputs = o →
      let still : Prop := c.state = .absent ∨ c.state = .idle ∨ c.state = .faulted
      let runs : Prop := c.state = .armed ∨ (c.state = .capturing ∧ c.completing = false)
      ¬ (o.runFwd = true ∧ o.runRev = true) ∧ (o.offsetPlus = true ↔ c.offset = .plus) ∧
      (o.offsetMinus = true ↔ c.offset = .minus) ∧ o.dir = c.dirAsserted ∧
      (c.kind = .floppy →
        (still → o.load = false ∧ (o.motor = true ↔ c.probe ≠ none)) ∧
        (¬ still → c.state ≠ .winding → o.load = true ∧ o.motor = true) ∧
        (o.side = true ↔ c.headSelected = 1) ∧ o.runFwd = false ∧ o.runRev = false ∧ o.readEn = false) ∧
      (c.kind = .cartridge →
        o.motor = false ∧ o.load = false ∧ o.side = false ∧
        (o.readEn = true ↔ c.state = .capturing ∧ c.completing = false) ∧
        (c.state = .winding → o.runRev = true ∧ o.runFwd = false) ∧
        (c.state = .recal → o.runFwd = false ∧
          (o.runRev = true ↔ ∃ n, c.recalStage = some { rewinding := true, pulses := n })) ∧
        (∀ a, runs → c.pass = some a →
          (o.runFwd = true ↔ a.direction = .forward) ∧ (o.runRev = true ↔ a.direction = .reverse)) ∧
        (c.state ≠ .winding → c.state ≠ .recal → ¬ runs → o.runFwd = false ∧ o.runRev = false))

/-- R59: the cell period estimate stays within the bounds of its pass. -/
def Obligations.PeriodStaysInWindow : Prop :=
  ∀ s t : State, step s = .next t → s.periodsOk → t.periodsOk

/-- The memories stay in canonical form (the model's form of R90 and R112).  And a SETTLED record stays SETTLED, by the same
votes, with the same mark class, pass and data, until its volume is released (R102): where the front reading of no other channel
names the same record of the store (R89 keeps the runs of volumes apart).  The form and the names of volumes are the model's
own: notes/assumptions/4.md, 20.md. -/
def Obligations.MemoriesStayCanonical : Prop :=
  (∀ s t : State, step s = .next t → s.memoriesOk → t.memoriesOk) ∧
    ∀ (s t : State) (ch : Chan) (v w : Volume) (i : Nat) (info : SettledInfo), step s = .next t → s.memoriesOk →
      s.volume ch = some v → t.volume ch = some w → w.uid = v.uid → v.uid < s.nextVolume →
      mapOk .fresh v.records = true → (v.record i).state = .settled → (v.record i).settled = some info →
      (∀ k x rest u, k ≠ ch → (s.channel k).handed = .reading x :: rest → s.volume k = some u →
        u.base + x.sector ≠ v.base + i) →
      w.base = v.base ∧ (w.record i).state = .settled ∧
        (∃ n, (w.record i).settled = some { info with matchCount := n }) ∧
        (areaOf t.image (v.base + i)).data = (areaOf s.image (v.base + i)).data

/-- R24, R44, R40, R147, R159: the fetch queue, the link error count, the fault counts and the hold timers stay within their
ranges; R132, R135: wear used never exceeds the wear budget, nor the passes used of a track the pass budget, and the track of an
outstanding order stands below it. -/
def Obligations.CountsStayInRange : Prop :=
  (∀ s t : State, step s = .next t → s.rangesOk → t.rangesOk) ∧
    ∀ s : State, s.rangesOk → ∀ ch v, s.volume ch = some v →
      v.planner.wearUsed ≤ v.planner.wearBudget ∧ ∀ k, (v.plan k).passesUsed ≤ v.planner.passBudget

/-- R11, R12: a use count is the number of mounted volumes that use the slot, and a slot in use HOLDS its profile.  R116: every
slot of a bank that passed is free or held by a candidate, so that the free slots and the held ones make up the usable capacity,
and no slot is referenced twice. -/
def Obligations.UseCountsKept : Prop :=
  (∀ s t : State, step s = .next t → s.useCountsOk → t.useCountsOk ∧ (s.slotsOk → t.slotsOk)) ∧
    ∀ s : State, s.slotsOk → s.pool.freeCount + s.pool.descriptors.length = s.pool.capacity

/-- R89: the runs of mounted volumes do not overlap and lie in the store.  R94, R95: the track summaries, the totals and the two
maps of every volume agree with the states of its records. -/
def Obligations.RunsKeptApart : Prop :=
  (∀ s t : State, step s = .next t → s.runsOk → t.runsOk) ∧ ∀ s t : State, step s = .next t → s.mapsOk → t.mapsOk

/-- The state after reset meets every invariant.  The surroundings of State.reset are the model's choice:
notes/assumptions/3.md. -/
def Obligations.ResetMeetsInvariants : Prop :=
  State.reset.link.ok ∧ State.reset.linesOk ∧ State.reset.periodsOk ∧ State.reset.memoriesOk ∧ State.reset.rangesOk ∧
    State.reset.useCountsOk ∧ State.reset.slotsOk ∧ State.reset.runsOk ∧ State.reset.mapsOk

/-! ## Codings -/

/-- R158, R159, R169: the receiver finds every whole frame as it was sent, whatever follows it. -/
def Obligations.ReceiverFindsFrame : Prop :=
  ∀ (f : OutFrame) (rest : List Byte), f.payload.length ≤ 2048 →
    scanBytes (frameBytes f ++ rest) 0 =
      (.frame f.kind f.tag f.payload :: (scanBytes rest 0).1, (scanBytes rest 0).2)

/-- R170: no bit of a valid profile image is lost: the fields read from it give the same 99 bytes back. -/
def Obligations.ProfileImageRoundTrip : Prop :=
  ∀ img : List Byte, validate img = none → imageOfProfile (profileOfImage img) = img

/-- R17, R3, R18: a value outside its range is held at the nearest limit, a budget of 0 as 255 or 65535, and all else as
received; the clamped set names exactly the fields that clamping changed.  The held form is its own held form. -/
def Obligations.HeldFormStable : Prop :=
  ∀ p : Profile,
    let outside (n least most : Nat) : Prop := n < least ∨ most < n
    let nearest (n least most : Nat) : Nat := if n < least then least else if most < n then most else n
    heldForm p = { p with
      window := nearest p.window 1 16, gain := nearest p.gain 1 63, spinUp := nearest p.spinUp 100 1000
      stepInterval := nearest p.stepInterval 2 20, settleTime := nearest p.settleTime 5 50, rpm := nearest p.rpm 150 600
      laneTime := nearest p.laneTime 1 600, quorum := nearest p.quorum 1 7
      trackPassBudget := if p.trackPassBudget = 0 then 255 else p.trackPassBudget
      wearBudget := if p.wearBudget = 0 then 65535 else p.wearBudget } ∧
    ((clampedSet p).window = true ↔ outside p.window 1 16) ∧ ((clampedSet p).gain = true ↔ outside p.gain 1 63) ∧
    ((clampedSet p).spinUp = true ↔ outside p.spinUp 100 1000) ∧
    ((clampedSet p).step = true ↔ outside p.stepInterval 2 20) ∧
    ((clampedSet p).settle = true ↔ outside p.settleTime 5 50) ∧ ((clampedSet p).rpm = true ↔ outside p.rpm 150 600) ∧
    ((clampedSet p).laneTime = true ↔ outside p.laneTime 1 600) ∧
    ((clampedSet p).quorum = true ↔ outside p.quorum 1 7) ∧
    heldForm (heldForm p) = heldForm p ∧ clampedSetByte (clampedSet (heldForm p)) = 0

/-! ## The Cell Separator -/

/-- R53, R56: a runt's ticks, with the carry it received, become the carry; P is unchanged and nothing is emitted.  A single
runt carries at most 312 ticks, and a carry held when capture ends is discarded. -/
def Obligations.RuntBecomesCarry : Prop :=
  ∀ (sp : Separator) (ticks period : Nat), sp.period = some period → ticks + sp.runtCarry < 65535 →
    (16 * (ticks + sp.runtCarry) + period / 2) / period = 0 →
    sp.takeInterval ticks = ({ sp with runtCarry := ticks + sp.runtCarry }, .runt) ∧
      (∀ next, carriedInterval (sp.takeInterval ticks).1 next = min (next + (ticks + sp.runtCarry)) 65535) ∧
      (∀ (d : Decoder) (e : DecoderEnv), d.takeOutcome e .runt = (d, [])) ∧
      (0 < period → 32 * (ticks + sp.runtCarry) < period ∧ (period ≤ 10000 → ticks + sp.runtCarry ≤ 312)) ∧
      (sp.takeInterval ticks).1.endPass.runtCarry = 0

/-- R57, R61: a violation emits n cells of quality 0, n - 1 zero-cells and then a one-cell, and moves neither P nor the
window-hit flag.  R54: an interval of 65535 ticks after the carry step, or of more than 16 cells, is a dropout: it emits no
cells, leaves P unchanged, loses the carry, and the decoder is told and looks for sync afresh. -/
def Obligations.ViolationLeavesPeriod : Prop :=
  (∀ (sp : Separator) (ticks period n k : Nat), sp.period = some period → ticks + sp.runtCarry < 65535 →
    n = (16 * (ticks + sp.runtCarry) + period / 2) / period → 1 ≤ n → n ≤ 16 → (n < sp.cellsMin ∨ sp.cellsMax < n) →
    sp.takeInterval ticks = ({ sp with runtCarry := 0 }, .cells n 0 .violation) ∧
      (outcomeCells k n 0 .violation).map (·.value) = List.replicate (n - 1) false ++ [true] ∧
      (∀ c ∈ outcomeCells k n 0 .violation, c.quality = 0 ∧ c.kind = .violation) ∧
      legalCells .mfm = (2, 4) ∧ legalCells .fm = (1, 2) ∧ legalCells .gcr = (1, 3)) ∧
  ∀ (sp : Separator) (ticks period : Nat), sp.period = some period →
    (65535 ≤ ticks + sp.runtCarry ∨ 16 < (16 * (ticks + sp.runtCarry) + period / 2) / period) →
    sp.takeInterval ticks = ({ sp with runtCarry := 0 }, .dropout) ∧
      ∀ (d : Decoder) (e : DecoderEnv), (d.takeOutcome e .dropout).1.state = .hunt ∧
        (d.takeOutcome e .dropout).1.recent = [] ∧ (d.takeOutcome e .dropout).1.syncRun = 0 ∧
        (d.state ≠ .data → (d.takeOutcome e .dropout).2 = [])

/-- R58 to R60: a normal interval moves P by the truncated correction, holds it within the bounds, and gives its cells the
quality of its phase error, at most 1 when clamped. -/
def Obligations.NormalIntervalCorrects : Prop :=
  ∀ (sp : Separator) (ticks period n : Nat) (e : Int), sp.period = some period → 0 < period →
    ticks + sp.runtCarry < 65535 → n = (16 * (ticks + sp.runtCarry) + period / 2) / period → 1 ≤ n → n ≤ 16 →
    sp.cellsMin ≤ n → n ≤ sp.cellsMax → e = (16 * (ticks + sp.runtCarry) : Nat) - (n * period : Nat) →
    sp.periodMin ≤ sp.periodMax →
    ∃ (q : Nat) (kind : CellKind) (p' : Nat), (sp.takeInterval ticks).2 = .cells n q kind ∧
      (sp.takeInterval ticks).1 = { sp with
        runtCarry := 0, period := some p', windowHit := sp.windowHit || decide (kind = .clamped) } ∧
      2 * e.natAbs ≤ period ∧ -((period / 2 : Nat) : Int) ≤ e ∧ e ≤ (period : Int) - ((period / 2 : Nat) : Int) - 1 ∧
      (p' : Int) = max (sp.periodMin : Int) (min (sp.periodMax : Int) ((period : Int) + (e * (sp.gain : Int)).tdiv ((n : Int) * 64))) ∧
      (kind = .normal ∨ kind = .clamped) ∧
      (kind = .clamped ↔ (p' : Int) ≠ (period : Int) + (e * (sp.gain : Int)).tdiv ((n : Int) * 64)) ∧
      (kind = .normal → q = 4 - e.natAbs * 8 / period) ∧ (kind = .clamped → q = min 1 (4 - e.natAbs * 8 / period))

/-- R8, R62 to R64, R81: the byte and the confidence that a byte's cells give, a group that is not in the GCR table giving
nibble 0 at quality 0; a reverse pass, which meets the cells in the other order, gives the same byte and the same
confidence.  R69 to R71: how sync runs are counted in HUNT on a forward pass, and what MARK makes of each cell: one more sync
pattern, or the mark byte, its class and where it leads.  That the mark byte ends the held identity is the model's inference:
notes/assumptions/30.md; so is how the cells given back behind it are taken again: 17.md; and that a header's mark byte opens
the block buffer: 32.md; and that the byte assembly holds the cells MARK collects after a sync longer than a byte: 34.md. -/
def Obligations.BytesFromCells : Prop :=
  (∀ (p : Profile) (cells : List Cell), cells.length = cellsPerByte p.encoding → (∀ c ∈ cells, c.quality ≤ 4) →
    let got := forwardByte p cells
    let bitOf (k : Nat) : Nat := if p.bitOrder = .msbFirst then 7 - k else k
    reverseBlockByte p cells.reverse = got ∧
    (p.encoding ≠ .gcr → cells.length = 16 ∧
      (∀ k, k < 8 → got.byte.getLsbD (bitOf k) = (cells.map (·.value)).getD (2 * k + 1) false) ∧
      (∀ c ∈ cells, got.confidence ≤ c.quality) ∧ ∃ c ∈ cells, got.confidence = c.quality) ∧
    (p.encoding = .gcr → p.gcrTable.length = 16 → distinct p.gcrTable = true →
      let code (g : List Cell) : Nat := (g.map (·.value)).foldl (fun a b => 2 * a + b.toNat) 0
      let table : List Nat := p.gcrTable.map BitVec.toNat
      let gives (g : List Cell) (nibble quality : Nat) : Prop :=
        (code g ∈ table → nibble < 16 ∧ table[nibble]? = some (code g) ∧ (∀ c ∈ g, quality ≤ c.quality) ∧
          ∃ c ∈ g, quality = c.quality) ∧
        (code g ∉ table → nibble = 0 ∧ quality = 0)
      cells.length = 10 ∧ ∃ hi hq lo lq, gives (cells.take 5) hi hq ∧ gives (cells.drop 5) lo lq ∧
        got.confidence = min hq lq ∧ ∀ k, k < 8 → got.byte.getLsbD (bitOf k) = (16 * hi + lo).testBit (7 - k))) ∧
  ∀ (d : Decoder) (e : DecoderEnv) (c : Cell), 1 ≤ e.profile.syncLength → e.profile.syncLength ≤ 32 →
    let p := e.profile
    let t := d.takeCell e c
    let pattern : List Bool := (List.range p.syncLength).map (fun k => p.syncPattern.getMsbD k)
    let perByte : Nat := if p.encoding = .gcr then 10 else 16
    (d.state = .hunt → d.direction = .forward →
      let occurs : Prop := ((c.value :: d.recent).take p.syncLength).reverse = pattern
      let run : Nat := if 0 < d.syncRun ∧ d.sinceSync + 1 = p.syncLength then min 4 (d.syncRun + 1) else 1
      t.back = [] ∧ t.reading = none ∧ t.decoder.recent = (c.value :: d.recent).take 32 ∧
      (occurs → t.decoder.syncRun = run ∧ t.decoder.sinceSync = 0 ∧
        (p.syncRepeat ≤ run → t.decoder.state = .mark ∧ t.decoder.assembly = []) ∧
        (run < p.syncRepeat → t.decoder.state = .hunt)) ∧
      (¬ occurs → t.decoder.state = .hunt ∧
        t.decoder.syncRun = if p.syncLength ≤ d.sinceSync + 1 then 0 else d.syncRun)) ∧
    (d.state = .mark →
      let got := d.assembly ++ [c]
      let sync : Prop := got.map (·.value) = pattern.take got.length
      let mark := forwardByte p (got.take perByte)
      let fits (m : MarkMask) : Prop := (m.mustOne ≠ 0 ∨ m.mustZero ≠ 0) ∧ mark.byte &&& m.mustOne = m.mustOne ∧
        mark.byte &&& m.mustZero = 0
      let dataOpened (cls : MarkClass) : Prop := t.decoder.state = .data ∧ t.decoder.markClass = cls ∧
        t.decoder.block = [mark] ∧ t.decoder.cursor = 1 ∧ t.decoder.violations = 0 ∧ t.decoder.clamped = false
      ((sync ∧ got.length < p.syncLength) ∨ (¬ sync ∧ got.length < perByte) →
        t.decoder.state = .mark ∧ t.decoder.assembly = got ∧ t.decoder.syncRun = d.syncRun ∧ t.back = [] ∧
          t.reading = none) ∧
      (sync → got.length = p.syncLength → t.decoder.state = .mark ∧ t.decoder.assembly = [] ∧
        t.decoder.syncRun = min 4 (d.syncRun + 1) ∧ t.back = [] ∧ t.reading = none) ∧
      (¬ sync → perByte ≤ got.length → t.back = got.drop perByte ∧ t.reading = none ∧ t.decoder.heldIdentity = none ∧
        (fits p.headerMark → t.decoder.state = .header ∧ t.decoder.block = [mark]) ∧
        (¬ fits p.headerMark → fits p.dataMark → dataOpened .data) ∧
        (¬ fits p.headerMark → ¬ fits p.dataMark → fits p.deletedMark → dataOpened .deleted) ∧
        (¬ fits p.headerMark → ¬ fits p.dataMark → ¬ fits p.deletedMark →
          t.decoder.state = .hunt ∧ t.decoder.syncRun = 0 ∧ t.decoder.tallies = d.tallies)))

/-- R72: in HEADER each cell joins the byte being assembled, and each byte, when its cells are whole, is deposited at the
cursor; with the last header check byte the header is taken and tested.  R73, R88: a header taken whole is tested for its check,
its track and its sector, in that order; on a floppy the first test it fails rejects it and raises that tally, and a header that
passes all is held for the data field that follows.  R74: a field's value, its bytes exchanged where the swap flag is set.  That
a header's bytes are kept in the block buffer and move the deposit cursor is the model's inference:
notes/assumptions/32.md.  R75: in GAP the sync run that reaches the repeat minimum comes before the gap limit, and the identity
is dropped when the gap count passes the limit first. -/
def Obligations.HeaderTested : Prop :=
  (∀ (f : FieldDesc) (header : List Byte), (f.width = 0 → fieldValue f header = none) ∧
    (f.width ≠ 0 → f.offset + f.width ≤ 8 * header.length →
      (f.swap = true → f.width ≤ 16 ∧ f.offset + 16 ≤ 8 * header.length) →
      let bit (k : Nat) : Bool := (header.getD (k / 8) 0).getLsbD (7 - k % 8)
      let place (j : Nat) : Nat := if f.swap = false then f.offset + j else if j < 8 then f.offset + 8 + j else f.offset + j - 8
      ∃ n, fieldValue f header = some n ∧ n < 2 ^ f.width ∧
        ∀ j, j < f.width → n.testBit (f.width - 1 - j) = bit (place j))) ∧
  (∀ (d : Decoder) (e : DecoderEnv) (c : Cell), d.state = .gap → 1 ≤ e.profile.syncLength → e.profile.syncLength ≤ 32 →
    let p := e.profile
    let t := d.takeCell e c
    let pattern : List Bool := (List.range p.syncLength).map (fun k => p.syncPattern.getMsbD k)
    let occurs : Prop := ((c.value :: d.recent).take p.syncLength).reverse = pattern
    let run : Nat := if 0 < d.syncRun ∧ d.sinceSync + 1 = p.syncLength then min 4 (d.syncRun + 1) else 1
    let limit : Nat := p.dataGapLimit * (if p.encoding = .gcr then 10 else 16)
    let count : Nat := min 4081 (d.gapCount + 1)
    t.back = [] ∧ t.reading = none ∧ t.decoder.gapCount = count ∧ t.decoder.tallies = d.tallies ∧
    (occurs → p.syncRepeat ≤ run → t.decoder.state = .mark ∧ t.decoder.heldIdentity = d.heldIdentity ∧
      t.decoder.assembly = [] ∧ t.decoder.syncRun = run) ∧
    (¬ occurs ∨ run < p.syncRepeat →
      (limit < count → t.decoder.state = .hunt ∧ t.decoder.heldIdentity = none) ∧
      (count ≤ limit → t.decoder.state = .gap ∧ t.decoder.heldIdentity = d.heldIdentity))) ∧
  (∀ (d : Decoder) (e : DecoderEnv), d.state = .header →
    let p := e.profile
    let perByte : Nat := if p.encoding = .gcr then 10 else 16
    let checkLength : Nat := if p.headerCheck = false then 0 else if p.checkType = .crc16 then 2 else 1
    let whole : Nat := 1 + p.headerLength + checkLength
    (∀ c : Cell,
      let t := d.takeCell e c
      let cells := d.assembly ++ [c]
      let pushed : Decoder := { d with recent := (c.value :: d.recent).take 32, sinceSync := min 33 (d.sinceSync + 1) }
      let deposited : Decoder := { pushed with
        assembly := [], block := forwardByte p cells :: d.block, cursor := d.cursor + 1 }
      t.back = [] ∧ t.reading = none ∧
      (cells.length < perByte → t.decoder = { pushed with assembly := cells }) ∧
      (perByte ≤ cells.length → d.block.length + 1 ≠ whole → t.decoder = deposited) ∧
      (perByte ≤ cells.length → d.block.length + 1 = whole → t.decoder = deposited.endHeader p)) ∧
    ∀ (n : Nat) (cells : List Cell), 1 ≤ n → d.block.length + n = whole → d.assembly = [] → cells.length = n * perByte →
      cells.foldl (fun x c => (x.takeCell e c).decoder) d = Decoder.endHeader
        { d with
          recent := ((cells.map (·.value)).reverse ++ d.recent).take 32, sinceSync := min 33 (d.sinceSync + cells.length)
          block := ((List.range n).map (fun k => forwardByte p ((cells.drop (k * perByte)).take perByte))).reverse ++ d.block
          cursor := d.cursor + n } p) ∧
  ∀ (d : Decoder) (p : Profile),
    let bytes := d.block.reverse.map (·.byte)
    let header := (bytes.take (1 + p.headerLength)).drop 1
    let checked := mediumCheck p (bytes.take (1 + p.headerLength))
    let recorded := bigEndian ((bytes.drop (1 + p.headerLength)).take (headerCheckBytes p))
    let checkFails : Prop := p.headerCheck = true ∧ checked ≠ recorded
    let wrongTrack : Prop := (∃ n, fieldValue p.cylField header = some n ∧ n ≠ d.track / p.heads) ∨
      (∃ n, fieldValue p.headField header = some n ∧ n ≠ d.track - p.heads * (d.track / p.heads))
    let outOfGeometry : Prop := ∃ n, fieldValue p.sectorField header = some n ∧
      (n < p.sectorBase ∨ p.sectors ≤ n - p.sectorBase)
    let rejected (t : Tallies) : Prop := (d.endHeader p).tallies = t ∧ (d.endHeader p).state = .hunt ∧
      (d.endHeader p).syncRun = 0 ∧ (d.endHeader p).heldIdentity = none ∧
      (d.endHeader p).rejectedWindow = if p.medium = .floppyHard then some d.markCounter else d.rejectedWindow
    (checkFails → testHeader p d.track bytes = .badHeader) ∧
    (¬ checkFails → wrongTrack → testHeader p d.track bytes = .wrongTrack) ∧
    (¬ checkFails → ¬ wrongTrack → outOfGeometry → testHeader p d.track bytes = .outOfGeometry) ∧
    (¬ checkFails → ¬ wrongTrack → ¬ outOfGeometry → testHeader p d.track bytes = .accepted
      { sector := (fieldValue p.sectorField header).map (fun n => n - p.sectorBase)
        cyl := fieldValue p.cylField header, head := fieldValue p.headField header }) ∧
    (p.medium ≠ .cartridge →
      (checkFails → rejected { d.tallies with badHeader := min 65535 (d.tallies.badHeader + 1) }) ∧
      (¬ checkFails → wrongTrack → rejected { d.tallies with wrongTrack := min 65535 (d.tallies.wrongTrack + 1) }) ∧
      (¬ checkFails → ¬ wrongTrack → outOfGeometry →
        rejected { d.tallies with outOfGeometry := min 65535 (d.tallies.outOfGeometry + 1) }) ∧
      (¬ checkFails → ¬ wrongTrack → ¬ outOfGeometry →
        (d.endHeader p).tallies = { d.tallies with goodHeaders := min 65535 (d.tallies.goodHeaders + 1) } ∧
        (d.endHeader p).state = .gap ∧ (d.endHeader p).gapCount = 0 ∧ (d.endHeader p).rejectedWindow = d.rejectedWindow ∧
        (d.endHeader p).heldIdentity.map (·.sector) =
          some ((fieldValue p.sectorField header).map (fun n => n - p.sectorBase))))

/-- R85: a reverse block that a dropout or the capture end truncates raises the orphan tally, gives no reading, and leaves the
decoder in HUNT with its bytes discarded.  R80, R82: HUNT on a reverse pass opens a block at the mirrored end pattern; each byte
goes below the one before, and a block whose mark byte has come is checked as a forward block: its mark, its header, its data
check.  R86: the intervals counted for its data go into the reading.  That a block which is discarded leaves the sync run at 0
is the model's inference: notes/assumptions/31.md. -/
def Obligations.ReverseBlockTruncated : Prop :=
  (∀ (d : Decoder) (e : DecoderEnv), d.state = .blockRev →
    (d.cutShort e).2 = none ∧ (d.dropout e).2 = none ∧
    (d.cutShort e).1.state = .hunt ∧ (d.dropout e).1.state = .hunt ∧
    (d.cutShort e).1.block = [] ∧ (d.dropout e).1.block = [] ∧
    (d.cutShort e).1.tallies = { d.tallies with orphans := min 65535 (d.tallies.orphans + 1) } ∧
    (d.dropout e).1.tallies = { d.tallies with orphans := min 65535 (d.tallies.orphans + 1) }) ∧
  ∀ (d : Decoder) (e : DecoderEnv) (c : Cell), e.profile.medium = .cartridge → e.profile.endLength ≤ 32 →
    let p := e.profile
    let t := d.takeCell e c
    let checkLength : Nat := if p.checkType = .crc16 then 2 else 1
    let start : Nat := 1 + p.headerLength + (if p.headerCheck = true then checkLength else 0)
    let whole : Nat := start + p.dataLength + checkLength
    let cells := d.assembly ++ [c]
    let perByte : Nat := if p.encoding = .gcr then 10 else 16
    let block := reverseBlockByte p cells :: d.block
    (d.state = .hunt → d.direction = .reverse →
      let mirrored : Prop := (c.value :: d.recent).take p.endLength = (List.range p.endLength).map (fun k => p.endPattern.getMsbD k)
      t.back = [] ∧ t.reading = none ∧
      (mirrored → t.decoder.state = .blockRev ∧ t.decoder.block = [] ∧ t.decoder.cursor = (whole : Int) - 1 ∧
        t.decoder.assembly = [] ∧ t.decoder.violations = 0 ∧ t.decoder.clamped = false) ∧
      (¬ mirrored → t.decoder.state = .hunt ∧ t.decoder.recent = (c.value :: d.recent).take 32)) ∧
    (d.state = .blockRev → t.back = [] ∧
      (cells.length < perByte → t.reading = none ∧ t.decoder.state = .blockRev ∧ t.decoder.assembly = cells ∧
        t.decoder.block = d.block) ∧
      (cells.length = perByte → block.length ≠ whole → t.reading = none ∧ t.decoder.state = .blockRev ∧
        t.decoder.assembly = [] ∧ t.decoder.block = block ∧ t.decoder.cursor = d.cursor - 1) ∧
      (cells.length = perByte → block.length = whole →
        let bytes := block.map (·.byte)
        let fits (m : MarkMask) : Prop := (m.mustOne ≠ 0 ∨ m.mustZero ≠ 0) ∧ bytes.headD 0 &&& m.mustOne = m.mustOne ∧
          bytes.headD 0 &&& m.mustZero = 0
        let dataMark : Prop := ¬ fits p.headerMark ∧ (fits p.dataMark ∨ fits p.deletedMark)
        t.decoder.state = .hunt ∧ t.decoder.syncRun = 0 ∧ t.decoder.block = [] ∧
        (¬ dataMark → t.reading = none ∧ t.decoder.tallies = d.tallies) ∧
        (dataMark →
          (testHeader p d.track bytes = .badHeader → t.reading = none ∧
            t.decoder.tallies = { d.tallies with badHeader := min 65535 (d.tallies.badHeader + 1) }) ∧
          (testHeader p d.track bytes = .wrongTrack → t.reading = none ∧
            t.decoder.tallies = { d.tallies with wrongTrack := min 65535 (d.tallies.wrongTrack + 1) }) ∧
          (testHeader p d.track bytes = .outOfGeometry → t.reading = none ∧
            t.decoder.tallies = { d.tallies with outOfGeometry := min 65535 (d.tallies.outOfGeometry + 1) }) ∧
          ∀ h n, testHeader p d.track bytes = .accepted h → h.sector = some n →
            t.decoder.tallies = { d.tallies with goodHeaders := min 65535 (d.tallies.goodHeaders + 1) } ∧
            ∃ x, t.reading = some x ∧ x.sector = d.track * p.sectors + n ∧ x.volume = e.volume ∧
              x.passNumber = d.passNumber ∧ (fits p.dataMark → x.markClass = .data) ∧
              (¬ fits p.dataMark → x.markClass = .deleted) ∧ x.truncated = false ∧
              x.data = (bytes.drop start).take p.dataLength ∧
              x.confidences = ((block.drop start).take p.dataLength).map (·.confidence) ∧
              x.markByte = bytes.headD 0 ∧ x.recordedCheck = bigEndian (bytes.drop (start + p.dataLength)) ∧
              (x.checkOk = true ↔ mediumCheck p (x.markByte :: x.data) = x.recordedCheck) ∧
              (d.cursor < (start : Int) → x.violations = d.violations ∧ x.clamped = d.clamped))))

/-- R79, R83, R84, R87, R88: a field truncated by the capture end or by a dropout: with an identity it becomes a reading of L
bytes that is not check_ok, whose missing bytes are 0 at confidence 0; an orphan raises the orphan tally and gives no reading; a
MISPLACED one, counted when it was found, gives none and leaves the tallies.  R71, R75, R78: the identity that a data mark's
field takes, by medium.  R76, R77, R79, R86, R87: the bytes of a field deposited in turn, a cartridge block's header tested when
its last byte has come, and the field's end: a reading with its check, an orphan, or nothing.  Where the position of a mark's
first cell is taken is the model's inference: notes/assumptions/16.md. -/
def Obligations.TruncatedFieldRead : Prop :=
  (∀ (d : Decoder) (e : DecoderEnv), d.state = .data →
    let cut := d.cutShort e
    let dropped := d.dropout e
    cut.1.state = .hunt ∧ cut.1.heldIdentity = none ∧ cut.1.recent = d.recent ∧ dropped.1.state = .hunt ∧
    dropped.1.heldIdentity = none ∧ dropped.1.recent = [] ∧ dropped.1.syncRun = 0 ∧ dropped.2 = cut.2 ∧
    dropped.1.tallies = cut.1.tallies ∧
    (d.identity = .orphan → cut.2 = none ∧ cut.1.tallies = { d.tallies with orphans := min 65535 (d.tallies.orphans + 1) }) ∧
    (d.identity = .misplaced → cut.2 = none ∧ cut.1.tallies = d.tallies) ∧
    ∀ n, d.identity = .sector n → cut.1.tallies = d.tallies ∧
    ∃ x, cut.2 = some x ∧ x.sector = d.track * e.profile.sectors + n ∧
      (∀ dep, d.block.reverse[0]? = some dep → x.markByte = dep.byte) ∧
      (d.block.length ≤ dataStart e.profile + e.profile.dataLength → x.recordedCheck = 0) ∧
      x.truncated = true ∧ x.checkOk = false ∧ x.passNumber = d.passNumber ∧ x.markClass = d.markClass ∧
      x.violations = d.violations ∧ x.clamped = d.clamped ∧ x.volume = e.volume ∧
      x.data.length = e.profile.dataLength ∧ x.confidences.length = e.profile.dataLength ∧
      ∀ j, j < e.profile.dataLength →
        (∀ dep, d.block.reverse[dataStart e.profile + j]? = some dep →
          x.data[j]? = some dep.byte ∧ x.confidences[j]? = some dep.confidence) ∧
        (d.block.length ≤ dataStart e.profile + j → x.data[j]? = some 0 ∧ x.confidences[j]? = some 0)) ∧
  ∀ (d : Decoder) (e : DecoderEnv) (c : Cell),
    let p := e.profile
    let t := d.takeCell e c
    let perByte : Nat := if p.encoding = .gcr then 10 else 16
    (d.state = .mark → t.decoder.state = .data →
      let place : Nat := if d.assembly = [] then d.gapCount else d.markGap
      let counter : Nat := if d.assembly = [] then e.sectorCounter else d.markCounter
      let held (h : HeldIdentity) : Prop := d.heldIdentity = some h ∧ place ≤ p.dataGapLimit * perByte
      (t.decoder.identity ≠ .misplaced → t.decoder.tallies = d.tallies) ∧
      (p.medium = .cartridge → t.decoder.identity = .orphan) ∧
      (p.medium = .floppySoft → (∀ h n, held h → h.sector = some n → t.decoder.identity = .sector n) ∧
        ((∀ h, ¬ held h) → t.decoder.identity = .orphan)) ∧
      (p.medium = .floppyHard →
        (∀ h n, held h → h.sector = some n → n ≠ counter → t.decoder.identity = .misplaced ∧
          t.decoder.tallies = { d.tallies with misplaced := min 65535 (d.tallies.misplaced + 1) }) ∧
        (∀ h, held h → h.sector = none ∨ h.sector = some counter → t.decoder.identity = .sector counter) ∧
        ((∀ h, ¬ held h) →
          t.decoder.identity = if d.rejectedWindow = some counter then .orphan else .sector counter))) ∧
    (d.state = .data →
      let checkLength : Nat := if p.checkType = .crc16 then 2 else 1
      let start : Nat := if p.medium = .cartridge then
        1 + p.headerLength + (if p.headerCheck = true then checkLength else 0) else 1
      let whole : Nat := start + p.dataLength + checkLength
      let cells := d.assembly ++ [c]
      let block := forwardByte p cells :: d.block
      let bytes := block.reverse.map (·.byte)
      let counts : Prop := (start : Int) ≤ d.cursor
      let violations : Nat := if counts ∧ c.kind = .violation ∧ d.lastViolation ≠ some c.interval then
        min 255 (d.violations + 1) else d.violations
      t.back = [] ∧
      (cells.length < perByte → t.reading = none ∧ t.decoder.state = .data ∧ t.decoder.assembly = cells ∧
        t.decoder.block = d.block ∧ t.decoder.violations = violations) ∧
      (cells.length = perByte → block.length ≠ whole → t.reading = none ∧
        (p.medium ≠ .cartridge ∨ block.length ≠ start → t.decoder.state = .data ∧ t.decoder.assembly = [] ∧
          t.decoder.block = block ∧ t.decoder.cursor = d.cursor + 1 ∧ t.decoder.tallies = d.tallies ∧
          t.decoder.violations = violations) ∧
        (p.medium = .cartridge → block.length = start →
          (testHeader p d.track bytes = .badHeader → t.decoder.state = .hunt ∧
            t.decoder.tallies = { d.tallies with badHeader := min 65535 (d.tallies.badHeader + 1) }) ∧
          (testHeader p d.track bytes = .wrongTrack → t.decoder.state = .hunt ∧
            t.decoder.tallies = { d.tallies with wrongTrack := min 65535 (d.tallies.wrongTrack + 1) }) ∧
          (testHeader p d.track bytes = .outOfGeometry → t.decoder.state = .hunt ∧
            t.decoder.tallies = { d.tallies with outOfGeometry := min 65535 (d.tallies.outOfGeometry + 1) }) ∧
          ∀ h n, testHeader p d.track bytes = .accepted h → h.sector = some n → t.decoder.state = .data ∧
            t.decoder.identity = .sector n ∧ t.decoder.block = block ∧ t.decoder.cursor = d.cursor + 1 ∧
            t.decoder.tallies = { d.tallies with goodHeaders := min 65535 (d.tallies.goodHeaders + 1) })) ∧
      (cells.length = perByte → block.length = whole → 1 ≤ p.dataLength →
        t.decoder.state = .hunt ∧ t.decoder.syncRun = 0 ∧ t.decoder.heldIdentity = none ∧ t.decoder.block = [] ∧
        (d.identity = .orphan → t.reading = none ∧
          t.decoder.tallies = { d.tallies with orphans := min 65535 (d.tallies.orphans + 1) }) ∧
        (d.identity = .misplaced → t.reading = none ∧ t.decoder.tallies = d.tallies) ∧
        ∀ n, d.identity = .sector n → t.decoder.tallies = d.tallies ∧
          ∃ x, t.reading = some x ∧ x.sector = d.track * p.sectors + n ∧ x.volume = e.volume ∧
            x.passNumber = d.passNumber ∧ x.markClass = d.markClass ∧ x.truncated = false ∧
            x.data = (bytes.drop start).take p.dataLength ∧
            x.confidences = ((block.reverse.drop start).take p.dataLength).map (·.confidence) ∧
            x.markByte = bytes.headD 0 ∧ x.recordedCheck = bigEndian (bytes.drop (start + p.dataLength)) ∧
            (x.checkOk = true ↔ mediumCheck p (x.markByte :: x.data) = x.recordedCheck) ∧
            x.violations = violations ∧ (x.clamped = true ↔ d.clamped = true ∨ (counts ∧ c.kind = .clamped))))

/-- R97: one candidate ranks above another by check_ok, then more matches, then a higher score, then a lower arrival serial,
then the earlier entry into the list; the list is put into rank order: nothing is gained or lost, and nothing later ranks above
anything earlier.  The order of entry is held as a number of the model's own: notes/assumptions/20.md, 21.md. -/
def Obligations.RankOrderSorts : Prop :=
  (∀ (p : Pool) (slot other : Nat) (a b : Candidate), p.descriptor slot = some a → p.descriptor other = some b →
    (p.slotAbove slot other = true ↔
      (a.checkOk = true ∧ b.checkOk = false) ∨
      (a.checkOk = b.checkOk ∧ b.matchCount < a.matchCount) ∨
      (a.checkOk = b.checkOk ∧ a.matchCount = b.matchCount ∧ b.score < a.score) ∨
      (a.checkOk = b.checkOk ∧ a.matchCount = b.matchCount ∧ a.score = b.score ∧ a.serial < b.serial) ∨
      (a.checkOk = b.checkOk ∧ a.matchCount = b.matchCount ∧ a.score = b.score ∧ a.serial = b.serial ∧
        a.entered < b.entered)) ∧
    p.slotAbove slot other = ranksAbove a b) ∧
  ∀ (p : Pool) (slots : List Nat), (p.rankOrder slots).Perm slots ∧
    (p.rankOrder slots).Pairwise (fun a b => p.slotAbove b a = false)

/-- R115, R116: the pool grants the lowest free slot and writes the candidate, or answers NONE when no slot is free; a returned
slot is empty and stands in the free list at its place; every other slot is as before. -/
def Obligations.SlotsGrantedAndReturned : Prop :=
  (∀ (p : Pool) (c : Candidate) (data : List Byte) (confs : List Nat),
    p.freeList.Pairwise (· < ·) → mapOk none p.descriptors = true → memoryOk p.memory = true →
    data.length = confs.length →
    (p.freeList = [] → p.allocate c data confs = none) ∧
    (p.freeList ≠ [] → ∃ slot q, p.allocate c data confs = some (slot, q) ∧ slot ∈ p.freeList ∧
      (∀ k ∈ p.freeList, slot ≤ k) ∧ slot ∉ q.freeList ∧ (∀ k, k ≠ slot → (k ∈ q.freeList ↔ k ∈ p.freeList)) ∧
      q.freeCount + 1 = p.freeCount ∧ q.descriptor slot = some c ∧ q.data slot data.length = data ∧
      q.confidences slot confs.length = confs ∧
      ∀ k, k ≠ slot → q.descriptor k = p.descriptor k ∧ areaOf q.memory k = areaOf p.memory k)) ∧
  ∀ (p : Pool) (slot : Nat), p.freeList.Pairwise (· < ·) → slot ∉ p.freeList → mapOk none p.descriptors = true →
    (p.giveBack slot).freeList.Pairwise (· < ·) ∧ (p.giveBack slot).freeCount = p.freeCount + 1 ∧
    (∀ k, k ∈ (p.giveBack slot).freeList ↔ k = slot ∨ k ∈ p.freeList) ∧ (p.giveBack slot).descriptor slot = none ∧
    (∀ k, k ≠ slot → (p.giveBack slot).descriptor k = p.descriptor k) ∧ (p.giveBack slot).memory = p.memory

/-- R121 to R125: the weights, the vote on a bit, its margin, and the fused confidence, the least margin of the eight; and that
a fusion votes so on every byte position among the candidates of the top-ranked one's mark class, of which it takes at least
three, and is GOOD exactly when a participant's recorded check is the check of the fused data. -/
def Obligations.FusionVotes : Prop :=
  (∀ (votes : List Vote) (bit : Nat),
    let ones := ((votes.filter (fun v => v.byte.getLsbD bit)).map (·.weight)).sum
    let zeros := ((votes.filter (fun v => !v.byte.getLsbD bit)).map (·.weight)).sum
    (zeros < ones → fusedBit votes bit = true) ∧ (ones < zeros → fusedBit votes bit = false) ∧
    (ones = zeros → ∀ top rest, votes = top :: rest → fusedBit votes bit = top.byte.getLsbD bit) ∧
    (bit < 8 → (fusedByte votes).getLsbD bit = fusedBit votes bit) ∧
    (ones + zeros = 0 → bitMargin votes bit = 0) ∧
    (ones + zeros ≠ 0 → bitMargin votes bit = 4 * (max ones zeros - min ones zeros) / (ones + zeros)) ∧
    (bit < 8 → fusedConfidence votes ≤ bitMargin votes bit) ∧ (∃ k, k < 8 ∧ fusedConfidence votes = bitMargin votes k) ∧
    ∀ conf matchCount, conf ≤ 4 → voteWeight conf matchCount = conf * min matchCount 7 ∧ voteWeight conf matchCount ≤ 28) ∧
  ∀ (p : Pool) (prof : Profile) (volume sector length top : Nat) (rest : List Nat) (c : Candidate), p.descriptor top = some c →
    let chosen := (top :: rest).filter (fun k => decide ((p.descriptor k).map (·.markClass) = some c.markClass))
    let votes (j : Nat) : List Vote := chosen.map (fun k =>
      { byte := (p.data k length).getD j 0, weight := voteWeight ((p.confidences k length).getD j 0) (p.slotMatches k) })
    let fused := p.fuse prof volume sector length (top :: rest)
    (chosen.length < 3 → fused.result = .tooFew) ∧
    (3 ≤ chosen.length → fused.participants = chosen ∧ fused.markClass = c.markClass ∧ fused.markByte = c.markByte ∧
      fused.data.length = length ∧ fused.confidences.length = length ∧
      (∀ j, j < length → fused.data[j]? = some (fusedByte (votes j)) ∧
        fused.confidences[j]? = some (fusedConfidence (votes j))) ∧
      fused.check = mediumCheck prof (c.markByte :: fused.data) ∧
      ((∃ k ∈ chosen, (p.descriptor k).map (·.recordedCheck) = some fused.check) → fused.result = .good) ∧
      ((∀ k ∈ chosen, (p.descriptor k).map (·.recordedCheck) ≠ some fused.check) → fused.result = .bad))

/-! ## The record store and the records -/

/-- R89: first fit takes the lowest run that is free, and finds none only where there is none. -/
def Obligations.FirstFitIsLowest : Prop :=
  ∀ (runs : List (Nat × Nat)) (n : Nat),
    (∀ b, firstFit runs n = some b →
      (b + n ≤ 32768 ∧ ∀ r ∈ runs, b + n ≤ r.1 ∨ r.1 + r.2 ≤ b) ∧
      ∀ b', b' < b → ¬ (b' + n ≤ 32768 ∧ ∀ r ∈ runs, b' + n ≤ r.1 ∨ r.1 + r.2 ≤ b')) ∧
    (firstFit runs n = none → ∀ b, ¬ (b + n ≤ 32768 ∧ ∀ r ∈ runs, b + n ≤ r.1 ∨ r.1 + r.2 ≤ b))

/-- R94, R95: a record written moves between classes in its track's summary, the totals and the maps, and no other record, track
or map bit changes. -/
def Obligations.RecordMovesClasses : Prop :=
  ∀ (v : Volume) (i : Nat) (r : SectorRecord), mapOk .fresh v.records = true → i / v.sectors < v.summaries.length →
    let old := classOf (v.record i).state
    let new := classOf r.state
    (v.putRecord i r).record i = r ∧ (∀ j, j ≠ i → (v.putRecord i r).record j = v.record j) ∧
    (old = new → (v.putRecord i r).totals = v.totals ∧ (v.putRecord i r).summaries = v.summaries) ∧
    (old ≠ new → (v.putRecord i r).totals = (v.totals.lower old).raise new ∧
      (v.putRecord i r).summary (i / v.sectors) = ((v.summary (i / v.sectors)).lower old).raise new) ∧
    (∀ t, t ≠ i / v.sectors → (v.putRecord i r).summary t = v.summary t) ∧
    (old ≠ new → ((i ∈ (v.putRecord i r).settledMap ↔ r.state = .settled) ∧
      (i ∈ (v.putRecord i r).exclusionMap ↔ r.state = .excluded))) ∧
    ∀ j, j ≠ i → (j ∈ (v.putRecord i r).settledMap ↔ j ∈ v.settledMap) ∧
      (j ∈ (v.putRecord i r).exclusionMap ↔ j ∈ v.exclusionMap)

/-- R131: the gain, window, offset and revolutions of each ladder step, and the advance after a fruitless pass. -/
def Obligations.LadderSteps : Prop :=
  ∀ p : Profile,
    [0, 1, 2, 3, 4, 5].map (ladderGain p) =
      [p.gain, min (2 * p.gain) 63, p.gain, p.gain, p.gain, max (p.gain / 2) 1] ∧
    [0, 1, 2, 3, 4, 5].map (ladderWindow p) =
      [p.window, p.window, min (2 * p.window) 16, p.window, p.window, min (2 * p.window) 16] ∧
    [0, 1, 2, 3, 4, 5].map ladderOffset = [.zero, .zero, .zero, .plus, .minus, .zero] ∧
    [0, 1, 2, 3, 4, 5].map (ladderRevolutions p) =
      (if p.medium = .cartridge then [1, 1, 1, 1, 1, 1] else [1, 1, 1, 1, 1, 3]) ∧
    (p.offsetCapable = true → [0, 1, 2, 3, 4, 5].map (nextStep p) = [1, 2, 3, 4, 5, 5]) ∧
    (p.offsetCapable = false → [0, 1, 2, 5].map (nextStep p) = [1, 2, 5, 5])

/-! ## The part: resets, enumeration, the receiver -/

/-- R10, R23, R24, R50, R67, R91, R113, R165, R168: what power-on reset and the begin of a restart leave; a restart carries the
bank results, keeps what candidate memory holds (R112, R114), and begins only when its reply has left or been cleared.  What
self-test finds is an operand, the model's choice: notes/assumptions/23.md.  That RESTART_BEGIN does nothing while no restart is
due, and the queue that is kept, are the model's choice: notes/assumptions/9.md, 20.md. -/
def Obligations.ResetClearsPart : Prop :=
  (∀ (env : Environment) (s : State), ∃ t, exec (.powerOnReset env) s = .next t ∧ PartReset env env.banksOk false t ∧
    t.pending = s.pending) ∧
  (∀ (env : Environment) (s : State), s.link.restart = .due → ∃ t, exec (.restartBegin env) s = .next t ∧
    PartReset env s.pool.bankPassed true t ∧ t.pool.memory = s.pool.memory ∧ t.pending = s.pending) ∧
  ∀ (env : Environment) (s : State), s.link.restart ≠ .due → exec (.restartBegin env) s = .next s

/-- R164, R168: a link reset clears the receiver, the queues, the pending sets and the fetches and keeps all else; until the
function enumerates again the IN pipe takes nothing and a notice goes to its channel's pending set.  The last two clauses are
the model's inference: notes/assumptions/7.md. -/
def Obligations.LinkResetClearsLink : Prop :=
  (∀ s : State, exec .linkReset s = .next { s with
    fetches := []
    link := { s.link with
      received := [], requests := [], outbound := [], pendingSets := ⟨.empty, .empty, .empty, .empty⟩
      enumerated := false, restart := if s.link.restart = .idle then .idle else .due } }) ∧
  (∀ s : State, s.link.enumerated = false → exec .outboundEntryLeft s = .next s) ∧
  ∀ (s : State) (ch : Chan) (k : NoticeKind) (p : List Byte), s.link.enumerated = false → s.link.restart = .idle →
    s.selfTest.partFailed = false →
    s.notify ch k p = { s with link := { s.link with
      pendingSets := qset s.link.pendingSets ch ((qget s.link.pendingSets ch).add k) } }

/-- R164, R166, R174: enumeration puts HELLO first, and behind it one SUMMARY for each channel with a pending set,
ascending.  The channels present and the place of HELLO are the model's inference: notes/assumptions/6.md, 7.md. -/
def Obligations.EnumerationSendsHello : Prop :=
  ∀ s : State, s.link.restart = .idle → s.link.requests = [] → s.link.outbound = [] →
    ∃ hello : OutFrame, hello.kind = 0x60 ∧ hello.tag = 0 ∧ hello.payload.length = 13 ∧
      hello.payload = le2 0x2C44 ++ b1 1 ++ le2 s.selfTest.progress.toNat ++ le2 s.selfTest.failed.toNat ++
        yesNo s.selfTest.carried ++ b1 (channelSet (qmap (fun c => decide (c.state ≠ .absent)) s.channels)) ++
        b1 (channelSet (qmap (fun c => decide (c.kind = .cartridge)) s.channels)) ++ yesNo s.selfTest.partFailed ++
        le2 s.pool.capacity ∧
      exec .enumeration s = .next { s with link := { s.link with
        enumerated := true
        pendingSets := ⟨.empty, .empty, .empty, .empty⟩
        outbound := hello :: (allChans.filter (fun ch => decide (qget s.link.pendingSets ch ≠ .empty))).map
          (fun ch => { kind := 0x66, tag := 0, payload := b1 ch.val ++ b1 (noticeSetByte (qget s.link.pendingSets ch)) }) } }

/-- R160, R166, R168: the tests of a frame received whole, in their order, for every kind, over the request kinds and payload
lengths of the table of section 9.7: a frame of any other kind is of no request kind.  A request is accepted where all the tests
pass, which is what Accepts says in the other statements.  That a command is a frame received whole is the model's choice:
notes/assumptions/10.md. -/
def Obligations.AcceptanceTests : Prop :=
  let table : List (Byte × Nat × Nat) :=
    [(0x01, 0, 0), (0x02, 1, 1), (0x03, 0, 0), (0x10, 1, 2048), (0x11, 1, 1), (0x12, 1, 1), (0x20, 7, 7), (0x21, 1, 1),
     (0x22, 6, 6), (0x23, 5, 5), (0x24, 3, 3), (0x30, 1, 1), (0x31, 1, 1), (0x32, 1, 1), (0x33, 4, 4), (0x34, 3, 3),
     (0x38, 1, 1), (0x40, 6, 6)]
  ∀ (s : State) (kind tag : Byte) (payload : List Byte) (serve : State → Nat → State),
    let refused (k : Byte) (st : Status) : State :=
      if s.link.requests.length < 32 - s.link.outbound.length then
        s.setLink (Link.reportRoom { s.link with
          received := [], outbound := s.link.outbound ++ [{ kind := k, tag := tag, payload := b1 (statusCode st) }] }
          s.fetching)
      else s.setLink { s.link with received := [], linkErrors := min 65535 (s.link.linkErrors + 1) }
    (s.link.restart ≠ .idle → s.withRequest kind tag payload serve = s.setLink { s.link with received := [] }) ∧
    (s.link.restart = .idle →
      ((∀ least most, (kind, least, most) ∉ table) → s.withRequest kind tag payload serve = refused 0xFF .unknownKind ∧
        exec (.unknownKind kind tag payload) s = .next (refused 0xFF .unknownKind)) ∧
      ∀ least most, (kind, least, most) ∈ table →
        ((payload.length < least ∨ most < payload.length) →
          s.withRequest kind tag payload serve = refused (kind + 0x80) .badLength) ∧
        (least ≤ payload.length → payload.length ≤ most →
          ((s.selfTest.partFailed = true ∧ kind ≠ 0x01 ∧ kind ≠ 0x03) →
            s.withRequest kind tag payload serve = refused (kind + 0x80) .partFailed) ∧
          ((s.selfTest.partFailed = false ∨ kind = 0x01 ∨ kind = 0x03) →
            (8 ≤ s.link.requests.length ∨ 32 - s.link.outbound.length ≤ s.link.requests.length) →
            s.withRequest kind tag payload serve = refused (kind + 0x80) .queueFull) ∧
          ((s.selfTest.partFailed = false ∨ kind = 0x01 ∨ kind = 0x03) → s.link.requests.length < 8 →
            s.link.requests.length < 32 - s.link.outbound.length → Accepts s kind payload ∧
            s.withRequest kind tag payload serve = serve (s.setLink { s.link with
              received := [], nextId := s.link.nextId + 1
              requests := s.link.requests ++ [{ id := s.link.nextId, kind := kind, tag := tag }] }) s.link.nextId))) ∧
    (Accepts s kind payload → s.link.restart = .idle ∧
      (∃ least most, (kind, least, most) ∈ table ∧ least ≤ payload.length ∧ payload.length ≤ most) ∧
      (s.selfTest.partFailed = false ∨ kind = 0x01 ∨ kind = 0x03) ∧ s.link.requests.length < 8 ∧
      s.link.requests.length < 32 - s.link.outbound.length)

/-- R159: bytes that are no SOF are passed over uncounted; a whole frame is taken for acceptance; a frame of a length above
2048, or with a wrong check, is abandoned and counted, and every byte after its SOF is examined again, so that a frame inside it
is found; bytes that come in pieces are received as they are in one piece.  That FRAME_ABANDONED carries any bytes is the
model's choice: notes/assumptions/10.md. -/
def Obligations.BytesReceived : Prop :=
  (∀ s : State, s.link.received = [] →
    let counted : State := s.setLink { s.link with received := [], linkErrors := min 65535 (s.link.linkErrors + 1) }
    (∀ bytes : List Byte, (0xB7 : Byte) ∉ bytes → exec (.frameAbandoned bytes) s = .next s) ∧
    (∀ (kind tag : Byte) (payload : List Byte), payload.length ≤ 2048 →
      ∃ t, exec (.frameAbandoned (frameBytes { kind := kind, tag := tag, payload := payload })) s = .next t ∧
        t = (s.receiveFrame kind tag payload).setLink { (s.receiveFrame kind tag payload).link with received := [] }) ∧
    (∀ lo hi kind tag : Byte, 2048 < lo.toNat + 256 * hi.toNat → (0xB7 : Byte) ∉ [lo, hi, kind, tag] →
      exec (.frameAbandoned [0xB7, lo, hi, kind, tag]) s = .next counted) ∧
    (∀ (body : List Byte) (c : Nat), 4 ≤ body.length → le2At body 0 + 4 = body.length → le2At body 0 ≤ 2048 →
      c < 65536 → c ≠ crc16 0xFFFF body → (0xB7 : Byte) ∉ body ++ le2 c →
      exec (.frameAbandoned (0xB7 :: (body ++ le2 c))) s = .next counted) ∧
    (∀ bytes : List Byte, bytes.length < 4 → exec (.frameAbandoned (0xB7 :: bytes)) s =
      .next (s.setLink { s.link with received := 0xB7 :: bytes })) ∧
    (∀ (b : Byte) (more : List Byte), b ≠ 0xB7 → exec (.frameAbandoned (b :: more)) s = exec (.frameAbandoned more) s) ∧
    (∀ (lo hi kind tag : Byte) (more : List Byte), 2048 < lo.toNat + 256 * hi.toNat →
      exec (.frameAbandoned (0xB7 :: lo :: hi :: kind :: tag :: more)) s =
        exec (.frameAbandoned (lo :: hi :: kind :: tag :: more)) counted) ∧
    (∀ (body more : List Byte) (c : Nat), 4 ≤ body.length → le2At body 0 + 4 = body.length → le2At body 0 ≤ 2048 →
      c < 65536 → c ≠ crc16 0xFFFF body →
      exec (.frameAbandoned (0xB7 :: (body ++ le2 c ++ more))) s = exec (.frameAbandoned (body ++ le2 c ++ more)) counted)) ∧
  ∀ (s : State) (bytes more : List Byte), ∃ t, exec (.frameAbandoned bytes) s = .next t ∧
    exec (.frameAbandoned more) t = exec (.frameAbandoned (bytes ++ more)) s

/-- R166, R167, R173: IDENT is answered with the HELLO contents, STATUS with its groups of 59 or 194 bytes in all, field by
field, or BAD_CHANNEL; neither changes anything but the link.  R172: the codes of the fields.  The channels present are the
model's inference: notes/assumptions/6.md. -/
def Obligations.IdentAndStatusAnswered : Prop :=
  (∀ (s : State) (tag n : Byte), s.link.idsFresh →
    let channelGroup (c : Channel) : List Byte :=
      b1 (chanStateByte c.state) ++ b1 (strapByte c.kind) ++ (if c.state = .absent then [0] else [1]) ++
        b1 (faultByte c.faultCode) ++ b1 c.faultCount ++ b1 c.position ++ yesNo c.positionKnown ++ b1 c.headSelected ++
        b1 (tapeEndByte c.tapeEnd) ++ b1 (offsetByte c.offset) ++ yesNo c.mediaSeen ++ le2 c.sectorCounter ++
        (match c.holdTimer with
         | none => [0xFF, 0xFF]
         | some left => le2 left) ++
        (match c.pass with
         | none => [0, 0, 0]
         | some a => [1] ++ le2 a.order.track) ++ yesNo c.recal.isSome
    let volumeGroup (v : Option Volume) : List Byte :=
      match v with
      | none => List.replicate 25 0
      | some v => [1] ++ le4 v.tag ++ b1 v.slot ++ b1 (runByte v.planner.run) ++ b1 (haltByte v.planner.halt) ++
        b1 (phaseByte v.planner.phase) ++ le2 v.planner.currentTrack ++ b1 (v.plan v.planner.currentTrack).ladderStep ++
        le2 v.planner.wearUsed ++ le2 v.planner.wearBudget ++ yesNo v.mediaGone ++ le2 v.totals.settled ++
        le2 v.totals.opn ++ le2 v.totals.lost ++ le2 v.totals.excluded
    let records (ch : Chan) : Nat := match s.volume ch with
      | none => 0
      | some v => v.trackCount * v.sectors
    let partGroup : List Byte :=
      le2 s.pool.freeList.length ++ le2 (1024 * (qlist s.pool.bankPassed).count true) ++
        le2 (32768 - (records 0 + records 1 + records 2 + records 3)) ++ le2 s.link.linkErrors ++
        le2 s.selfTest.progress.toNat ++ le2 s.selfTest.failed.toNat ++ yesNo s.selfTest.carried
    let groups (ch : Chan) : List Byte := b1 ch.val ++ channelGroup (s.channel ch) ++ volumeGroup (s.volume ch)
    let bitsOf (f : Channel → Bool) : List Byte :=
      b1 ((f (s.channel 0)).toNat + 2 * (f (s.channel 1)).toNat + 4 * (f (s.channel 2)).toNat + 8 * (f (s.channel 3)).toNat)
    let helloFields : List Byte :=
      [0x44, 0x2C] ++ [1] ++ le2 s.selfTest.progress.toNat ++ le2 s.selfTest.failed.toNat ++ yesNo s.selfTest.carried ++
        bitsOf (fun c => decide (c.state ≠ .absent)) ++ bitsOf (fun c => decide (c.kind = .cartridge)) ++
        yesNo s.selfTest.partFailed ++ le2 (1024 * (qlist s.pool.bankPassed).count true)
    (Accepts s 0x01 [] → exec (.ident tag []) s = .next (s.answered 0x01 tag .ok helloFields) ∧
      (b1 (statusCode .ok) ++ helloFields).length = 14) ∧
    (Accepts s 0x02 [n] →
      (n.toNat = 255 → exec (.status tag [n]) s = .next (s.answered 0x02 tag .ok
          (groups 0 ++ groups 1 ++ groups 2 ++ groups 3 ++ partGroup)) ∧
        (groups 0 ++ groups 1 ++ groups 2 ++ groups 3 ++ partGroup).length = 193) ∧
      (∀ ch : Chan, n.toNat = ch.val → exec (.status tag [n]) s = .next (s.answered 0x02 tag .ok
          (groups ch ++ partGroup)) ∧ (groups ch ++ partGroup).length = 58) ∧
      (4 ≤ n.toNat → n.toNat < 255 → exec (.status tag [n]) s = .next (s.answered 0x02 tag .badChannel [])))) ∧
  [ChanState.absent, .idle, .spinup, .recal, .seeking, .settling, .armed, .capturing, .winding, .holding, .faulted].map
    chanStateByte = [0, 1, 2, 3, 4, 5, 6, 7, 8, 9, 10] ∧
  [StrapKind.floppy, .cartridge].map strapByte = [0, 1] ∧
  [FaultCode.none, .notReady, .indexLost, .markerLost, .recalFailed].map faultByte = [0, 1, 2, 3, 4] ∧
  [TapeEnd.none, .bot, .eot].map tapeEndByte = [0, 1, 2] ∧ [Offset.minus, .zero, .plus].map offsetByte = [0xFF, 0, 1] ∧
  [RunState.stopped, .running, .pausing, .paused, .complete, .endedPartial, .halted].map runByte = [0, 1, 2, 3, 4, 5, 6] ∧
  [HaltReason.none, .fault .notReady, .fault .indexLost, .fault .markerLost, .fault .recalFailed, .mediaGone].map haltByte =
    [0, 1, 2, 3, 4, 5] ∧
  [Phase.survey, .recovery].map phaseByte = [0, 1]

/-- R157, R168: RESTART is answered OK; from then on frames, notices and SECTOR frames are not taken, and replies of other
accepted requests are enqueued behind its reply.  The entries that stood before it leave one by one and do not make the restart
due; it is due when its own reply has left, or when a link reset clears it, whichever replies stand behind it; and once it is
due no entry leaves any more. -/
def Obligations.RestartTaken : Prop :=
  ∀ (s : State) (tag : Byte), s.link.idsFresh → Accepts s 0x03 [] →
    ∃ t, exec (.restart tag []) s = .next t ∧
      t = s.setLink { s.link with
        received := [], nextId := s.link.nextId + 1, restart := .replyQueued
        outbound := s.link.outbound ++ [replyFrame 0x03 tag .ok []] } ∧
      (∀ ch k p, t.notify ch k p = t) ∧ exec .fetchFrameOffer t = .next t ∧
      (∀ kind tag' payload, exec (.unknownKind kind tag' payload) t = .next t) ∧
      (∀ (u : State) (id : Nat) (st : Status) (fields : List Byte) (r : RequestEntry), u.link.restart = .replyQueued →
        u.link.requests.find? (fun x => x.id == id) = some r →
        u.reply id st fields = u.setLink { u.link with
          requests := u.link.requests.eraseP (fun x => x.id == id)
          outbound := u.link.outbound ++ [{ kind := r.kind + 0x80, tag := r.tag, payload := b1 (statusCode st) ++ fields }] }) ∧
      (s.link.enumerated = true → (∀ f ∈ s.link.outbound, f.kind ≠ 0x83 ∨ f.payload ≠ b1 (statusCode .ok)) →
        ∀ behind : List OutFrame,
        let queued (gone : Nat) : State := t.setLink { t.link with outbound := t.link.outbound.drop gone ++ behind }
        let due : State := t.setLink { t.link with outbound := behind, restart := .due }
        (∀ gone, gone < s.link.outbound.length → exec .outboundEntryLeft (queued gone) = .next (queued (gone + 1))) ∧
        exec .outboundEntryLeft (queued s.link.outbound.length) = .next due ∧ exec .outboundEntryLeft due = .next due) ∧
      ∃ u, exec .linkReset t = .next u ∧ u.link.restart = .due ∧ u.link.outbound = []

/-- R162, R163: the entry at the head leaves, and the pending SUMMARY notices are offered in ascending channel order while each
finds free at least unanswered plus 4 after it.  R153: where a fetch waits too, either its next frame or the SUMMARY notices may
be taken first.  That order is the free value of notes/assumptions/27.md, and the statement holds for every value of it. -/
def Obligations.EntryLeftReportsRoom : Prop :=
  (∀ (s : State) (f : OutFrame) (rest : List OutFrame), s.link.enumerated = true → s.link.restart = .idle →
    s.link.outbound = f :: rest →
    let left : Link := { s.link with outbound := rest }
    let meeting : Prop := s.fetches ≠ [] ∧ ∃ ch, qget s.link.pendingSets ch ≠ .empty
    (¬ meeting → exec .outboundEntryLeft s = .next (s.setLink (left.offerFrom allChans))) ∧
    (meeting → exec .outboundEntryLeft s = .next (s.setLink (
      if Config.frameFirst s.link.meetings then { left with meetings := s.link.meetings + 1 }
      else Link.offerFrom { left with meetings := s.link.meetings + 1 } allChans)))) ∧
  (∀ l : Link, l.offerFrom [] = l) ∧
  (∀ l : Link, ∀ ch chs, qget l.pendingSets ch = .empty → l.offerFrom (ch :: chs) = l.offerFrom chs) ∧
  ∀ l : Link, ∀ ch chs, qget l.pendingSets ch ≠ .empty →
    (l.outbound.length + 1 + l.requests.length + 4 ≤ 32 → l.offerFrom (ch :: chs) =
      Link.offerFrom { l with
        outbound := l.outbound ++ [summaryFrame ch (qget l.pendingSets ch)]
        pendingSets := qset l.pendingSets ch .empty } chs) ∧
    (32 < l.outbound.length + 1 + l.requests.length + 4 → l.offerFrom (ch :: chs) = l)

/-! ## Profiles -/

/-- R13 to R18: PROFILE_LOAD stores the held form of an image that passes the eleven validation steps in a slot that no volume
uses, names the first step that an image fails, and is refused otherwise; no other slot and no use count changes.  The steps are
spelled by the bytes of R170's layout (ValidationStep). -/
def Obligations.ProfileLoadStores : Prop :=
  ∀ (s : State) (tag n : Byte) (img : List Byte), s.link.idsFresh → Accepts s 0x10 (n :: img) →
    (8 ≤ n.toNat → exec (.profileLoad tag (n :: img)) s = .next (s.answered 0x10 tag .range [])) ∧
    (n.toNat < 8 → 0 < (s.slot n.toNat).useCount →
      exec (.profileLoad tag (n :: img)) s = .next (s.answered 0x10 tag .profileInUse [])) ∧
    (n.toNat < 8 → (s.slot n.toNat).useCount = 0 → ∀ reason, 1 ≤ reason → reason ≤ 11 →
      ¬ ValidationStep img reason → (∀ k, 1 ≤ k → k < reason → ValidationStep img k) →
      exec (.profileLoad tag (n :: img)) s = .next (s.answered 0x10 tag .profileBad (b1 reason))) ∧
    (n.toNat < 8 → (s.slot n.toNat).useCount = 0 → (∀ k, 1 ≤ k → k ≤ 11 → ValidationStep img k) →
      exec (.profileLoad tag (n :: img)) s = .next
        ((s.setSlots (s.slots.set n.toNat { held := some (heldForm (profileOfImage img)), useCount := 0 })).answered
          0x10 tag .ok (b1 n.toNat ++ b1 (clampedSetByte (clampedSet (profileOfImage img))) ++
            le2 (heldCheck (heldForm (profileOfImage img))))))

/-- R19, R20, R173: PROFILE_DROP empties a slot that HOLDS a profile no volume uses, and PROFILE_LIST reports a slot with its
held image, or all eight; each is refused as its rule says, and nothing else changes. -/
def Obligations.ProfileDropAndList : Prop :=
  ∀ (s : State) (tag n : Byte), s.link.idsFresh →
    (Accepts s 0x11 [n] →
      (8 ≤ n.toNat → exec (.profileDrop tag [n]) s = .next (s.answered 0x11 tag .range [])) ∧
      (n.toNat < 8 → (s.slot n.toNat).held = none →
        exec (.profileDrop tag [n]) s = .next (s.answered 0x11 tag .profileEmpty [])) ∧
      (n.toNat < 8 → (s.slot n.toNat).held ≠ none → 0 < (s.slot n.toNat).useCount →
        exec (.profileDrop tag [n]) s = .next (s.answered 0x11 tag .profileInUse [])) ∧
      (n.toNat < 8 → (s.slot n.toNat).held ≠ none → (s.slot n.toNat).useCount = 0 →
        exec (.profileDrop tag [n]) s = .next ((s.setSlots (s.slots.set n.toNat .empty)).answered 0x11 tag .ok []))) ∧
    (Accepts s 0x12 [n] →
      (n.toNat < 8 → (s.slot n.toNat).held = none →
        exec (.profileList tag [n]) s = .next (s.answered 0x12 tag .ok (b1 0 ++ b1 (s.slot n.toNat).useCount))) ∧
      (∀ p, n.toNat < 8 → (s.slot n.toNat).held = some p →
        exec (.profileList tag [n]) s =
          .next (s.answered 0x12 tag .ok (b1 1 ++ b1 (s.slot n.toNat).useCount ++ imageOfProfile p))) ∧
      (n.toNat = 255 → ∃ entry : Nat → List Byte,
        exec (.profileList tag [n]) s = .next (s.answered 0x12 tag .ok ((List.range 8).flatMap entry)) ∧
        ∀ k, k < 8 →
          ((s.slot k).held = none → entry k = b1 0 ++ b1 (s.slot k).useCount ++ List.replicate 20 0) ∧
          ∀ p, (s.slot k).held = some p → entry k = b1 1 ++ b1 (s.slot k).useCount ++ p.name ++ b1 (mediumByte p.medium) ++
            b1 (encodingByte p.encoding) ++ le2 (p.cylinders * p.heads) ++ le2 p.sectors ++ le2 p.dataLength) ∧
      (8 ≤ n.toNat → n.toNat < 255 → exec (.profileList tag [n]) s = .next (s.answered 0x12 tag .range [])))

/-! ## Volumes and their records -/

/-- Every request row is the frame of its kind received whole (R160, R161), and every request that names a volume refuses,
before its own tests, a channel number above 3 with BAD_CHANNEL and a channel with no volume with NO_VOLUME (5.8, 7.7, R107,
R148).  That a request row is a frame received whole is the model's choice: notes/assumptions/10.md. -/
def Obligations.RequestsAreFrames : Prop :=
  ∀ (s : State) (tag : Byte) (payload : List Byte),
    [exec (.ident tag payload) s, exec (.status tag payload) s, exec (.restart tag payload) s,
      exec (.profileLoad tag payload) s, exec (.profileDrop tag payload) s, exec (.profileList tag payload) s,
      exec (.mount tag payload) s, exec (.unmount tag payload) s, exec (.exclude tag payload) s, exec (.scan tag payload) s,
      exec (.sectorInfo tag payload) s, exec (.start tag payload) s, exec (.pause tag payload) s,
      exec (.abort tag payload) s, exec (.extend tag payload) s, exec (.trackInfo tag payload) s,
      exec (.recal tag payload) s, exec (.fetch tag payload) s] =
      requestKinds.map (fun kind => .next (s.receiveFrame kind tag payload)) ∧
    ∀ (kind c : Byte) (rest : List Byte), payload = c :: rest → s.link.idsFresh → Accepts s kind payload →
      kind ∈ [0x21, 0x22, 0x23, 0x24, 0x30, 0x31, 0x32, 0x33, 0x34, 0x40] →
      (4 ≤ c.toNat → s.receiveFrame kind tag payload = s.answered kind tag .badChannel []) ∧
      ∀ ch : Chan, c = chanByte ch → s.volume ch = none →
        s.receiveFrame kind tag payload = s.answered kind tag .noVolume []

/-- R106, R11, R23, R35, R91, R93, R94, R95, R129, R130: MOUNT's tests in their order, and the volume that a MOUNT which passes
them all creates.  The sense of a cartridge, or of a floppy that shows itself, is of the moment, and moves the channel between
ABSENT, IDLE and FAULTED alone (R23).  The sense at once is the model's inference: notes/assumptions/13.md; what the sector
counter holds as a FLOPPY_HARD volume is mounted is the model's choice: notes/assumptions/26.md. -/
def Obligations.MountCreatesVolume : Prop :=
  ∀ (s : State) (tag cb n a b c d vb : Byte), s.link.idsFresh → Accepts s 0x20 [cb, n, a, b, c, d, vb] →
    (4 ≤ cb.toNat → exec (.mount tag [cb, n, a, b, c, d, vb]) s = .next (s.answered 0x20 tag .badChannel [])) ∧
    ∀ ch : Chan, cb = chanByte ch →
      (2 ≤ vb.toNat → exec (.mount tag [cb, n, a, b, c, d, vb]) s = .next (s.answered 0x20 tag .range [])) ∧
      (vb.toNat ≤ 1 → s.volume ch ≠ none →
        exec (.mount tag [cb, n, a, b, c, d, vb]) s = .next (s.answered 0x20 tag .hasVolume [])) ∧
      (vb.toNat ≤ 1 → s.volume ch = none → (s.channel ch).probe = none →
        ((s.channel ch).kind = .cartridge ∨ motorOn (s.channel ch).state = true ∨ (s.channel ch).sensed = true) →
        let found : ChanState := match (s.channel ch).state with
          | .absent => .idle
          | .faulted => .idle
          | st => st
        let missed : ChanState := match (s.channel ch).state with
          | .idle => .absent
          | .faulted => .absent
          | st => st
        let sensed : State := s.putChannel ch { s.channel ch with
          state := if (s.channel ch).sensed then found else missed }
        ((s.channel ch).sensed = false → exec (.mount tag [cb, n, a, b, c, d, vb]) s =
          .next (sensed.answered 0x20 tag .channelAbsent [])) ∧
        ((s.channel ch).sensed = true → (s.slot n.toNat).held = none → exec (.mount tag [cb, n, a, b, c, d, vb]) s =
          .next (sensed.answered 0x20 tag .profileEmpty [])) ∧
        ∀ p, (s.channel ch).sensed = true → (s.slot n.toNat).held = some p →
          (strapNeeded p.medium ≠ (s.channel ch).kind → exec (.mount tag [cb, n, a, b, c, d, vb]) s =
            .next (sensed.answered 0x20 tag .wrongMedium [])) ∧
          (strapNeeded p.medium = (s.channel ch).kind → firstFit s.runs (p.cylinders * p.heads * p.sectors) = none →
            exec (.mount tag [cb, n, a, b, c, d, vb]) s = .next (sensed.answered 0x20 tag .noRoom [])) ∧
          ∀ base, strapNeeded p.medium = (s.channel ch).kind →
            firstFit s.runs (p.cylinders * p.heads * p.sectors) = some base →
            ∃ (t : State) (v : Volume), exec (.mount tag [cb, n, a, b, c, d, vb]) s = .next t ∧
              t = State.answered { s with
                nextVolume := s.nextVolume + 1, slots := t.slots, volumes := t.volumes, channels := t.channels }
                0x20 tag .ok (le2 base ++ le2 (p.cylinders * p.heads * p.sectors)) ∧
              (t.slot n.toNat).useCount = (s.slot n.toNat).useCount + 1 ∧ (t.slot n.toNat).held = some p ∧
              (∀ m, m ≠ n.toNat → t.slot m = s.slot m) ∧
              t.channel ch = Channel.drive { s.channel ch with
                state := found, positionKnown := false, mediaSeen := false
                sectorCounter := if p.medium = .floppyHard then (s.channel ch).sectorCounter else 0 } ∧
              (∀ k, k ≠ ch → t.channel k = s.channel k ∧ t.volume k = s.volume k) ∧ t.volume ch = some v ∧
              v.uid = s.nextVolume ∧ v.slot = n.toNat ∧
              v.tag = a.toNat + 256 * b.toNat + 65536 * (c.toNat + 256 * d.toNat) ∧ v.verbose = decide (vb.toNat = 1) ∧
              v.trackCount = p.cylinders * p.heads ∧ v.sectors = p.sectors ∧ v.dataLength = p.dataLength ∧ v.base = base ∧
              v.mediaGone = false ∧ v.serial = 0 ∧
              v.totals = { opn := p.cylinders * p.heads * p.sectors, settled := 0, lost := 0, excluded := 0 } ∧
              v.settledMap = [] ∧ v.exclusionMap = [] ∧
              (∀ i, v.record i = { state := .unseen, candidates := [], fusionArmed := false, reads := 0, settled := none
                                   deletedSeen := false, overflowed := false, dissent := false, truncatedSeen := false }) ∧
              (∀ k, k < v.trackCount → v.summary k = { opn := p.sectors, settled := 0, lost := 0, excluded := 0 } ∧
                v.plan k = { state := .pending, passesUsed := 0, ladderStep := 0, misplaced := false } ∧
                v.isPending k = true) ∧
              v.planner.run = .stopped ∧ v.planner.halt = .none ∧ v.planner.phase = .survey ∧ v.planner.surveyCursor = 0 ∧
              v.planner.sweep = .up ∧ v.planner.currentTrack = 0 ∧ v.planner.fruitful = false ∧
              v.planner.outstanding = none ∧ v.planner.baseline = 0 ∧ v.planner.passBudget = p.trackPassBudget ∧ v.planner.wearUsed = 0 ∧
              v.planner.wearBudget = p.wearBudget)

/-- R23, R25, R35, R106: a MOUNT on a quiet floppy channel whose drive does not show itself holds MOTOR asserted and LOAD
released; the probe's end releases MOTOR, moves the channel from ABSENT or FAULTED to IDLE or from IDLE or FAULTED to ABSENT,
goes on with the MOUNT, which a strap of the wrong kind or a store without room refuses, and takes what waited in its order.  A
RECAL, a media change or a pass order that comes during the probe waits for its end and is taken then as it would be taken on
coming then.  The two phases, that a second MOUNT waits too, and that the MOUNT comes before what waited, are the model's
choice: notes/assumptions/13.md; that a profile request taken during the probe has taken effect before the MOUNT tests its slot
is the model's inference: notes/assumptions/33.md; what the sector counter holds as a FLOPPY_HARD volume is mounted is
notes/assumptions/26.md. -/
def Obligations.PresenceProbed : Prop :=
  (∀ (s : State) (tag n a b c d vb : Byte) (ch : Chan), s.link.idsFresh → vb.toNat ≤ 1 →
    Accepts s 0x20 [chanByte ch, n, a, b, c, d, vb] → s.volume ch = none → (s.channel ch).probe = none →
    (s.channel ch).kind = .floppy → motorOn (s.channel ch).state = false → (s.channel ch).sensed = false →
    ∃ t, exec (.mount tag [chanByte ch, n, a, b, c, d, vb]) s = .next t ∧
      t = { s with link := s.link.accepted 0x20 tag, channels := t.channels } ∧
      (∀ k, k ≠ ch → t.channel k = s.channel k) ∧
      t.channel ch = Channel.drive { s.channel ch with
        stageTimer := some 4000000
        probe := some
          { mount := { id := s.link.nextId, slot := n.toNat
                       volumeTag := a.toNat + 256 * b.toNat + 65536 * (c.toNat + 256 * d.toNat)
                       verbose := decide (vb.toNat = 1) }
            deferred := [] } } ∧
      (t.channel ch).outputs.motor = true ∧ (t.channel ch).outputs.load = false) ∧
  (∀ (s : State) (tag n a b c d vb : Byte) (ch : Chan) (lines : Lines) (o : PassOrder) (x : Probe),
    (s.channel ch).probe = some x →
    let waits (y : Deferred) (pins : Lines) : Channel := { s.channel ch with
      inputs := pins, probe := some { x with deferred := x.deferred ++ [y] } }
    let kept := (s.channel ch).inputs
    (Accepts s 0x38 [chanByte ch] → exec (.recal tag [chanByte ch]) s =
      .next ((s.putChannel ch (waits (.recal s.link.nextId tag) kept)).setLink (s.link.accepted 0x38 tag))) ∧
    exec (.mediaChange ch lines) s = .next (s.putChannel ch (waits .media
      (if (s.channel ch).kind = .floppy then { lines with change := true } else { lines with present := false }))) ∧
    (s.channel ch).takeOrder (s.chanProfile ch) o = waits (.order o) kept ∧
    (Accepts s 0x20 [chanByte ch, n, a, b, c, d, vb] → vb.toNat ≤ 1 → s.volume ch = none →
      exec (.mount tag [chanByte ch, n, a, b, c, d, vb]) s = .next ((s.putChannel ch (waits (.mount
        { id := s.link.nextId, slot := n.toNat
          volumeTag := a.toNat + 256 * b.toNat + 65536 * (c.toNat + 256 * d.toNat), verbose := decide (vb.toNat = 1) })
        kept)).setLink (s.link.accepted 0x20 tag)))) ∧
  (∀ (s : State) (tag : Byte) (ch : Chan) (lines : Lines) (o : PassOrder), (s.channel ch).probe = none →
    (Accepts s 0x38 [chanByte ch] → exec (.recal tag [chanByte ch]) s =
      .next ((s.setLink (s.link.accepted 0x38 tag)).takeDeferred ch (.recal s.link.nextId tag))) ∧
    exec (.mediaChange ch lines) s = .next ((s.putChannel ch { s.channel ch with
      inputs := if (s.channel ch).kind = .floppy then { lines with change := true }
        else { lines with present := false } }).takeDeferred ch .media) ∧
    s.takeDeferred ch (.order o) = s.putChannel ch ((s.channel ch).takeOrder (s.chanProfile ch) o)) ∧
  ∀ (s : State) (ch : Chan) (lines : Lines) (b : Probe), (s.channel ch).kind = .floppy →
    motorOn (s.channel ch).state = false → (s.channel ch).probe = some b → s.volume ch = none →
    let ended : State := s.putChannel ch { s.channel ch with
      inputs := lines, probe := none, stageTimer := none
      state := match (s.channel ch).state with
        | .faulted => if lines.ready || lines.track0 then .idle else .absent
        | .absent => if lines.ready || lines.track0 then .idle else .absent
        | .idle => if lines.ready || lines.track0 then .idle else .absent
        | st => st }
    let goesOn (t : State) : State := b.deferred.foldl (fun u d => u.takeDeferred ch d) t
    (ended.channel ch).outputs.motor = false ∧
    (lines.ready = false → lines.track0 = false → exec (.presenceProbeEnd ch lines) s =
      .next (goesOn (ended.reply b.mount.id .channelAbsent []))) ∧
    (lines.ready = true ∨ lines.track0 = true →
      ((s.slot b.mount.slot).held = none → exec (.presenceProbeEnd ch lines) s =
        .next (goesOn (ended.reply b.mount.id .profileEmpty []))) ∧
      (∀ p, (s.slot b.mount.slot).held = some p → p.medium = .cartridge → exec (.presenceProbeEnd ch lines) s =
        .next (goesOn (ended.reply b.mount.id .wrongMedium []))) ∧
      (∀ p, (s.slot b.mount.slot).held = some p → p.medium ≠ .cartridge →
        firstFit s.runs (trackCountOf p * p.sectors) = none → exec (.presenceProbeEnd ch lines) s =
        .next (goesOn (ended.reply b.mount.id .noRoom []))) ∧
      ∀ p base, (s.slot b.mount.slot).held = some p → p.medium ≠ .cartridge →
        firstFit s.runs (trackCountOf p * p.sectors) = some base →
        ∃ t, exec (.presenceProbeEnd ch lines) s = .next (goesOn t) ∧
          t.volume ch = some (Volume.atMount s.nextVolume base b.mount p) ∧
          t.link = s.link.reply s.fetching b.mount.id .ok (le2 base ++ le2 (trackCountOf p * p.sectors)) ∧
          t.channel ch = Channel.drive { ended.channel ch with
            positionKnown := false, mediaSeen := false
            sectorCounter := if p.medium = .floppyHard then (s.channel ch).sectorCounter else 0 } ∧
          (t.slot b.mount.slot).useCount = (s.slot b.mount.slot).useCount + 1 ∧
          t.pool = s.pool ∧ t.image = s.image ∧ t.fetches = s.fetches ∧
          ∀ k, k ≠ ch → t.channel k = s.channel k ∧ t.volume k = s.volume k)

/-- R107, R48, R155: UNMOUNT ends the run and the fetches, gives back the slots, the run and the use of the profile slot, and
leaves every other volume, channel and fetch as it was.  Its link tells the ABORTED reply of a RECAL request in flight, then the
VOLUME_GONE replies of the volume's fetches in the order they were accepted, each with its counts taken and delivered, then its
own.  The names of volumes and requests, and what meets a SUMMARY notice that waits, are the model's own:
notes/assumptions/20.md, 27.md. -/
def Obligations.UnmountReleases : Prop :=
  ∀ (s : State) (tag : Byte) (ch : Chan) (v : Volume), s.link.idsFresh → Accepts s 0x21 [chanByte ch] →
    s.volume ch = some v →
    let kept := s.fetches.filter (fun e => e.volume != v.uid)
    let recalAnswered : Link := match (s.channel ch).recal with
      | none => s.link.accepted 0x21 tag
      | some f => (s.link.accepted 0x21 tag).reply s.fetching f.id .aborted []
    let fetchesAnswered : Link := (s.fetches.filter (fun e => e.volume == v.uid)).foldl
      (fun l e => l.reply (!kept.isEmpty) e.id .volumeGone (le2 e.taken ++ le2 e.delivered)) recalAnswered
    ∃ t, exec (.unmount tag [chanByte ch]) s = .next t ∧ t.volume ch = none ∧
      t = { s with
        link := t.link, channels := t.channels, volumes := qset s.volumes ch none
        pool := s.pool.giveBackAll (v.records.flatMap (fun r => r.2.candidates))
        slots := modifyAt (fun q => { q with useCount := q.useCount - 1 }) s.slots v.slot
        fetches := kept } ∧
      t.link = fetchesAnswered.reply (!kept.isEmpty) s.link.nextId .ok [] ∧
      (∀ k, k ≠ ch → t.channel k = s.channel k) ∧ (t.channel ch).recal = none ∧
      (∀ f, (s.channel ch).recal = some f → (t.channel ch).state = .holding ∧ (t.channel ch).positionKnown = false ∧
        (t.channel ch).holdTimer = some 2000 ∧ (t.channel ch).recalStage = none ∧ (t.channel ch).stageTimer = none ∧
        (t.channel ch).pulses = (s.channel ch).pulses ∧ (t.channel ch).outputs.runRev = false) ∧
      (v.inRun = true → v.planner.outstanding ≠ none → (t.channel ch).pass = none ∧
        ((s.channel ch).pass ≠ none → (t.channel ch).state = .holding ∧ (t.channel ch).holdTimer = some 2000)) ∧
      (v.inRun = false → (s.channel ch).recal = none → t.channels = s.channels ∧
        ((∀ e ∈ s.fetches, e.volume ≠ v.uid) → t.link = s.link.answered s.fetching 0x21 tag .ok []))

/-- R108, R109, R140: EXCLUDE's refusals, the record each state and operation leave, the slots returned, the counts of the
reply, and what the planner does for each track whose open count changed, in ascending order: a PENDING track with none open
becomes DONE, a DONE track with some open PENDING again, each with its bit of the map and a TRACK notice, and a COMPLETE or
ENDED_PARTIAL volume with a track made PENDING becomes STOPPED.  That the TRACK notices stand before the reply, which no rule
orders, is the model's inference: notes/assumptions/14.md.  The names of requests are the model's own: notes/assumptions/20.md.
-/
def Obligations.ExcludeApplies : Prop :=
  ∀ (s : State) (tag f0 f1 c0 c1 op : Byte) (ch : Chan) (v : Volume), s.link.idsFresh →
    Accepts s 0x22 [chanByte ch, f0, f1, c0, c1, op] → s.volume ch = some v → mapOk .fresh v.records = true →
    v.planner.tracks.length = v.trackCount → v.planner.pendingMap.length = v.trackCount →
    let first := f0.toNat + 256 * f1.toNat
    let count := c0.toNat + 256 * c1.toNat
    let taken := min count (v.size - first)
    ((2 < op.toNat ∨ v.size ≤ first ∨ count = 0) →
      exec (.exclude tag [chanByte ch, f0, f1, c0, c1, op]) s = .next (s.answered 0x22 tag .range [])) ∧
    (op.toNat ≤ 2 → first < v.size → 0 < count →
      ∃ (t : State) (w : Volume), exec (.exclude tag [chanByte ch, f0, f1, c0, c1, op]) s = .next t ∧
        t.volume ch = some w ∧
        w = { v with
          records := w.records, summaries := w.summaries, totals := w.totals, settledMap := w.settledMap
          exclusionMap := w.exclusionMap, planner := w.planner } ∧
        t = { s with link := t.link, volumes := t.volumes, pool := t.pool } ∧
        (∀ k, k ≠ ch → t.volume k = s.volume k) ∧
        (∀ i, (i < first ∨ first + taken ≤ i) → w.record i = v.record i) ∧
        (∀ i, first ≤ i → i < first + taken → ∀ r, r = v.record i →
          (r.state = .settled → w.record i = r) ∧
          (r.state = .excluded → op.toNat = 0 → w.record i = r) ∧
          (r.state = .excluded → op.toNat ≠ 0 → w.record i = { r with
            state := if (v.plan (i / v.sectors)).state = .exhausted then .lost else .unseen
            candidates := [], fusionArmed := false }) ∧
          (r.state ≠ .settled → r.state ≠ .excluded → op.toNat = 1 → w.record i = r) ∧
          (r.state ≠ .settled → r.state ≠ .excluded → op.toNat ≠ 1 →
            w.record i = { r with state := .excluded, candidates := [], fusionArmed := false })) ∧
        t.pool = s.pool.giveBackAll ((List.range taken).flatMap (fun k =>
          if (w.record (first + k)).state = (v.record (first + k)).state then [] else (v.record (first + k)).candidates)) ∧
        w.planner = { v.planner with
          run := w.planner.run, tracks := w.planner.tracks, pendingMap := w.planner.pendingMap } ∧
        (∀ k, k < v.trackCount → ∀ e, e = v.plan k → ∀ n, n = (w.summary k).opn →
          (n = (v.summary k).opn → w.plan k = e ∧ w.isPending k = v.isPending k) ∧
          (n ≠ (v.summary k).opn →
            (e.state = .pending → n = 0 → w.plan k = { e with state := .done } ∧ w.isPending k = false) ∧
            (e.state = .pending → 0 < n → w.plan k = e ∧ w.isPending k = v.isPending k) ∧
            (e.state = .active ∨ e.state = .exhausted → w.plan k = e ∧ w.isPending k = v.isPending k) ∧
            (e.state = .done → 0 < n → w.plan k = { e with state := .pending } ∧ w.isPending k = true) ∧
            (e.state = .done → n = 0 → w.plan k = e ∧ w.isPending k = v.isPending k))) ∧
        let again : Prop := ∃ k, k < v.trackCount ∧ (v.plan k).state = .done ∧ (w.plan k).state = .pending
        (again → v.planner.run = .complete ∨ v.planner.run = .endedPartial → w.planner.run = .stopped) ∧
        (¬ again ∨ (v.planner.run ≠ .complete ∧ v.planner.run ≠ .endedPartial) → w.planner.run = v.planner.run) ∧
        t.link = Link.reply
          (((List.range v.trackCount).filter (fun k => decide ((w.plan k).state ≠ (v.plan k).state))).foldl
            (fun l k => l.notify s.selfTest.partFailed ch .track
              (b1 ch.val ++ le4 v.tag ++ le2 k ++ b1 (trackStateByte (w.plan k).state) ++ b1 (w.plan k).passesUsed ++
                b1 (w.plan k).ladderStep ++ le2 (w.summary k).opn ++ le2 (w.summary k).settled ++
                le2 (w.summary k).lost ++ le2 (w.summary k).excluded))
            (s.link.accepted 0x22 tag))
          s.fetching s.link.nextId .ok (le2 taken ++
            le2 ((List.range taken).countP (fun k => decide ((w.record (first + k)).state ≠ (v.record (first + k)).state))) ++
            le2 ((List.range taken).countP (fun k => decide ((v.record (first + k)).state = .settled)))))

/-- R110: SCAN gives the first index in the class from the start index on, inclusive, in the direction asked, or NONE, and
changes no state. -/
def Obligations.ScanFindsFirst : Prop :=
  ∀ (s : State) (tag s0 s1 dir cls : Byte) (ch : Chan) (v : Volume), s.link.idsFresh →
    Accepts s 0x23 [chanByte ch, s0, s1, dir, cls] → s.volume ch = some v →
    let start := s0.toNat + 256 * s1.toNat
    let inClass (i : Nat) : Prop := match cls.toNat with
      | 0 => i ∈ v.settledMap
      | 1 => (v.record i).state = .unseen ∨ (v.record i).state = .weak ∨ (v.record i).state = .contested
      | 2 => (v.record i).state = .lost
      | _ => i ∈ v.exclusionMap
    ((v.trackCount * v.sectors ≤ start ∨ 1 < dir.toNat ∨ 3 < cls.toNat) →
      exec (.scan tag [chanByte ch, s0, s1, dir, cls]) s = .next (s.answered 0x23 tag .range [])) ∧
    (start < v.trackCount * v.sectors → dir.toNat ≤ 1 → cls.toNat ≤ 3 →
      (∀ r, r < v.trackCount * v.sectors → inClass r →
        ((dir.toNat = 0 ∧ start ≤ r ∧ ∀ i, start ≤ i → i < r → ¬ inClass i) ∨
          (dir.toNat = 1 ∧ r ≤ start ∧ ∀ i, r < i → i ≤ start → ¬ inClass i)) →
        exec (.scan tag [chanByte ch, s0, s1, dir, cls]) s = .next (s.answered 0x23 tag .ok (le2 r))) ∧
      ((∀ i, i < v.trackCount * v.sectors → ((dir.toNat = 0 ∧ start ≤ i) ∨ (dir.toNat = 1 ∧ i ≤ start)) → ¬ inClass i) →
        exec (.scan tag [chanByte ch, s0, s1, dir, cls]) s = .next (s.answered 0x23 tag .ok [0xFF, 0xFF])))

/-- R111, R146, R173: what SECTOR_INFO and TRACK_INFO report; neither changes any state but the link's. -/
def Obligations.SectorAndTrackInfo : Prop :=
  ∀ (s : State) (tag n0 n1 : Byte) (ch : Chan) (v : Volume), s.link.idsFresh → s.volume ch = some v →
    let n := n0.toNat + 256 * n1.toNat
    (Accepts s 0x24 [chanByte ch, n0, n1] →
      (v.trackCount * v.sectors ≤ n →
        exec (.sectorInfo tag [chanByte ch, n0, n1]) s = .next (s.answered 0x24 tag .range [])) ∧
      (n < v.trackCount * v.sectors → ∀ r, r = v.record n →
        exec (.sectorInfo tag [chanByte ch, n0, n1]) s = .next (s.answered 0x24 tag .ok
          (b1 (recordStateByte r.state) ++ le2 r.reads ++ yesNo r.fusionArmed ++
            b1 (r.deletedSeen.toNat + 2 * r.overflowed.toNat + 4 * r.dissent.toNat + 8 * r.truncatedSeen.toNat) ++
            ((r.settled.map (fun x => b1 (settledByByte x.by_) ++ b1 (markClassByte x.markClass) ++ b1 x.pass ++
              b1 x.matchCount)).getD [0, 0, 0, 0]) ++
            b1 r.candidates.length ++ candidateEntries s.pool 1 r.candidates)))) ∧
    (∀ k, candidateEntries s.pool k [] = []) ∧
    (∀ k slot rest c, s.pool.descriptor slot = some c → candidateEntries s.pool k (slot :: rest) =
      b1 k ++ b1 (originByte c.origin) ++ yesNo c.checkOk ++ b1 c.matchCount ++ le2 c.score ++
        b1 (markClassByte c.markClass) ++ candidateEntries s.pool (k + 1) rest) ∧
    (Accepts s 0x34 [chanByte ch, n0, n1] →
      (v.trackCount ≤ n → exec (.trackInfo tag [chanByte ch, n0, n1]) s = .next (s.answered 0x34 tag .range [])) ∧
      (n < v.trackCount → ∀ e c, e = v.plan n → c = v.summary n →
        exec (.trackInfo tag [chanByte ch, n0, n1]) s = .next (s.answered 0x34 tag .ok
          (b1 (trackStateByte e.state) ++ b1 e.passesUsed ++ b1 e.ladderStep ++ yesNo e.misplaced ++
            b1 v.planner.passBudget ++ le2 c.opn ++ le2 c.settled ++ le2 c.lost ++ le2 c.excluded))))

/-! ## The run requests -/

/-- R142, R26, R49, R104, R132, R133, R135, R136: START's tests in their order.  With an order outstanding no choice is
made.  In SURVEY the lowest PENDING track at or above the cursor is chosen; with none there the phase becomes RECOVERY, its
sweep DOWN and its current track as it was; in RECOVERY the track is chosen, and the sweep left, as R134 gives (the tests are
spelled in RecoveryChoice).  The chosen track is ordered where its passes and the cost of the pass fit the budgets; the channel
takes the order as R26 and R49 give.  A track at its pass budget is made EXHAUSTED, its open records LOST, and the choice is
made again; where the wear is spent every track that is not DONE is; with no track left the volume ends.  That an order held
behind a RECAL selects its head as it is taken is the model's inference: notes/assumptions/18.md; so is that the TRACK and
VOLUME notices stand before the reply: 14.md. -/
def Obligations.StartRuns : Prop :=
  ∀ (s : State) (tag : Byte) (ch : Chan) (v : Volume), s.link.idsFresh → Accepts s 0x30 [chanByte ch] →
    s.volume ch = some v →
    let running : Volume := { v with planner := { v.planner with run := .running, halt := .none } }
    let p := s.chanProfile ch
    let c := s.channel ch
    let cost (k : Nat) : Nat :=
      if p.medium = .cartridge then
        if c.positionKnown = false ∨ c.recal ≠ none ∨ c.tapeEnd = .bot ∨ (c.tapeEnd = .eot ∧ p.reverseAllowed = true) then 1
        else 2
      else if (v.plan k).ladderStep = 5 then 3 else 1
    let order (k : Nat) : PassOrder :=
      { volume := v.uid, track := k, direction := (orderDirection p c).1
        offset := ladderOffset (v.plan k).ladderStep, revolutions := ladderRevolutions p (v.plan k).ladderStep
        gain := ladderGain p (v.plan k).ladderStep, window := ladderWindow p (v.plan k).ladderStep
        passNumber := (v.plan k).passesUsed + 1 }
    let given (w : Volume) (k : Nat) : Volume := (w.setTrackState k .active).setPlanner (fun a => { a with
      currentTrack := k, baseline := (v.summary k).settled, outstanding := some k })
    let surveyed (w : Volume) (k : Nat) : Prop := w.planner.phase = .survey ∧ w.planner.surveyCursor ≤ k ∧ k < w.trackCount ∧
      w.isPending k = true ∧ ∀ j, w.planner.surveyCursor ≤ j → j < k → w.isPending j = false
    let entered (w : Volume) : Volume := match w.planner.phase with
      | .recovery => w
      | .survey => { w with planner := { w.planner with phase := .recovery, sweep := .down } }
    let swept (w : Volume) : Volume :=
      { entered w with planner := { (entered w).planner with sweep := (entered w).recoveryChoice.2 } }
    let chosen (w : Volume) (k : Nat) (x : Volume) : Prop := (surveyed w k ∧ x = w) ∨
      ((∀ j, ¬ surveyed w j) ∧ (entered w).recoveryChoice.1 = some k ∧ x = swept w)
    let fits (k : Nat) : Prop := (v.plan k).passesUsed < v.planner.passBudget ∧
      v.planner.wearUsed + cost k ≤ v.planner.wearBudget
    let counted (x : Counts) : List Byte := le2 x.settled ++ le2 x.opn ++ le2 x.lost ++ le2 x.excluded
    let started := exec (.start tag [chanByte ch]) s
    (v.planner.run = .running ∨ v.planner.run = .pausing →
      started = .next (s.answered 0x30 tag .ok (b1 (runByte v.planner.run)))) ∧
    (v.planner.run = .complete ∨ v.planner.run = .endedPartial → started = .next (s.answered 0x30 tag .alreadyDone [])) ∧
    (v.planner.run = .stopped ∨ v.planner.run = .paused ∨ v.planner.run = .halted →
      (v.mediaGone = true → started = .next (s.answered 0x30 tag .mediaGone [])) ∧
      (v.mediaGone = false → c.faultCount = 3 → started = .next (s.answered 0x30 tag .faultLimit [])) ∧
      (v.mediaGone = false → c.faultCount ≠ 3 →
        (v.planner.outstanding ≠ none →
          started = .next ((s.setVolume ch (some running)).answered 0x30 tag .ok (b1 (runByte .running)))) ∧
        (∀ k x, v.planner.outstanding = none → chosen running k x → fits k →
          started = .next (((s.setVolume ch (some (given x k))).putChannel ch (c.takeOrder p (order k))).answered 0x30
            tag .ok (b1 (runByte .running)))) ∧
        (∀ k x, v.planner.outstanding = none → chosen running k x →
          v.planner.passBudget ≤ (v.plan k).passesUsed → v.planner.tracks.length = v.trackCount →
          v.planner.pendingMap.length = v.trackCount → mapOk .fresh v.records = true →
          ∃ w : Volume, w.plan k = { v.plan k with state := .exhausted } ∧ w.isPending k = false ∧
            (∀ j, j ≠ k → w.plan j = v.plan j ∧ w.isPending j = v.isPending j) ∧
            (∀ i, w.record i = if k * v.sectors ≤ i ∧ i < (k + 1) * v.sectors ∧ (v.record i).state ∈ [.unseen, .weak, .contested] then
              { v.record i with state := .lost } else v.record i) ∧
            w = { x with
              records := w.records, summaries := w.summaries, totals := w.totals, settledMap := w.settledMap
              exclusionMap := w.exclusionMap
              planner := { x.planner with tracks := w.planner.tracks, pendingMap := w.planner.pendingMap } } ∧
            let told := (s.link.accepted 0x30 tag).notify s.selfTest.partFailed ch .track
              (b1 ch.val ++ le4 v.tag ++ le2 k ++ b1 (trackStateByte .exhausted) ++ b1 (v.plan k).passesUsed ++
                b1 (v.plan k).ladderStep ++ le2 (w.summary k).opn ++ le2 (w.summary k).settled ++
                le2 (w.summary k).lost ++ le2 (w.summary k).excluded)
            (∀ j y, chosen w j y → fits j → started = .next
              (((s.setVolume ch (some (given y j))).putChannel ch (c.takeOrder p (order j))).setLink
                (told.reply s.fetching s.link.nextId .ok (b1 (runByte .running))))) ∧
            ((∀ j, j ≠ k → v.isPending j = false) →
              started = .next ((s.setVolume ch (some { swept w with
                planner := { (swept w).planner with run := .endedPartial } })).setLink (Link.reply
                (told.notify s.selfTest.partFailed ch .volume
                  (b1 ch.val ++ le4 v.tag ++ b1 (runByte .endedPartial) ++ b1 (haltByte .none) ++ b1 (phaseByte .recovery) ++
                    le2 v.planner.wearUsed ++ le2 v.planner.wearBudget ++ counted w.totals))
                s.fetching s.link.nextId .ok (b1 (runByte .endedPartial)))))) ∧
        (∀ k x, v.planner.outstanding = none → chosen running k x →
          (v.plan k).passesUsed < v.planner.passBudget → v.planner.wearBudget < v.planner.wearUsed + cost k →
          v.planner.tracks.length = v.trackCount → v.planner.pendingMap.length = v.trackCount →
          mapOk .fresh v.records = true →
          ∃ w : Volume, (∀ j, j < v.trackCount →
              ((v.plan j).state = .done → w.plan j = v.plan j ∧ w.isPending j = v.isPending j ∧
                ∀ m, m < v.sectors → w.record (j * v.sectors + m) = v.record (j * v.sectors + m)) ∧
              ((v.plan j).state ≠ .done → w.plan j = { v.plan j with state := .exhausted } ∧ w.isPending j = false ∧
                ∀ m, m < v.sectors → ∀ r, r = v.record (j * v.sectors + m) → w.record (j * v.sectors + m) =
                  if r.state ∈ [.unseen, .weak, .contested] then { r with state := .lost } else r)) ∧
            w = { x with
              records := w.records, summaries := w.summaries, totals := w.totals, settledMap := w.settledMap
              exclusionMap := w.exclusionMap
              planner := { x.planner with
                run := .endedPartial, tracks := w.planner.tracks, pendingMap := w.planner.pendingMap } } ∧
            started = .next ((s.setVolume ch (some w)).setLink (Link.reply
              ((s.link.accepted 0x30 tag).notify s.selfTest.partFailed ch .volume
                (b1 ch.val ++ le4 v.tag ++ b1 (runByte .endedPartial) ++ b1 (haltByte .none) ++ b1 (phaseByte x.planner.phase) ++
                  le2 v.planner.wearUsed ++ le2 v.planner.wearBudget ++ counted w.totals))
              s.fetching s.link.nextId .ok (b1 (runByte .endedPartial))))) ∧
        (v.planner.outstanding = none → (∀ k, v.isPending k = false) →
          ∃ (t : State) (w : Volume), started = .next t ∧ t.volume ch = some w ∧
            t.channels = s.channels ∧ w.planner.phase = .recovery ∧
            w.planner.run = (if v.planner.tracks.all (fun e => decide (e.state = .done)) then .complete else .endedPartial)))) ∧
    ∀ k, c.probe = none →
      let o := order k
      let begun : Pass := { order := o, direction := o.direction, windingBegun := false, revolutionsDone := 0 }
      let headed : Channel := if c.kind = .floppy then { c with headSelected := k - p.heads * (k / p.heads) } else c
      let taken : Channel := { headed with moved := false, holdTimer := none, pass := some begun }
      let target := k / p.heads
      (c.recal ≠ none → c.takeOrder p o = { headed with heldOrder := some o }) ∧
      (c.recal = none → c.state = .idle ∨ c.state = .faulted → c.takeOrder p o =
        { taken with state := .spinup, stageTimer := some (p.spinUp * 40000) }) ∧
      (c.recal = none → c.state = .holding → c.kind = .floppy →
        (c.positionKnown = false → c.inputs.track0 = false → c.takeOrder p o = { taken with
          state := .recal, offset := .zero, dirAsserted := false, moved := true, pulses := c.pulses + 1
          stageTimer := some (p.stepInterval * 40000), recalStage := some { rewinding := false, pulses := 1 } }) ∧
        (c.positionKnown = true → c.position + 1 < target → c.takeOrder p o = { taken with
          state := .seeking, position := c.position + 1, dirAsserted := true, moved := true, pulses := c.pulses + 1
          stageTimer := some (p.stepInterval * 40000) }) ∧
        (c.positionKnown = true → target + 1 < c.position → c.takeOrder p o = { taken with
          state := .seeking, position := c.position - 1, dirAsserted := false, moved := true, pulses := c.pulses + 1
          stageTimer := some (p.stepInterval * 40000) }) ∧
        (c.positionKnown = true → c.position = target → c.offset = o.offset → c.takeOrder p o = { taken with
          state := .armed, stageTimer := some (6000000000 / p.rpm) }))

/-- R134, R136: the tests of RECOVERY in their order, and the direction and winding of an order.  The sweep left when no track
is found is the model's inference: notes/assumptions/25.md. -/
def Obligations.RecoveryChoice : Prop :=
  (∀ (v : Volume), (∀ k, v.trackCount ≤ k → v.isPending k = false) →
    let here := v.planner.currentTrack
    let back : Sweep := match v.planner.sweep with
      | .up => .down
      | .down => .up
    let nearest (dir : Sweep) (k : Nat) : Prop := v.isPending k = true ∧ match dir with
      | .up => here < k ∧ ∀ j, here < j → j < k → v.isPending j = false
      | .down => k < here ∧ ∀ j, k < j → j < here → v.isPending j = false
    let noneThere (dir : Sweep) : Prop := ∀ k, ¬ nearest dir k
    let again : Prop := v.isPending here = true ∧ (v.planner.fruitful = true ∨ (v.plan here).misplaced = true)
    (again → v.recoveryChoice = (some here, v.planner.sweep)) ∧
    (¬ again → ∀ k, nearest v.planner.sweep k → v.recoveryChoice = (some k, v.planner.sweep)) ∧
    (¬ again → noneThere v.planner.sweep → ∀ k, nearest back k → v.recoveryChoice = (some k, back)) ∧
    (¬ again → noneThere v.planner.sweep → noneThere back → v.isPending here = true →
      v.recoveryChoice = (some here, back)) ∧
    (¬ again → noneThere v.planner.sweep → noneThere back → v.isPending here = false →
      v.recoveryChoice = (none, back))) ∧
  ∀ (p : Profile) (c : Channel),
    (p.medium ≠ .cartridge → orderDirection p c = (.forward, false)) ∧
    (p.medium = .cartridge → c.positionKnown = false ∨ c.recal ≠ none → orderDirection p c = (.forward, false)) ∧
    (p.medium = .cartridge → c.positionKnown = true → c.recal = none →
      (c.tapeEnd = .bot → orderDirection p c = (.forward, false)) ∧
      (c.tapeEnd = .eot → p.reverseAllowed = true → orderDirection p c = (.reverse, false)) ∧
      (c.tapeEnd = .eot → p.reverseAllowed = false → orderDirection p c = (.forward, true)) ∧
      (c.tapeEnd = .none → orderDirection p c = (.forward, true)))

/-- R143, R144, R156: PAUSE makes a RUNNING volume PAUSING and nothing else; ABORT makes a RUNNING or PAUSING one STOPPED, cuts
its pass and ends its fetches, each with ABORTED and its two counts in acceptance order; in any other run state both change
nothing.  R41, R42: the cut reports the units of R42's table with cause ABORT and leaves the channel in HOLDING, its tape end
NONE where the tape moved and its position not known after RECAL; an order held behind a RECAL request is dropped and reported
with nothing consumed, and the recalibration goes on; a pass that has ended on its last pulse or marker is not cut again, and
with no pass nothing is.  Whether the ABORT reply comes first, which R156 leaves open, is the free value of
notes/assumptions/2.md, and the statement holds for every value of it; that a completed pass waits in CAPTURING is 12.md, what
waits for a report of room is 27.md, and the names of requests are 20.md. -/
def Obligations.PauseAndAbort : Prop :=
  ∀ (s : State) (tag : Byte) (ch : Chan) (v : Volume), s.link.idsFresh → s.volume ch = some v →
    (Accepts s 0x31 [chanByte ch] →
      (v.planner.run = .running → exec (.pause tag [chanByte ch]) s =
        .next ((s.setVolume ch (some { v with planner := { v.planner with run := .pausing } })).answered 0x31 tag .ok
          (b1 (runByte .pausing)))) ∧
      (v.planner.run ≠ .running → exec (.pause tag [chanByte ch]) s =
        .next (s.answered 0x31 tag .ok (b1 (runByte v.planner.run))))) ∧
    (Accepts s 0x32 [chanByte ch] →
      (v.planner.run ≠ .running → v.planner.run ≠ .pausing → exec (.abort tag [chanByte ch]) s =
        .next (s.answered 0x32 tag .ok [])) ∧
      (v.planner.run = .running ∨ v.planner.run = .pausing →
        let c := s.channel ch
        let p := s.chanProfile ch
        let stopped : State := s.setVolume ch (some { v with planner := { v.planner with run := .stopped } })
        let ended := s.fetches.filter (fun e => e.volume == v.uid)
        let kept := s.fetches.filter (fun e => e.volume != v.uid)
        let replies (l : Link) : Link :=
          ended.foldl (fun l e => l.reply (!kept.isEmpty) e.id .aborted (le2 e.taken ++ le2 e.delivered)) l
        let replied : Link :=
          if Config.abortReplyFirst s.races then replies (s.link.answered true 0x32 tag .ok [])
          else (replies (s.link.accepted 0x32 tag)).reply (!kept.isEmpty) s.link.nextId .ok []
        let answers (t : State) : Prop :=
          (ended = [] → exec (.abort tag [chanByte ch]) s = .next (t.answered 0x32 tag .ok [])) ∧
          (ended ≠ [] → exec (.abort tag [chanByte ch]) s =
            .next { t with link := replied, fetches := kept, races := s.races + 1 })
        ((∀ k, qget s.link.pendingSets k = .empty) → (ended.map (·.id)).Nodup →
          (∀ e ∈ ended, s.link.requests.find? (fun r => r.id == e.id) = some { id := e.id, kind := 0x40, tag := e.tag }) →
          let own : OutFrame := { kind := 0xB2, tag := tag, payload := b1 (statusCode .ok) }
          let aborted : List OutFrame := ended.map (fun e =>
            { kind := 0xC0, tag := e.tag, payload := b1 (statusCode .aborted) ++ le2 e.taken ++ le2 e.delivered })
          replied.outbound = s.link.outbound ++
            (if Config.abortReplyFirst s.races then own :: aborted else aborted ++ [own])) ∧
        (v.planner.outstanding = none → answers stopped) ∧
        (v.planner.outstanding ≠ none → c.completing = true → c.heldOrder = none → answers (stopped.putChannel ch { c with
          completing := false, pass := none, state := .holding, holdTimer := some 2000, stageTimer := none
          recalStage := none })) ∧
        (v.planner.outstanding ≠ none → c.completing = false → c.pass = none →
          (c.heldOrder = none → answers (stopped.putChannel ch c)) ∧
          ∀ o, c.heldOrder = some o → answers (stopped.putChannel ch { c with
            heldOrder := none
            handed := c.handed ++ [.report
              { volume := o.volume, track := o.track, direction := o.direction, completed := false, captureBegan := false
                units := 0, winding := false, tapeEnd := c.tapeEnd, cause := .abort }] })) ∧
        ∀ a, v.planner.outstanding ≠ none → c.completing = false → c.pass = some a →
          let moving : Prop := c.kind = .cartridge ∧ (c.state = .winding ∨ c.state = .armed ∨ c.state = .capturing ∨
            (c.state = .recal ∧ c.recalStage.map (·.rewinding) = some true))
          ∀ left : TapeEnd, (moving → left = .none) → (¬ moving → left = c.tapeEnd) →
          let report : PassReport :=
            { volume := a.order.volume, track := a.order.track, direction := a.direction, completed := false
              captureBegan := decide (c.state = .capturing)
              units := match c.kind, c.state with
                | .floppy, .capturing => a.revolutionsDone + 1
                | .floppy, _ => 0
                | .cartridge, .winding => 1
                | .cartridge, .armed => if a.windingBegun then 1 else 0
                | .cartridge, .capturing => if a.windingBegun then 2 else 1
                | .cartridge, _ => 0
              winding := a.windingBegun, tapeEnd := left, cause := .abort }
          let held : Channel := { c with
            state := .holding, holdTimer := some 2000, stageTimer := none, recalStage := none, pass := none, tapeEnd := left
            positionKnown := if c.state = .recal then false else c.positionKnown }
          let last := c.decoder.cutShort { profile := p, volume := a.order.volume, sectorCounter := c.sectorCounter }
          (c.state ≠ .capturing → answers (stopped.putChannel ch { held with handed := c.handed ++ [.report report] })) ∧
          (c.state = .capturing → answers (stopped.putChannel ch { held with
            counter := .stopped, separator := { c.separator with running := false, runtCarry := 0 }, decoder := last.1
            handed := c.handed ++ last.2.toList.map .reading ++ [.report report] }))))

/-- R145, R105: EXTEND raises both budgets, each to its limit at most.  Every EXHAUSTED track below the raised pass budget has
its LOST records reverted: each becomes CONTESTED where it holds two check_ok candidates, WEAK where it holds a candidate, and
UNSEEN where it holds none, and its track's open count rises by one for each; the track becomes PENDING, or DONE where it has
none open.  Every other track and record is as it was.  An ENDED_PARTIAL volume with a track now PENDING becomes STOPPED, and no
other run state changes.  The reply tells. -/
def Obligations.ExtendRaises : Prop :=
  ∀ (s : State) (tag n w0 w1 : Byte) (ch : Chan) (v : Volume), s.link.idsFresh →
    Accepts s 0x33 [chanByte ch, n, w0, w1] → s.volume ch = some v → v.planner.tracks.length = v.trackCount →
    v.planner.pendingMap.length = v.trackCount → v.summaries.length = v.trackCount → mapOk .fresh v.records = true →
    ∃ (t : State) (w : Volume), exec (.extend tag [chanByte ch, n, w0, w1]) s = .next t ∧
      t = (s.setVolume ch (some w)).answered 0x33 tag .ok
        (b1 w.planner.passBudget ++ le2 w.planner.wearBudget ++
          le2 ((List.range v.trackCount).countP (fun k => decide ((v.plan k).state ≠ (w.plan k).state ∧
            (w.plan k).state = .pending))) ++ b1 (runByte w.planner.run)) ∧
      w = { v with
        records := w.records, summaries := w.summaries, totals := w.totals, settledMap := w.settledMap
        exclusionMap := w.exclusionMap
        planner := { v.planner with
          passBudget := min 255 (v.planner.passBudget + n.toNat)
          wearBudget := min 65535 (v.planner.wearBudget + (w0.toNat + 256 * w1.toNat))
          tracks := w.planner.tracks, pendingMap := w.planner.pendingMap, run := w.planner.run } } ∧
      (∀ k, k < v.trackCount →
        ((v.plan k).state = .exhausted → (v.plan k).passesUsed < w.planner.passBudget →
          (∀ j, j < v.sectors → ∀ r, r = v.record (k * v.sectors + j) →
            (r.state ≠ .lost → w.record (k * v.sectors + j) = r) ∧
            (r.state = .lost → w.record (k * v.sectors + j) = { r with
              state := if 2 ≤ r.candidates.countP
                  (fun slot => decide ((s.pool.descriptor slot).map (·.checkOk) = some true)) then .contested
                else if r.candidates = [] then .unseen else .weak })) ∧
          (w.summary k).opn = (v.summary k).opn + (List.range v.sectors).countP
            (fun j => decide ((v.record (k * v.sectors + j)).state = .lost)) ∧
          (0 < (w.summary k).opn → w.plan k = { v.plan k with state := .pending } ∧ w.isPending k = true) ∧
          ((w.summary k).opn = 0 → w.plan k = { v.plan k with state := .done } ∧ w.isPending k = false)) ∧
        (((v.plan k).state ≠ .exhausted ∨ w.planner.passBudget ≤ (v.plan k).passesUsed) → w.plan k = v.plan k ∧
          w.isPending k = v.isPending k ∧ w.summary k = v.summary k ∧
          ∀ j, j < v.sectors → w.record (k * v.sectors + j) = v.record (k * v.sectors + j))) ∧
      (∀ i, v.trackCount * v.sectors ≤ i → w.record i = v.record i) ∧
      (v.planner.run = .endedPartial → (∃ k, k < v.trackCount ∧ (w.plan k).state = .pending) →
        w.planner.run = .stopped) ∧
      (v.planner.run ≠ .endedPartial ∨ (∀ k, k < v.trackCount → (w.plan k).state ≠ .pending) →
        w.planner.run = v.planner.run)

/-! ## Recalibration requests and fetches -/

/-- R47, R48: RECAL's tests in their order; an accepted one is not answered yet: a quiet channel spins up, a channel in HOLDING
enters RECAL.  The times with no volume mounted are the model's inference: notes/assumptions/22.md. -/
def Obligations.RecalAccepted : Prop :=
  ∀ (s : State) (tag cb : Byte), s.link.idsFresh → Accepts s 0x38 [cb] →
    (4 ≤ cb.toNat → exec (.recal tag [cb]) s = .next (s.answered 0x38 tag .badChannel [])) ∧
    ∀ ch : Chan, cb = chanByte ch → (s.channel ch).probe = none →
      ((s.channel ch).state = .absent → exec (.recal tag [cb]) s = .next (s.answered 0x38 tag .channelAbsent [])) ∧
      ((s.channel ch).state ≠ .absent →
        ((∃ v, s.volume ch = some v ∧ (v.planner.run = .running ∨ v.planner.run = .pausing)) ∨ (s.channel ch).recal ≠ none →
          exec (.recal tag [cb]) s = .next (s.answered 0x38 tag .busy [])) ∧
        ((∀ v, s.volume ch = some v → v.planner.run ≠ .running ∧ v.planner.run ≠ .pausing) →
          (s.channel ch).recal = none →
          let flight : RecalFlight := { id := s.link.nextId, tag := tag, noVolume := decide (s.volume ch = none) }
          let p : Profile := if s.volume ch = none then noVolumeProfile else s.chanProfile ch
          ((s.channel ch).state = .idle ∨ (s.channel ch).state = .faulted → exec (.recal tag [cb]) s =
            .next ((s.setLink (s.link.accepted 0x38 tag)).putChannel ch { s.channel ch with
              recal := some flight, moved := false, holdTimer := none, state := .spinup
              stageTimer := some (p.spinUp * 40000) })) ∧
          ((s.channel ch).state = .holding → (s.channel ch).kind = .floppy → (s.channel ch).inputs.track0 = false →
            exec (.recal tag [cb]) s =
            .next ((s.setLink (s.link.accepted 0x38 tag)).putChannel ch { s.channel ch with
              recal := some flight, moved := true, holdTimer := none, state := .recal, positionKnown := false
              offset := .zero, dirAsserted := false, pulses := (s.channel ch).pulses + 1
              recalStage := some { rewinding := false, pulses := 1 }
              stageTimer := some (p.stepInterval * 40000) })) ∧
          ((s.channel ch).state = .holding → (s.channel ch).kind = .cartridge → (s.channel ch).inputs.bot = false →
            ∃ t, exec (.recal tag [cb]) s = .next t ∧ t.link = s.link.accepted 0x38 tag ∧
              (t.channel ch).state = .recal ∧ (t.channel ch).outputs.runRev = true ∧ (t.channel ch).tapeEnd = .none ∧
              (t.channel ch).positionKnown = false ∧ (t.channel ch).stageTimer = some (p.laneTime * 60000000) ∧
              (t.channel ch).recal = some flight ∧ (t.channel ch).pulses = (s.channel ch).pulses ∧
              t = { s with link := t.link, channels := t.channels } ∧ ∀ k, k ≠ ch → t.channel k = s.channel k)))

/-- R148, R149: FETCH's tests in their order; an accepted one joins the end of the fetch queue and is not answered yet.  The
names of volumes and requests are the model's own: notes/assumptions/20.md. -/
def Obligations.FetchAccepted : Prop :=
  ∀ (s : State) (tag f0 f1 n mode conf : Byte) (ch : Chan) (v : Volume), s.link.idsFresh →
    Accepts s 0x40 [chanByte ch, f0, f1, n, mode, conf] → s.volume ch = some v →
    let first := f0.toNat + 256 * f1.toNat
    let size := v.trackCount * v.sectors
    let counted := if n.toNat = 0 then 256 else n.toNat
    ((size ≤ first ∨ 1 < mode.toNat ∨ 1 < conf.toNat) → exec (.fetch tag [chanByte ch, f0, f1, n, mode, conf]) s =
      .next (s.answered 0x40 tag .range [])) ∧
    (first < size → mode.toNat ≤ 1 → conf.toNat ≤ 1 →
      (4 ≤ s.fetches.length → exec (.fetch tag [chanByte ch, f0, f1, n, mode, conf]) s =
        .next (s.answered 0x40 tag .busy [])) ∧
      (s.fetches.length < 4 → exec (.fetch tag [chanByte ch, f0, f1, n, mode, conf]) s = .next { s with
        link := s.link.accepted 0x40 tag
        fetches := s.fetches ++
          [{ id := s.link.nextId, tag := tag, channel := ch, volume := v.uid, first := first
             taken := min counted (size - first), mode := if mode.toNat = 1 then .best else .settledOnly
             withConfidence := decide (conf.toNat = 1), next := first, delivered := 0, waiting := false }] }))

/-- R150 to R154, R171: the active fetch offers one frame: it is enqueued where the room test allows, the last one with the
reply behind it, and else the fetch waits; what the frame carries by record state and mode.  That a command with no fetch to
serve does nothing is the model's choice (notes/assumptions/9.md); so are the names of volumes and requests, and what meets a
SUMMARY notice that waits (20.md, 27.md).  That a FUSED candidate is delivered with matches 0 where readings have merged into it
too is the model's inference: notes/assumptions/28.md. -/
def Obligations.FetchFrameOffered : Prop :=
  (∀ s : State, s.fetches = [] ∨ s.link.restart ≠ .idle → exec .fetchFrameOffer s = .next s) ∧
  ∀ (s : State) (e : FetchEntry) (rest : List FetchEntry) (v : Volume), s.fetches = e :: rest → s.link.restart = .idle →
    s.volume e.channel = some v → v.uid = e.volume →
    let r := v.record e.next
    let sent : Link := { s.link with outbound := s.link.outbound ++ [s.sectorFrame v e] }
    (32 < s.link.outbound.length + 1 + s.link.requests.length + 4 →
      exec .fetchFrameOffer s = .next { s with fetches := { e with waiting := true } :: rest }) ∧
    (s.link.outbound.length + 1 + s.link.requests.length + 4 ≤ 32 →
      (e.next + 1 < e.first + e.taken → exec .fetchFrameOffer s = .next { s with
        link := sent.reportRoom true
        fetches := { e with next := e.next + 1, delivered := e.delivered + 1, waiting := false } :: rest }) ∧
      (e.first + e.taken ≤ e.next + 1 → exec .fetchFrameOffer s = .next { s with
        link := sent.reply (!rest.isEmpty) e.id .ok (le2 e.taken ++ le2 (e.delivered + 1)), fetches := rest })) ∧
    (s.sectorFrame v e).kind = 0x70 ∧ (s.sectorFrame v e).tag = e.tag ∧
    (∀ d : Delivered, d = s.delivered v e.next e.mode → ∀ p, (s.slot v.slot).held = some p →
      (s.sectorFrame v e).payload =
        le2 e.next ++ b1 (e.next / v.sectors / p.heads) ++
        b1 (e.next / v.sectors - p.heads * (e.next / v.sectors / p.heads)) ++
        le2 (e.next - e.next / v.sectors * v.sectors) ++ b1 (recordStateByte r.state) ++
        b1 ((r.settled.map (fun x => settledByByte x.by_)).getD 0) ++
        b1 (r.deletedSeen.toNat + 2 * r.overflowed.toNat + 4 * r.dissent.toNat + 8 * r.truncatedSeen.toNat +
          16 * d.deleted.toNat) ++ le2 r.reads ++ b1 d.matchCount ++ yesNo d.checkOk ++ le2 d.data.length ++ d.data ++
        (if e.withConfidence then packConfidences d.confidences else [])) ∧
    (∀ info, r.state = .settled → r.settled = some info → s.delivered v e.next e.mode =
      { data := (areaOf s.image (v.base + e.next)).data.take v.dataLength
        confidences := (areaOf s.image (v.base + e.next)).confidences.take v.dataLength
        matchCount := info.matchCount, checkOk := true, deleted := decide (info.markClass = .deleted) }) ∧
    (r.state = .unseen ∨ r.state = .excluded ∨ (r.state ≠ .settled ∧ (e.mode = .settledOnly ∨ r.candidates = [])) →
      s.delivered v e.next e.mode = { data := [], confidences := [], matchCount := 0, checkOk := false, deleted := false }) ∧
    (∀ slot others c, r.state = .weak ∨ r.state = .contested ∨ r.state = .lost → e.mode = .best →
      r.candidates = slot :: others → s.pool.descriptor slot = some c → s.delivered v e.next e.mode =
      { data := (areaOf s.pool.memory slot).data.take v.dataLength
        confidences := (areaOf s.pool.memory slot).confidences.take v.dataLength
        matchCount := if c.origin = .fused then 0 else c.matchCount
        checkOk := if c.origin = .fused then true else c.checkOk, deleted := decide (c.markClass = .deleted) })

/-! ## The stages of a pass -/

/-- R26 to R32, R37, R38: the spin-up timer expires with READY asserted: a pass on either kind of channel goes on to the first
stage it needs.  With the position not known that is RECAL: the first pulse on a floppy, or on a cartridge the rewind, and at
BOT the first pulse; a channel that stands at TRACK0, or at BOT and LANE0, is recalibrated at once and goes on.  With the
position known it is the first pulse of SEEKING, a change of offset and SETTLING, WINDING, ARMED, or at a released starting
marker CAPTURING.  R47 to R49: a RECAL request goes the same way, and one that ends at once is answered OK, with the channel in
HOLDING or going on with its held order.  A command that finds the channel in another state sets the pins alone
(notes/assumptions/9.md).  The lines an event carries are notes/assumptions/11.md; the times of a request taken with no volume
are 22.md. -/
def Obligations.SpinupEnds : Prop :=
  ∀ (s : State) (ch : Chan) (lines : Lines) (c : Channel), s.channel ch = c →
    let p := s.chanProfile ch
    let q := s.recalProfile ch c
    let seen : Channel := { c with inputs := lines }
    let captured (d : Channel) (a : Pass) : Channel := { d with
      state := .capturing, counter := .idle, pass := some { a with revolutionsDone := 0 }
      separator := d.separator.startPass p a.order.gain a.order.window
      decoder := d.decoder.startPass a.direction a.order.track a.order.passNumber }
    let armed (d : Channel) (a : Pass) : Channel :=
      if d.kind = .floppy then { d with state := .armed, pass := some a, stageTimer := some (6000000000 / p.rpm) }
      else
        let e : Channel := { d with state := .armed, pass := some a, tapeEnd := .none, stageTimer := some (p.laneTime * 60000000) }
        if (if a.direction = .forward then lines.bot else lines.eot) = true then e else captured e a
    let settled (d : Channel) (a : Pass) : Channel :=
      if d.kind = .floppy ∨ d.tapeEnd = (if a.direction = .forward then TapeEnd.bot else TapeEnd.eot) then armed d a
      else if lines.bot = true then armed d { a with windingBegun := true, direction := .forward }
      else { d with
        state := .winding, stageTimer := some (p.laneTime * 60000000)
        pass := some { a with windingBegun := true, direction := .forward } }
    let settling (d : Channel) (a : Pass) : Channel :=
      { d with state := .settling, stageTimer := some (p.settleTime * 40000), pass := some a, offset := a.order.offset }
    let onward (d : Channel) (a : Pass) : Channel :=
      let target := a.order.track / p.heads
      let up : Bool := decide (d.position < target)
      let pulsed : Channel := { d with
        position := if up then d.position + 1 else d.position - 1, dirAsserted := up, moved := true, pulses := d.pulses + 1 }
      if d.position + 1 < target ∨ target + 1 < d.position then
        { pulsed with state := .seeking, stageTimer := some (p.stepInterval * 40000), pass := some a }
      else if d.position ≠ target then settling pulsed a
      else if d.offset ≠ a.order.offset then settling { d with moved := true } a
      else if d.moved = true then settling d a
      else settled d a
    let recal : Channel := { seen with
      state := .recal, positionKnown := false, holdTimer := none, moved := c.moved || decide (c.offset ≠ .zero), offset := .zero }
    let pulse (d : Channel) : Channel := { d with
      dirAsserted := false, moved := true, pulses := c.pulses + 1, stageTimer := some (q.stepInterval * 40000)
      recalStage := some { rewinding := false, pulses := 1 } }
    let begun : Channel :=
      if c.kind = .floppy then pulse recal
      else if lines.bot = true then pulse { recal with tapeEnd := .bot }
      else { recal with
        tapeEnd := .none, stageTimer := some (q.laneTime * 60000000)
        recalStage := some { rewinding := true, pulses := 0 } }
    let home : Channel :=
      let found : Channel := { recal with
        position := 0, positionKnown := true, faultCount := 0, faultCode := .none, recalStage := none, stageTimer := none }
      if c.kind = .floppy then { found with dirAsserted := false } else { found with tapeEnd := .bot }
    let atOrigin : Prop := if c.kind = .floppy then lines.track0 = true else lines.bot = true ∧ lines.lane0 = true
    (c.state ≠ .spinup → exec (.spinupTimerExpiry ch lines) s = .next (s.putChannel ch seen)) ∧
    (c.state = .spinup → lines.ready = true →
      (∀ a, c.recal = none → c.pass = some a →
        (c.positionKnown = true → exec (.spinupTimerExpiry ch lines) s = .next (s.putChannel ch (onward seen a))) ∧
        (c.positionKnown = false →
          (¬ atOrigin → exec (.spinupTimerExpiry ch lines) s = .next (s.putChannel ch begun)) ∧
          (atOrigin → exec (.spinupTimerExpiry ch lines) s = .next (s.putChannel ch (onward home a))))) ∧
      ∀ f, c.recal = some f →
        (¬ atOrigin → exec (.spinupTimerExpiry ch lines) s = .next (s.putChannel ch begun)) ∧
        (atOrigin → c.heldOrder = none → exec (.spinupTimerExpiry ch lines) s = .next ((s.putChannel ch { home with
          recal := none, state := .holding, holdTimer := some 2000 }).reply f.id .ok [])) ∧
        ∀ o, atOrigin → c.heldOrder = some o →
          let a : Pass := { order := o, direction := o.direction, windingBegun := false, revolutionsDone := 0 }
          exec (.spinupTimerExpiry ch lines) s =
            .next ((s.putChannel ch (onward { home with recal := none, heldOrder := none } a)).reply f.id .ok []))

/-- R28, R29, R48: a recalibration's next pulse, its end at TRACK0 or LANE0, and the end of a rewind at BOT; on success the
position is 0 and known and the fault code and count are cleared, and a request is answered OK with the channel in
HOLDING.  Events not due and the lines an event carries are the model's choice: notes/assumptions/9.md, 11.md. -/
def Obligations.RecalibrationGoesOn : Prop :=
  ∀ (s : State) (ch : Chan) (lines : Lines) (c : Channel), s.channel ch = c →
    let p := s.recalProfile ch c
    let home (d : Channel) : Channel := { d with
      position := 0, positionKnown := true, faultCount := 0, faultCode := .none, recalStage := none, stageTimer := none }
    (c.state ≠ .recal →
      exec (.recalPulseDue ch lines) s = .next (s.putChannel ch { c with inputs := lines }) ∧
      exec (.rewindBot ch lines) s = .next (s.putChannel ch { c with inputs := { lines with bot := true } })) ∧
    (∀ n, c.state = .recal → c.recalStage = some { rewinding := false, pulses := n } →
      (if c.kind = .floppy then lines.track0 = false ∧ n < 100 else lines.lane0 = false ∧ n < 40) →
      exec (.recalPulseDue ch lines) s = .next (s.putChannel ch { c with
        inputs := lines, moved := true, pulses := c.pulses + 1, stageTimer := some (p.stepInterval * 40000)
        recalStage := some { rewinding := false, pulses := n + 1 } })) ∧
    (∀ n, c.state = .recal → c.recalStage = some { rewinding := false, pulses := n } →
      (if c.kind = .floppy then lines.track0 = true else lines.lane0 = true) →
      (∀ f, c.recal = some f → c.heldOrder = none → exec (.recalPulseDue ch lines) s =
        .next ((s.putChannel ch { home { c with inputs := lines } with
          recal := none, state := .holding, holdTimer := some 2000 }).reply f.id .ok [])) ∧
      (∀ a, c.recal = none → c.pass = some a → exec (.recalPulseDue ch lines) s =
        .next (s.putChannel ch ((home { c with inputs := lines }).afterRecal (s.chanProfile ch) a))) ∧
      ∀ f o, c.recal = some f → c.heldOrder = some o → exec (.recalPulseDue ch lines) s =
        .next ((s.putChannel ch ({ home { c with inputs := lines } with
          recal := none, heldOrder := none
          pass := some { order := o, direction := o.direction, windingBegun := false, revolutionsDone := 0 } }.afterRecal
            (s.chanProfile ch)
            { order := o, direction := o.direction, windingBegun := false, revolutionsDone := 0 })).reply f.id .ok [])) ∧
    (∀ n, c.state = .recal → c.recalStage = some { rewinding := true, pulses := n } → c.kind = .cartridge →
      (lines.lane0 = false → exec (.rewindBot ch lines) s = .next (s.putChannel ch { c with
        inputs := { lines with bot := true }, tapeEnd := .bot, dirAsserted := false, moved := true
        pulses := c.pulses + 1, stageTimer := some (p.stepInterval * 40000)
        recalStage := some { rewinding := false, pulses := 1 } })) ∧
      (∀ f, lines.lane0 = true → c.recal = some f → c.heldOrder = none → exec (.rewindBot ch lines) s =
        .next ((s.putChannel ch { home { c with inputs := { lines with bot := true }, tapeEnd := .bot } with
          recal := none, state := .holding, holdTimer := some 2000 }).reply f.id .ok [])))

/-- R30 to R32, R37, R38: the pulses and the offset of SEEKING, and what follows SETTLING and WINDING.  Events not due and the
lines an event carries are the model's choice: notes/assumptions/9.md, 11.md. -/
def Obligations.SeekSettleWind : Prop :=
  ∀ (s : State) (ch : Chan) (lines : Lines) (c : Channel) (a : Pass), s.channel ch = c → c.pass = some a →
    let p := s.chanProfile ch
    let target := (orderTarget p a.order).1
    let moved (position : Nat) : Channel := { c with
      inputs := lines, position := position, moved := true, pulses := c.pulses + 1 }
    (c.state = .seeking →
      (c.position + 1 < target → exec (.seekPulseDue ch lines) s =
        .next (s.putChannel ch { moved (c.position + 1) with stageTimer := some (p.stepInterval * 40000) })) ∧
      (target + 1 < c.position → exec (.seekPulseDue ch lines) s =
        .next (s.putChannel ch { moved (c.position - 1) with stageTimer := some (p.stepInterval * 40000) })) ∧
      (c.position + 1 = target ∨ target + 1 = c.position → exec (.seekPulseDue ch lines) s =
        .next (s.putChannel ch { moved target with
          state := .settling, offset := a.order.offset, stageTimer := some (p.settleTime * 40000) }))) ∧
    (c.state ≠ .seeking → exec (.seekPulseDue ch lines) s = .next (s.putChannel ch { c with inputs := lines })) ∧
    (c.state = .settling →
      (c.kind = .floppy → exec (.settleTimerExpiry ch lines) s = .next (s.putChannel ch { c with
        inputs := lines, state := .armed, stageTimer := some (6000000000 / p.rpm) })) ∧
      (c.kind = .cartridge → a.direction = .forward → c.tapeEnd ≠ .bot → lines.bot = false →
        exec (.settleTimerExpiry ch lines) s = .next (s.putChannel ch { c with
          inputs := lines, state := .winding, stageTimer := some (p.laneTime * 60000000)
          pass := some { a with windingBegun := true } })) ∧
      (c.kind = .cartridge → a.direction = .forward → c.tapeEnd = .bot → lines.bot = true →
        exec (.settleTimerExpiry ch lines) s = .next (s.putChannel ch { c with
          inputs := lines, state := .armed, tapeEnd := .none, stageTimer := some (p.laneTime * 60000000) }))) ∧
    (c.state = .winding → c.kind = .cartridge → a.direction = .forward →
      exec (.windingBot ch lines) s = .next (s.putChannel ch { c with
        inputs := { lines with bot := true }, state := .armed, tapeEnd := .none
        stageTimer := some (p.laneTime * 60000000) })) ∧
    (c.state ≠ .winding → exec (.windingBot ch lines) s =
      .next (s.putChannel ch { c with inputs := { lines with bot := true } }))

/-- R34, R35, R37 to R40, R51, R68: where capture begins, with what period, bounds, legal lengths and flags the separator then
starts and with what the decoder does, how its revolutions count, on hard-sectored media too, and how a pass completes: its last
field closed, and HOLDING at once where no reading waits, else after the last of them.  The wait for the last reading is the
model's inference: notes/assumptions/12.md. -/
def Obligations.CaptureRuns : Prop :=
  ∀ (s : State) (ch : Chan) (c : Channel) (a : Pass) (p : Profile), s.channel ch = c → c.pass = some a →
    s.mountedProfile ch = some p → c.completing = false →
    let began (d : Channel) : Channel := { d with
      state := .capturing, counter := .idle, pass := some { a with revolutionsDone := 0 }
      separator :=
        { running := true, period := some p.cellPeriod, nominal := p.cellPeriod, window := a.order.window, gain := a.order.gain
          periodMin := p.cellPeriod - p.cellPeriod * a.order.window / 64
          periodMax := p.cellPeriod + p.cellPeriod * a.order.window / 64
          cellsMin := match p.encoding with
            | .fm => 1
            | .mfm => 2
            | .gcr => 1
          cellsMax := match p.encoding with
            | .fm => 2
            | .mfm => 4
            | .gcr => 3
          runtCarry := 0, windowHit := false }
      decoder := { c.decoder with
        state := .hunt, direction := a.direction, track := a.order.track, passNumber := a.order.passNumber
        recent := [], assembly := [], syncRun := 0, sinceSync := 0, heldIdentity := none, rejectedWindow := none
        gapCount := 0, block := [], tallies := .zero, intervals := 0, lastViolation := none } }
    let report (units : Nat) (tapeEnd : TapeEnd) : PassReport :=
      { volume := a.order.volume, track := a.order.track, direction := a.direction, completed := true
        captureBegan := true, units := units, winding := a.windingBegun, tapeEnd := tapeEnd, cause := .none }
    let threshold : Nat := 2400000000 / (p.rpm * p.sectors) / 2
    let indexed (ticks : Nat) : Prop := p.medium = .floppySoft ∨
      (p.medium = .floppyHard ∧ ∃ n, c.sincePulse = some n ∧ n + ticks < threshold)
    let completes (i : Instr) (d : Channel) (b : Pass) (units : Nat) : Prop :=
      let last := d.decoder.cutShort { profile := p, volume := a.order.volume, sectorCounter := d.sectorCounter }
      let closed : Channel := { d with
        stageTimer := none, counter := .stopped, separator := { d.separator with running := false, runtCarry := 0 }
        decoder := last.1, handed := d.handed ++ last.2.toList.map .reading ++ [.report (report units d.tapeEnd)] }
      ((∀ x, .reading x ∉ closed.handed) → exec i s = .next (s.putChannel ch { closed with
        state := .holding, holdTimer := some 2000, recalStage := none, pass := none })) ∧
      ((∃ x, .reading x ∈ closed.handed) → exec i s = .next (s.putChannel ch { closed with
        completing := true, pass := some b }))
    (∀ ticks, indexed ticks → c.kind = .floppy →
      (c.state = .armed → exec (.indexPulse ch ticks) s = .next (s.putChannel ch
        { began c with sincePulse := some 0, sectorCounter := 0, stageTimer := some (6000000000 / p.rpm) })) ∧
      (c.state = .capturing → a.revolutionsDone + 1 < a.order.revolutions → exec (.indexPulse ch ticks) s =
        .next (s.putChannel ch { c with
          sincePulse := some 0, sectorCounter := 0, stageTimer := some (6000000000 / p.rpm)
          pass := some { a with revolutionsDone := a.revolutionsDone + 1 } })) ∧
      (c.state = .capturing → a.order.revolutions ≤ a.revolutionsDone + 1 →
        completes (.indexPulse ch ticks) { c with sincePulse := some 0, sectorCounter := 0 }
          { a with revolutionsDone := a.revolutionsDone + 1 } a.order.revolutions)) ∧
    (∀ ticks, p.medium = .floppyHard → c.kind = .floppy → motorOn c.state = true →
      (c.sincePulse = none ∨ ∃ n, c.sincePulse = some n ∧ threshold ≤ n + ticks) →
      exec (.indexPulse ch ticks) s = .next (s.putChannel ch { c with
        sincePulse := some 0, sectorCounter := min (c.sectorCounter + 1) (p.sectors - 1) })) ∧
    (∀ lines, c.kind = .cartridge → c.state = .armed → exec (.startMarkerReleased ch lines) s =
      .next (s.putChannel ch { began c with inputs := releaseStart lines a.direction })) ∧
    ∀ lines, c.kind = .cartridge → c.state = .capturing →
      completes (.farMarkerAsserted ch lines) { c with inputs := assertFar lines a.direction, tapeEnd := farEnd a.direction } a
        (1 + a.windingBegun.toNat) ∧
      ∀ t, exec (.farMarkerAsserted ch lines) s = .next t → (t.channel ch).outputs.runFwd = false ∧
        (t.channel ch).outputs.runRev = false ∧ (t.channel ch).outputs.readEn = false

/-- R42, R43, R44, R48, R49: each command that finds a fault's condition puts the channel in FAULTED with the fault's code, its
lines released and its pass cut with the units R42's table gives, a field in capture closed as at the capture end (R52, R84),
raises the count to 3 at most, answers a RECAL request in flight with RECAL_FAILED and the code, reports an order held for it
cut with nothing consumed, and hands a FAULT notice; nothing outside the channel, the link and the volume's plan changes.  When
the planner is told is the model's inference: notes/assumptions/15.md; so is that the FAULT notice stands before the VOLUME
notice of the halt: 14.md; what meets a SUMMARY notice that waits is 27.md. -/
def Obligations.FaultTaken : Prop :=
  ∀ (s : State) (ch : Chan) (lines : Lines) (c : Channel) (i : Instr) (code : FaultCode), s.channel ch = c →
    c.probe = none →
    ((i = .spinupTimerExpiry ch lines ∧ code = .notReady ∧ c.state = .spinup ∧ lines.ready = false) ∨
      (i = .readyFalling ch lines ∧ code = .notReady ∧ readyWatched c.state = true) ∨
      (i = .indexWatchExpiry ch lines ∧ code = .indexLost ∧ c.kind = .floppy ∧ c.inCapture = true) ∨
      (i = .rewindTimerExpiry ch lines ∧ code = .markerLost ∧ c.state = .recal ∧
        ∃ n, c.recalStage = some { rewinding := true, pulses := n }) ∨
      (i = .windingTimerExpiry ch lines ∧ code = .markerLost ∧ c.state = .winding) ∨
      (i = .markerWatchExpiry ch lines ∧ code = .markerLost ∧ c.kind = .cartridge ∧ c.inCapture = true) ∨
      (i = .recalPulseDue ch lines ∧ code = .recalFailed ∧ c.state = .recal ∧
        ∃ n, c.recalStage = some { rewinding := false, pulses := n } ∧
          if c.kind = .floppy then 100 ≤ n ∧ lines.track0 = false else 40 ≤ n ∧ lines.lane0 = false)) →
    ∃ (t : State) (d : Channel), exec i s = .next t ∧ t.channel ch = d ∧ d.state = .faulted ∧ d.faultCode = code ∧
      d.faultCount = min 3 (c.faultCount + 1) ∧ d.positionKnown = false ∧ d.tapeEnd = .none ∧ d.pass = none ∧
      d.recal = none ∧ d.heldOrder = none ∧ d.holdTimer = none ∧ d.stageTimer = none ∧ d.completing = false ∧
      d.position = c.position ∧ d.headSelected = c.headSelected ∧ d.offset = c.offset ∧ d.mediaSeen = c.mediaSeen ∧
      d.sectorCounter = c.sectorCounter ∧ d.outputs.motor = false ∧ d.outputs.load = false ∧ d.outputs.runFwd = false ∧
      d.outputs.runRev = false ∧ d.outputs.readEn = false ∧ OnlyChannelPlanLink ch s t ∧
      (∀ v, s.volume ch = some v → ∃ w, t.volume ch = some w ∧ w.mediaGone = v.mediaGone) ∧
      (c.completing = false →
        let answered : Link := match c.recal with
          | none => s.link
          | some f => s.link.reply s.fetching f.id .recalFailed (b1 (faultByte code))
        (∀ a, c.pass = some a →
          t.link = answered.notify s.selfTest.partFailed ch .fault (b1 ch.val ++ b1 (faultByte code) ++
            b1 (chanStateByte c.state) ++ b1 1 ++ le2 a.order.track ++ b1 d.faultCount) ∧ t.volumes = s.volumes ∧
          (c.state ≠ .capturing → c.heldOrder = none → d.handed = c.handed ++ [.report
            { volume := a.order.volume, track := a.order.track, direction := a.direction, completed := false
              captureBegan := false
              units := match c.kind, c.state with
                | .floppy, _ => 0
                | .cartridge, .winding => 1
                | .cartridge, .armed => if a.windingBegun then 1 else 0
                | .cartridge, _ => 0
              winding := a.windingBegun, tapeEnd := .none, cause := .fault code }]) ∧
          (c.state = .capturing → c.heldOrder = none →
            let last := c.decoder.cutShort
              { profile := s.chanProfile ch, volume := a.order.volume, sectorCounter := c.sectorCounter }
            d.decoder = last.1 ∧ d.counter = .stopped ∧
            d.separator = { c.separator with running := false, runtCarry := 0 } ∧
            d.handed = c.handed ++ last.2.toList.map .reading ++ [.report
            { volume := a.order.volume, track := a.order.track, direction := a.direction, completed := false
              captureBegan := true
              units := match c.kind with
                | .floppy => a.revolutionsDone + 1
                | .cartridge => if a.windingBegun then 2 else 1
              winding := a.windingBegun, tapeEnd := .none, cause := .fault code }])) ∧
        (∀ o, c.pass = none → c.heldOrder = some o → d.handed = c.handed ++ [.report
          { volume := o.volume, track := o.track, direction := o.direction, completed := false, captureBegan := false
            units := 0, winding := false, tapeEnd := .none, cause := .fault code }]) ∧
        (c.pass = none →
          let noticed := answered.notify s.selfTest.partFailed ch .fault (b1 ch.val ++ b1 (faultByte code) ++
            b1 (chanStateByte c.state) ++ b1 0 ++ le2 0 ++ b1 d.faultCount)
          (s.volume ch = none → t.link = noticed) ∧
          ∀ v, s.volume ch = some v →
            (v.planner.run ≠ .running → v.planner.run ≠ .pausing → t.volumes = s.volumes ∧ t.link = noticed) ∧
            (v.planner.run = .running ∨ v.planner.run = .pausing → ∃ w, t.volume ch = some w ∧
              w = { v with planner := { v.planner with run := .halted, halt := .fault code } } ∧
              t.link = noticed.notify s.selfTest.partFailed ch .volume
                (b1 ch.val ++ le4 v.tag ++ b1 (runByte .halted) ++ b1 (haltByte (.fault code)) ++
                  b1 (phaseByte v.planner.phase) ++ le2 v.planner.wearUsed ++ le2 v.planner.wearBudget ++
                  le2 v.totals.settled ++ le2 v.totals.opn ++ le2 v.totals.lost ++ le2 v.totals.excluded)))  ∧
        (c.pass = none → c.heldOrder = none → d.handed = c.handed))

/-- R36, R40: what each state of the interval counter makes of a transition and of saturation, and the expiry of the hold
timer.  Events not due are the model's choice: notes/assumptions/9.md. -/
def Obligations.FluxAndHold : Prop :=
  ∀ (s : State) (ch : Chan) (c : Channel), s.channel ch = c →
    let p := s.chanProfile ch
    (∀ (a : Pass) (ticks : Nat), c.pass = some a →
      let env : DecoderEnv := { profile := p, volume := a.order.volume, sectorCounter := c.sectorCounter }
      let given (counter : IntervalCounter) (interval : Nat) : Channel := { c with
        counter := counter, separator := (c.separator.takeInterval interval).1
        decoder := (c.decoder.takeOutcome env (c.separator.takeInterval interval).2).1
        handed := c.handed ++ (c.decoder.takeOutcome env (c.separator.takeInterval interval).2).2.map .reading }
      (c.counter = .stopped → exec (.fluxTransition ch ticks) s = .next (s.putChannel ch c) ∧
        exec (.counterSaturation ch) s = .next (s.putChannel ch c)) ∧
      (c.counter = .idle ∨ c.counter = .held →
        exec (.fluxTransition ch ticks) s = .next (s.putChannel ch { c with counter := .counting 0 }) ∧
        exec (.counterSaturation ch) s = .next (s.putChannel ch c)) ∧
      (∀ n, c.counter = .counting n → c.separator.running = true →
        (0 < n + ticks → exec (.fluxTransition ch ticks) s =
          .next (s.putChannel ch (given (.counting 0) (min (n + ticks) 65535)))) ∧
        (n + ticks = 0 → exec (.fluxTransition ch ticks) s = .next (s.putChannel ch c)) ∧
        exec (.counterSaturation ch) s = .next (s.putChannel ch (given .held 65535)))) ∧
    (c.pass = none → ∀ ticks, exec (.fluxTransition ch ticks) s = .next s ∧ exec (.counterSaturation ch) s = .next s) ∧
    ∀ lines, (c.state = .holding → c.probe = none → ∃ t, exec (.holdTimerExpiry ch lines) s = .next t ∧
        t = s.putChannel ch { c with inputs := lines, state := .idle, holdTimer := none } ∧
        (t.channel ch).outputs.motor = false ∧ (t.channel ch).outputs.load = false ∧
        (t.channel ch).position = c.position ∧ (t.channel ch).positionKnown = c.positionKnown ∧
        (t.channel ch).tapeEnd = c.tapeEnd) ∧
      (c.state ≠ .holding → exec (.holdTimerExpiry ch lines) s = .next (s.putChannel ch { c with inputs := lines }))

/-- R42, R45, R46, R48, R49, R92, R139: a media change.  With a volume mounted the pass is cut with the units R42's table gives,
a field in capture closed as at the capture end (R52, R84), a RECAL request in flight is answered with ABORTED, the channel goes
to IDLE, the volume is MEDIA_GONE and a RUNNING or PAUSING one is HALTED, and a MEDIA notice is handed; with none the media-seen
flag is set.  An ABSENT channel takes none.  When the planner is told is the model's inference: notes/assumptions/15.md; what
meets a SUMMARY notice that waits is 27.md. -/
def Obligations.MediaChangeTaken : Prop :=
  ∀ (s : State) (ch : Chan) (lines : Lines) (c : Channel), s.channel ch = c → c.probe = none →
    let seen : Lines := match c.kind with
      | .floppy => { lines with change := true }
      | .cartridge => { lines with present := false }
    (c.state = .absent → exec (.mediaChange ch lines) s = .next (s.putChannel ch { c with inputs := seen })) ∧
    (c.state ≠ .absent → s.volume ch = none → c.recal = none →
      (c.state = .idle → exec (.mediaChange ch lines) s =
        .next (s.putChannel ch { c with inputs := seen, mediaSeen := true })) ∧
      (c.state ≠ .idle → exec (.mediaChange ch lines) s = .next (s.putChannel ch { c with
        inputs := seen, mediaSeen := true, state := .idle, positionKnown := false, tapeEnd := .none, holdTimer := none
        stageTimer := none, recalStage := none }))) ∧
    (∀ f, c.state ≠ .absent → s.volume ch = none → c.recal = some f → exec (.mediaChange ch lines) s =
      .next ((s.putChannel ch { c with
        inputs := seen, mediaSeen := true, state := .idle, positionKnown := false, tapeEnd := .none, holdTimer := none
        stageTimer := none, recalStage := none, recal := none }).reply f.id .aborted [])) ∧
    (∀ v, c.state ≠ .absent → s.volume ch = some v →
      ∃ (t : State) (d : Channel) (w : Volume), exec (.mediaChange ch lines) s = .next t ∧ t.channel ch = d ∧
        t.volume ch = some w ∧ OnlyChannelPlanLink ch s t ∧ w.mediaGone = true ∧ d.state = .idle ∧
        d.positionKnown = false ∧ d.tapeEnd = .none ∧ d.holdTimer = none ∧ d.stageTimer = none ∧ d.pass = none ∧
        d.recal = none ∧ d.heldOrder = none ∧ d.faultCode = c.faultCode ∧ d.faultCount = c.faultCount ∧
        d.mediaSeen = c.mediaSeen ∧ d.outputs.motor = false ∧ d.outputs.load = false ∧ d.outputs.runFwd = false ∧
        d.outputs.runRev = false ∧ d.outputs.readEn = false ∧
        (c.completing = false →
          let answered : Link := match c.recal with
            | none => s.link
            | some f => s.link.reply s.fetching f.id .aborted []
          let mediaNotice (l : Link) : Link := l.notify s.selfTest.partFailed ch .media (b1 ch.val ++ b1 (chanStateByte c.state))
          (∀ a, c.pass = some a → w = { v with mediaGone := true } ∧ t.link = mediaNotice answered ∧
            (c.state ≠ .capturing → c.heldOrder = none → d.handed = c.handed ++ [.report
              { volume := a.order.volume, track := a.order.track, direction := a.direction, completed := false
                captureBegan := false
                units := match c.kind, c.state with
                  | .floppy, _ => 0
                  | .cartridge, .winding => 1
                  | .cartridge, .armed => if a.windingBegun then 1 else 0
                  | .cartridge, _ => 0
                winding := a.windingBegun, tapeEnd := .none, cause := .media }]) ∧
            (c.state = .capturing → c.heldOrder = none →
              let last := c.decoder.cutShort
                { profile := s.chanProfile ch, volume := a.order.volume, sectorCounter := c.sectorCounter }
              d.decoder = last.1 ∧ d.counter = .stopped ∧
              d.separator = { c.separator with running := false, runtCarry := 0 } ∧
              d.handed = c.handed ++ last.2.toList.map .reading ++ [.report
              { volume := a.order.volume, track := a.order.track, direction := a.direction, completed := false
                captureBegan := true
                units := match c.kind with
                  | .floppy => a.revolutionsDone + 1
                  | .cartridge => if a.windingBegun then 2 else 1
                winding := a.windingBegun, tapeEnd := .none, cause := .media }])) ∧
          (∀ o, c.pass = none → c.heldOrder = some o → d.handed = c.handed ++ [.report
            { volume := o.volume, track := o.track, direction := o.direction, completed := false, captureBegan := false
              units := 0, winding := false, tapeEnd := .none, cause := .media }]) ∧
          (c.pass = none → c.heldOrder = none → d.handed = c.handed) ∧
          (c.pass = none → v.planner.run = .running ∨ v.planner.run = .pausing →
            w = { v with mediaGone := true, planner := { v.planner with run := .halted, halt := .mediaGone } } ∧
            t.link = mediaNotice (answered.notify s.selfTest.partFailed ch .volume
              (b1 ch.val ++ le4 v.tag ++ b1 (runByte .halted) ++ b1 (haltByte .mediaGone) ++
                b1 (phaseByte v.planner.phase) ++ le2 v.planner.wearUsed ++ le2 v.planner.wearBudget ++
                le2 v.totals.settled ++ le2 v.totals.opn ++ le2 v.totals.lost ++ le2 v.totals.excluded))) ∧
          (c.pass = none → v.planner.run ≠ .running → v.planner.run ≠ .pausing →
            w = { v with mediaGone := true } ∧ t.link = mediaNotice answered)))

/-! ## What the channels hand on -/

/-- R137, R138, R132: the report of an outstanding order taken by the planner: the charges, the fruit, misplacement, the ladder,
the track's new state, the halt of a cut by a fault or a media change with its reason, and what follows by run state.  R104: an
EXHAUSTED track's open records become LOST and its open count moves to lost.  R141: a TRACK notice where the track is done or
EXHAUSTED, then the PASS notice of a verbose volume, then the VOLUME notice of a halt.  No other channel, volume or block
changes.  A report for no outstanding order is discarded.  That a report waits to be taken is the model's inference:
notes/assumptions/12.md. -/
def Obligations.ReportsTaken : Prop :=
  ∀ (s : State) (ch : Chan) (c : Channel) (r : PassReport) (rest : List Handed) (i : Instr), s.channel ch = c →
    c.handed = .report r :: rest → i = (if r.completed then .passEndReport ch else .cutReport ch) →
    ((∀ v, s.volume ch = some v → v.uid ≠ r.volume ∨ v.planner.outstanding ≠ some r.track) →
      exec i s = .next (s.putChannel ch { c with handed := rest })) ∧
    ∀ v, s.volume ch = some v → v.uid = r.volume → v.planner.outstanding = some r.track →
      v.planner.tracks.length = v.trackCount → r.track < v.trackCount → v.summaries.length = v.trackCount →
      (∀ k, v.trackCount ≤ k → v.isPending k = false) → v.planner.pendingMap.length = v.trackCount →
      let settledNow := (v.summary r.track).settled - v.planner.baseline
      let e := v.plan r.track
      let p := s.chanProfile ch
      let n := (v.summary r.track).opn
      let misplaced := r.completed && decide (1 ≤ c.decoder.tallies.wrongTrack) &&
        decide (c.decoder.tallies.goodHeaders ≤ c.decoder.tallies.wrongTrack)
      let spent := r.completed && decide (v.planner.passBudget ≤ e.passesUsed + r.captureBegan.toNat)
      let reason : Option HaltReason :=
        if r.completed then none
        else if v.planner.run = .running ∨ v.planner.run = .pausing then
          match r.cause with
          | .fault code => some (.fault code)
          | .media => some .mediaGone
          | .none => none
          | .abort => none
        else none
      e.passesUsed < 255 →
      ∃ (u : State) (w : Volume), u.volume ch = some w ∧
        (w.planner.run = .running → exec i s = .next (u.choosePass ch)) ∧
        (w.planner.run = .pausing → exec i s = .next
          (u.setVolume ch (some { w with planner := { w.planner with run := .paused } }))) ∧
        (w.planner.run ≠ .running → w.planner.run ≠ .pausing → exec i s = .next u) ∧
        u = { s with link := u.link, volumes := u.volumes, channels := u.channels } ∧
        (∀ k, k ≠ ch → u.channel k = s.channel k ∧ u.volume k = s.volume k) ∧
        u.channel ch = Channel.drive { c with
          handed := rest, positionKnown := if misplaced then false else c.positionKnown } ∧
        w.planner = { v.planner with
          run := if reason = none then v.planner.run else .halted
          halt := reason.getD v.planner.halt
          outstanding := none, wearUsed := min (v.planner.wearUsed + r.units) v.planner.wearBudget
          fruitful := decide (1 ≤ settledNow)
          surveyCursor := if r.completed ∧ v.planner.phase = .survey ∧ misplaced = false then r.track + 1
            else v.planner.surveyCursor
          tracks := w.planner.tracks, pendingMap := w.planner.pendingMap } ∧
        w.plan r.track =
          { state := if n = 0 then .done else if spent then .exhausted else .pending
            passesUsed := e.passesUsed + r.captureBegan.toNat
            ladderStep := if r.completed ∧ v.planner.phase = .recovery ∧ misplaced = false ∧ settledNow = 0 then
              nextStep p e.ladderStep else e.ladderStep
            misplaced := if r.completed then misplaced else e.misplaced } ∧
        (w.isPending r.track = decide ((w.plan r.track).state = .pending)) ∧
        (∀ k, k ≠ r.track → w.plan k = v.plan k ∧ w.isPending k = v.isPending k) ∧
        (n = 0 ∨ spent = false → w = { v with planner := w.planner }) ∧
        (n ≠ 0 → spent = true → v.mapsOk →
          (∀ j, w.record j = if r.track * v.sectors ≤ j ∧ j < (r.track + 1) * v.sectors ∧
              (v.record j).state ∈ [.unseen, .weak, .contested] then { v.record j with state := .lost } else v.record j) ∧
          w.summary r.track = { v.summary r.track with opn := 0, lost := (v.summary r.track).lost + n } ∧
          (∀ k, k ≠ r.track → w.summary k = v.summary k) ∧
          w = { v with
            planner := w.planner, records := w.records, summaries := w.summaries
            totals := { v.totals with opn := v.totals.opn - n, lost := v.totals.lost + n } }) ∧
        let counts := w.summary r.track
        let noticed (yes : Bool) (kind : NoticeKind) (payload : List Byte) (l : Link) : Link :=
          if yes then l.notify s.selfTest.partFailed ch kind (b1 ch.val ++ le4 v.tag ++ payload) else l
        let tallies := if r.captureBegan then c.decoder.tallies else .zero
        let trackNotice : List Byte := le2 r.track ++ b1 (trackStateByte (w.plan r.track).state) ++
          b1 (w.plan r.track).passesUsed ++ b1 (w.plan r.track).ladderStep ++ le2 counts.opn ++ le2 counts.settled ++
          le2 counts.lost ++ le2 counts.excluded
        let passNotice : List Byte := le2 r.track ++ b1 (e.passesUsed + 1) ++ b1 e.ladderStep ++ yesNo (!r.completed) ++
          b1 (causeByte r.cause) ++ b1 r.units ++ le2 settledNow ++ le2 counts.opn ++ yesNo misplaced ++
          yesNo (r.captureBegan && c.separator.windowHit) ++ le2 tallies.goodHeaders ++ le2 tallies.wrongTrack ++
          le2 tallies.outOfGeometry ++ le2 tallies.badHeader ++ le2 tallies.orphans ++ le2 tallies.misplaced
        let volumeNotice : List Byte := b1 (runByte .halted) ++ b1 (haltByte w.planner.halt) ++ b1 (phaseByte v.planner.phase) ++
          le2 w.planner.wearUsed ++ le2 v.planner.wearBudget ++ le2 w.totals.settled ++ le2 w.totals.opn ++
          le2 w.totals.lost ++ le2 w.totals.excluded
        u.link = noticed reason.isSome .volume volumeNotice (noticed v.verbose .pass passNotice
          (noticed (decide ((w.plan r.track).state ≠ .pending)) .track trackNotice s.link))

/-- R92, R98 to R103, R90, R114, R115, R118, R126, R127: a reading taken, which is its acknowledgement (R39: with the last
reading of a completed pass the channel enters HOLDING and starts its hold timer; that the channel waits until then is the
model's inference, notes/assumptions/12.md): discarded for a released volume, ignored by an EXCLUDED record, compared with a
SETTLED one, whose confidences an identical one raises; and for an UNSEEN, WEAK, CONTESTED or LOST record merged into the
candidate of the same version, or made a candidate: in the lowest free slot, or, with no room, in the slot of the lowest-ranked
candidate where it ranks above it.  The record then settles by quorum with a lead of 2, or is CONTESTED with two check_ok
candidates, or takes the result of a fusion, or is WEAK; a LOST one that does not settle stays LOST.  The order of entry is the
model's own: notes/assumptions/20.md, 21.md. -/
def Obligations.ReadingTaken : Prop :=
  (∀ (s : State) (ch : Chan) (c : Channel) (x : Reading) (rest : List Handed), s.channel ch = c →
    c.handed = .reading x :: rest →
    let taken : Channel := Channel.drive { c with handed := rest }
    let more : Bool := rest.any (fun h => match h with
      | .reading _ => true
      | .report _ => false)
    let popped : Channel :=
      if c.completing = true ∧ more = false then { taken with
        completing := false, pass := none, state := .holding, holdTimer := some 2000, stageTimer := none, recalStage := none }
      else taken
    ((∀ v, s.volume ch = some v → v.uid ≠ x.volume) → exec (.reading ch) s = .next (s.putChannel ch popped)) ∧
    ∀ v, s.volume ch = some v → v.uid = x.volume → mapOk .fresh v.records = true →
      ∃ (t : State) (w : Volume), exec (.reading ch) s = .next t ∧ t.volume ch = some w ∧ t.channel ch = popped.drive ∧
        t = { s with volumes := t.volumes, channels := t.channels, pool := t.pool, image := t.image } ∧
        (∀ k, k ≠ ch → t.channel k = s.channel k ∧ t.volume k = s.volume k) ∧
        w.serial = min 4294967295 (v.serial + 1) ∧ w.planner = v.planner ∧
        (∀ j, j ≠ x.sector → w.record j = v.record j) ∧
        (∀ k, k ≠ v.base + x.sector → areaOf t.image k = areaOf s.image k) ∧
        (∀ r, r = v.record x.sector →
          (r.state = .excluded → w.record x.sector = r ∧ t.pool = s.pool ∧ t.image = s.image) ∧
          (r.state ≠ .excluded → (w.record x.sector).reads = min 65535 (r.reads + 1) ∧
            (w.record x.sector).deletedSeen = (r.deletedSeen || decide (x.markClass = .deleted)) ∧
            (w.record x.sector).truncatedSeen = (r.truncatedSeen || x.truncated)) ∧
          (∀ info, r.state = .settled → r.settled = some info → t.pool = s.pool ∧
            (w.record x.sector).state = .settled ∧
            let same : Prop := (areaOf s.image (v.base + x.sector)).data.take x.data.length = x.data ∧
              info.markClass = x.markClass
            (same → (w.record x.sector).settled = some { info with matchCount := min 255 (info.matchCount + 1) } ∧
              (w.record x.sector).dissent = r.dissent ∧ (memoryOk s.image = true →
                let old := areaOf s.image (v.base + x.sector)
                let raised := List.zipWith max (old.confidences.take x.data.length) x.confidences
                areaOf t.image (v.base + x.sector) =
                  { data := old.data, confidences := raised ++ old.confidences.drop raised.length })) ∧
            (¬ same → (w.record x.sector).settled = some info ∧ t.image = s.image ∧
              (w.record x.sector).dissent = (r.dissent || x.checkOk))) ∧
          (∀ slot free, r.state = .unseen → r.candidates = [] → s.pool.freeList = slot :: free →
            mapOk none s.pool.descriptors = true → memoryOk s.pool.memory = true → memoryOk s.image = true →
            x.confidences.length = x.data.length → 1 ≤ (s.chanProfile ch).quorum →
            (x.checkOk = false ∨ 1 < (s.chanProfile ch).quorum → (w.record x.sector).state = .weak ∧
              (w.record x.sector).candidates = [slot] ∧ (w.record x.sector).fusionArmed = true ∧
              t.pool.freeList = free ∧ t.image = s.image ∧ t.pool.data slot x.data.length = x.data ∧
              t.pool.descriptor slot = some
                { volume := x.volume, sector := x.sector, markClass := x.markClass, checkOk := x.checkOk, origin := .read
                  matchCount := 1, score := x.confidences.sum, serial := w.serial, markByte := x.markByte
                  recordedCheck := x.recordedCheck, entered := s.pool.entries }) ∧
            (x.checkOk = true → (s.chanProfile ch).quorum = 1 → (w.record x.sector).state = .settled ∧
              (w.record x.sector).candidates = [] ∧ (w.record x.sector).settled =
                some { by_ := .quorum, markClass := x.markClass, pass := x.passNumber, matchCount := 1 } ∧
              (areaOf t.image (v.base + x.sector)).data.take x.data.length = x.data ∧
              t.pool.freeList = insertAsc free slot)) ∧
          (r.state = .unseen ∨ r.state = .weak ∨ r.state = .contested ∨ r.state = .lost →
            let e : ReadingEnv :=
              { channel := ch, profile := s.chanProfile ch, serial := w.serial, recordNumber := v.base + x.sector, reading := x }
            let counted : SectorRecord := { r with
              reads := min 65535 (r.reads + 1), deletedSeen := r.deletedSeen || decide (x.markClass = .deleted)
              truncatedSeen := r.truncatedSeen || x.truncated }
            let y := (Work.mergeOrForm { record := counted, pool := s.pool, image := s.image } e).evaluate e
            w.record x.sector = y.record ∧ t.pool = y.pool ∧ t.image = y.image))) ∧
  (∀ (k : Work) (e : ReadingEnv), mapOk none k.pool.descriptors = true → memoryOk k.pool.memory = true →
    let x := e.reading
    let L := x.data.length
    x.confidences.length = L →
    let stored (a b : Pool) (slot : Nat) (c : Candidate) (area : Area) : Prop :=
      b.descriptor slot = some c ∧ areaOf b.memory slot = area ∧
        ∀ n, n ≠ slot → b.descriptor n = a.descriptor n ∧ areaOf b.memory n = areaOf a.memory n
    let ranked (p : Pool) (slots : List Nat) : Prop := slots.Pairwise (fun a b => p.slotAbove b a = false)
    let version (slot : Nat) (c : Candidate) : Prop := k.pool.descriptor slot = some c ∧ c.markClass = x.markClass ∧
      (areaOf k.pool.memory slot).data.take L = x.data
    let fresh : Candidate :=
      { volume := x.volume, sector := x.sector, markClass := x.markClass, checkOk := x.checkOk, origin := .read
        matchCount := 1, score := x.confidences.sum, serial := e.serial, markByte := x.markByte
        recordedCheck := x.recordedCheck, entered := k.pool.entries }
    let written (slot : Nat) : Area :=
      { data := x.data ++ (areaOf k.pool.memory slot).data.drop L
        confidences := x.confidences ++ (areaOf k.pool.memory slot).confidences.drop L }
    let y := k.mergeOrForm e
    y.image = k.image ∧
    (∀ slot ∈ k.record.candidates, ∀ c, version slot c →
      (∀ other ∈ k.record.candidates, other ≠ slot → ∀ d, ¬ version other d) →
      let old := areaOf k.pool.memory slot
      let raised := List.zipWith max (old.confidences.take L) x.confidences
      stored k.pool y.pool slot
        { c with matchCount := min 255 (c.matchCount + 1), score := raised.sum, checkOk := c.checkOk || x.checkOk }
        { data := old.data, confidences := raised ++ old.confidences.drop raised.length } ∧
      y.pool.freeList = k.pool.freeList ∧
      y.record = { k.record with candidates := y.record.candidates, fusionArmed := true } ∧
      y.record.candidates.Perm k.record.candidates ∧ ranked y.pool y.record.candidates) ∧
    ((∀ slot ∈ k.record.candidates, ∀ c, ¬ version slot c) →
      (∀ slot free, k.record.candidates.length < 4 → k.pool.freeList = slot :: free →
        stored k.pool y.pool slot fresh (written slot) ∧ y.pool.freeList = free ∧
        y.record = { k.record with candidates := y.record.candidates, fusionArmed := true } ∧
        y.record.candidates.Perm (slot :: k.record.candidates) ∧ ranked y.pool y.record.candidates) ∧
      (4 ≤ k.record.candidates.length ∨ k.pool.freeList = [] →
        (∀ before slot c, k.record.candidates = before ++ [slot] → k.pool.descriptor slot = some c →
          (ranksAbove fresh c = true → stored k.pool y.pool slot fresh (written slot) ∧
            y.pool.freeList = k.pool.freeList ∧ y.record = { k.record with
              candidates := y.record.candidates, fusionArmed := true, overflowed := true } ∧
            y.record.candidates.Perm k.record.candidates ∧ ranked y.pool y.record.candidates) ∧
          (ranksAbove fresh c = false → y.pool = k.pool ∧ y.record = { k.record with overflowed := true })) ∧
        (k.record.candidates = [] → y.pool = k.pool ∧ y.record = { k.record with overflowed := true })))) ∧
  ∀ (k : Work) (e : ReadingEnv), mapOk none k.pool.descriptors = true → memoryOk k.pool.memory = true →
    memoryOk k.image = true → (∀ slot ∈ k.record.candidates, k.pool.descriptor slot ≠ none) →
    let x := e.reading
    let L := x.data.length
    let held := k.record.candidates
    let ok (slot : Nat) : Prop := ∃ c, k.pool.descriptor slot = some c ∧ c.checkOk = true
    let leads (slot : Nat) (c : Candidate) : Prop := slot ∈ held ∧ k.pool.descriptor slot = some c ∧ c.checkOk = true ∧
      e.profile.quorum ≤ c.matchCount ∧ ∀ other ∈ held, other ≠ slot → ∀ d, k.pool.descriptor other = some d →
        d.checkOk = true → d.matchCount + 2 ≤ c.matchCount
    let open_ (st : RecordState) : RecordState := if k.record.state = .lost then .lost else st
    let settledAs (y : Work) (data : List Byte) (confidences : List Nat) (info : SettledInfo) : Prop :=
      y.record = { k.record with state := .settled, candidates := [], fusionArmed := false, settled := some info } ∧
        (∀ n, y.pool.descriptor n = if n ∈ held then none else k.pool.descriptor n) ∧
        (∀ n, n ∈ y.pool.freeList ↔ n ∈ held ∨ n ∈ k.pool.freeList) ∧ y.pool.memory = k.pool.memory ∧
        (∀ n, areaOf y.image n = if n = e.recordNumber then
          { data := data ++ (areaOf k.image n).data.drop data.length
            confidences := confidences ++ (areaOf k.image n).confidences.drop confidences.length }
          else areaOf k.image n)
    let y := k.evaluate e
    (∀ slot c, leads slot c → settledAs y ((areaOf k.pool.memory slot).data.take L)
      ((areaOf k.pool.memory slot).confidences.take L)
      { by_ := .quorum, markClass := c.markClass, pass := x.passNumber, matchCount := c.matchCount }) ∧
    ((∀ slot c, ¬ leads slot c) →
      (∀ a ∈ held, ∀ b ∈ held, a ≠ b → ok a → ok b →
        y = { k with record := { k.record with state := open_ .contested } }) ∧
      (held = [] → y = k) ∧
      (∀ a ∈ held, held.Nodup → ok a → (∀ b ∈ held, b ≠ a → ¬ ok b) →
        y = { k with record := { k.record with state := open_ .weak } }) ∧
      (held ≠ [] → (∀ a ∈ held, ¬ ok a) → held.length < 3 ∨ k.record.fusionArmed = false →
        y = { k with record := { k.record with state := open_ .weak } }) ∧
      ((∀ a ∈ held, ¬ ok a) → 3 ≤ held.length → k.record.fusionArmed = true →
        let fused := k.pool.fuse e.profile x.volume x.sector L held
        let version (slot : Nat) (c : Candidate) : Prop := k.pool.descriptor slot = some c ∧
          c.markClass = fused.markClass ∧ (areaOf k.pool.memory slot).data.take fused.data.length = fused.data
        y.pool.scratch = qset k.pool.scratch e.channel none ∧
        (fused.result ≠ .good → y = { k with
          pool := { k.pool with scratch := y.pool.scratch }
          record := { k.record with fusionArmed := false, state := open_ .weak } }) ∧
        (fused.result = .good →
          (∀ slot ∈ held, ∀ c, version slot c → (∀ b ∈ held, b ≠ slot → ∀ d, ¬ version b d) →
            (e.profile.fusionSettles = true → settledAs y fused.data fused.confidences
              { by_ := .fusion, markClass := fused.markClass, pass := x.passNumber, matchCount := c.matchCount }) ∧
            (e.profile.fusionSettles = false → y.pool.freeList = k.pool.freeList ∧ y.pool.memory = k.pool.memory ∧
              (∀ n, y.pool.descriptor n = if n = slot then some { c with checkOk := true } else k.pool.descriptor n) ∧
              y.image = k.image ∧ y.record = { k.record with
                candidates := y.record.candidates, fusionArmed := false, state := open_ .weak } ∧
              y.record.candidates.Perm held)) ∧
          ((∀ slot ∈ held, ∀ c, ¬ version slot c) →
            (e.profile.fusionSettles = true → settledAs y fused.data fused.confidences
              { by_ := .fusion, markClass := fused.markClass, pass := x.passNumber, matchCount := 1 }) ∧
            (e.profile.fusionSettles = false →
              let entered (slot : Nat) : Prop :=
                (∀ n, y.pool.descriptor n = if n = slot then some
                  { volume := x.volume, sector := x.sector, markClass := fused.markClass, checkOk := true, origin := .fused
                    matchCount := 0, score := fused.confidences.sum, serial := e.serial, markByte := fused.markByte
                    recordedCheck := fused.check, entered := k.pool.entries } else k.pool.descriptor n) ∧
                (∀ n, areaOf y.pool.memory n = if n = slot then
                  { data := fused.data ++ (areaOf k.pool.memory n).data.drop fused.data.length
                    confidences := fused.confidences ++ (areaOf k.pool.memory n).confidences.drop fused.confidences.length }
                  else areaOf k.pool.memory n) ∧
                y.image = k.image ∧ ∃ rest, y.record.candidates = slot :: rest
              (∀ slot free, held.length < 4 → k.pool.freeList = slot :: free → slot ∉ held → entered slot ∧
                y.pool.freeList = free ∧ y.record.candidates.Perm (slot :: held) ∧ y.record = { k.record with
                  candidates := y.record.candidates, fusionArmed := false, state := open_ .weak }) ∧
              (∀ before slot, 4 ≤ held.length ∨ k.pool.freeList = [] → held = before ++ [slot] → slot ∉ before → entered slot ∧
                y.pool.freeList = k.pool.freeList ∧ y.record.candidates.Perm held ∧ y.record = { k.record with
                  candidates := y.record.candidates, fusionArmed := false, state := open_ .weak, overflowed := true }))))))
end

