-- ==== Sys2Proof/Laws/Codes.lean ====
section
/-! SUPPORT. The CRC16 taken piece by piece, so that a long check is evaluated in short ones. -/

namespace Sys2Proof.Machine

/-- The CRC16 of two pieces: the second goes on from the first. -/
theorem crc16_append (preset : Nat) (a b : List Byte) : crc16 preset (a ++ b) = crc16 (crc16 preset a) b := by
  simp [crc16, List.foldl_append]

/-- The CRC16 is a 16-bit number. -/
theorem crc16_lt (preset : Nat) (bytes : List Byte) : crc16 preset bytes < 65536 := by
  unfold crc16
  omega

/-- A check in a run of pieces, each going on from the one before. -/
theorem crc16_step {preset n : Nat} {a b : List Byte} (h : crc16 preset a = n) : crc16 preset (a ++ b) = crc16 n b := by
  rw [crc16_append, h]

end Sys2Proof.Machine
end

