-- ==== Sys2Proof/Laws/State.lean ====
section
/-! SUPPORT. One lemma per field per update of the state, so that no later proof unfolds a record update. -/

namespace Sys2Proof.Machine

/-! ## Four of a kind -/

@[simp] theorem qget_qset_same {α : Type} (q : Quad α) (i : Chan) (x : α) : qget (qset q i x) i = x := by
  match i with
  | 0 => rfl
  | 1 => rfl
  | 2 => rfl
  | 3 => rfl

theorem qget_qset_ne {α : Type} (q : Quad α) (i j : Chan) (x : α) (h : j ≠ i) : qget (qset q i x) j = qget q j := by
  match i, j with
  | 0, 0 | 1, 1 | 2, 2 | 3, 3 => exact absurd rfl h
  | 0, 1 | 0, 2 | 0, 3 | 1, 0 | 1, 2 | 1, 3 | 2, 0 | 2, 1 | 2, 3 | 3, 0 | 3, 1 | 3, 2 => rfl

@[simp] theorem qset_qset {α : Type} (q : Quad α) (i : Chan) (x y : α) : qset (qset q i x) i y = qset q i y := by
  match i with
  | 0 => rfl
  | 1 => rfl
  | 2 => rfl
  | 3 => rfl

@[simp] theorem qset_qget {α : Type} (q : Quad α) (i : Chan) : qset q i (qget q i) = q := by
  match i with
  | 0 => rfl
  | 1 => rfl
  | 2 => rfl
  | 3 => rfl

@[simp] theorem qget_qmap {α β : Type} (f : α → β) (q : Quad α) (i : Chan) : qget (qmap f q) i = f (qget q i) := by
  match i with
  | 0 => rfl
  | 1 => rfl
  | 2 => rfl
  | 3 => rfl

/-! ## Fields after updates -/

@[simp] theorem State.setLink_pending (s : State) (l : Link) : (s.setLink l).pending = s.pending := rfl
@[simp] theorem State.setLink_link (s : State) (l : Link) : (s.setLink l).link = l := rfl
@[simp] theorem State.setLink_selfTest (s : State) (l : Link) : (s.setLink l).selfTest = s.selfTest := rfl
@[simp] theorem State.setLink_slots (s : State) (l : Link) : (s.setLink l).slots = s.slots := rfl
@[simp] theorem State.setLink_channels (s : State) (l : Link) : (s.setLink l).channels = s.channels := rfl
@[simp] theorem State.setLink_volumes (s : State) (l : Link) : (s.setLink l).volumes = s.volumes := rfl
@[simp] theorem State.setLink_image (s : State) (l : Link) : (s.setLink l).image = s.image := rfl
@[simp] theorem State.setLink_pool (s : State) (l : Link) : (s.setLink l).pool = s.pool := rfl
@[simp] theorem State.setLink_fetches (s : State) (l : Link) : (s.setLink l).fetches = s.fetches := rfl
@[simp] theorem State.setLink_nextVolume (s : State) (l : Link) : (s.setLink l).nextVolume = s.nextVolume := rfl
@[simp] theorem State.setLink_races (s : State) (l : Link) : (s.setLink l).races = s.races := rfl
@[simp] theorem State.setLink_channel (s : State) (l : Link) (j : Chan) : (s.setLink l).channel j = s.channel j := rfl
@[simp] theorem State.setLink_volume (s : State) (l : Link) (j : Chan) : (s.setLink l).volume j = s.volume j := rfl

@[simp] theorem State.setSlots_pending (s : State) (l : List ProfileSlot) : (s.setSlots l).pending = s.pending := rfl
@[simp] theorem State.setSlots_link (s : State) (l : List ProfileSlot) : (s.setSlots l).link = s.link := rfl
@[simp] theorem State.setSlots_selfTest (s : State) (l : List ProfileSlot) : (s.setSlots l).selfTest = s.selfTest := rfl
@[simp] theorem State.setSlots_slots (s : State) (l : List ProfileSlot) : (s.setSlots l).slots = l := rfl
@[simp] theorem State.setSlots_channels (s : State) (l : List ProfileSlot) : (s.setSlots l).channels = s.channels := rfl
@[simp] theorem State.setSlots_volumes (s : State) (l : List ProfileSlot) : (s.setSlots l).volumes = s.volumes := rfl
@[simp] theorem State.setSlots_image (s : State) (l : List ProfileSlot) : (s.setSlots l).image = s.image := rfl
@[simp] theorem State.setSlots_pool (s : State) (l : List ProfileSlot) : (s.setSlots l).pool = s.pool := rfl
@[simp] theorem State.setSlots_fetches (s : State) (l : List ProfileSlot) : (s.setSlots l).fetches = s.fetches := rfl
@[simp] theorem State.setSlots_nextVolume (s : State) (l : List ProfileSlot) : (s.setSlots l).nextVolume = s.nextVolume := rfl
@[simp] theorem State.setSlots_races (s : State) (l : List ProfileSlot) : (s.setSlots l).races = s.races := rfl
@[simp] theorem State.setSlots_channel (s : State) (l : List ProfileSlot) (j : Chan) : (s.setSlots l).channel j = s.channel j := rfl
@[simp] theorem State.setSlots_volume (s : State) (l : List ProfileSlot) (j : Chan) : (s.setSlots l).volume j = s.volume j := rfl

@[simp] theorem State.setVolume_pending (s : State) (ch : Chan) (v : Option Volume) : (s.setVolume ch v).pending = s.pending := rfl
@[simp] theorem State.setVolume_link (s : State) (ch : Chan) (v : Option Volume) : (s.setVolume ch v).link = s.link := rfl
@[simp] theorem State.setVolume_selfTest (s : State) (ch : Chan) (v : Option Volume) : (s.setVolume ch v).selfTest = s.selfTest := rfl
@[simp] theorem State.setVolume_slots (s : State) (ch : Chan) (v : Option Volume) : (s.setVolume ch v).slots = s.slots := rfl
@[simp] theorem State.setVolume_channels (s : State) (ch : Chan) (v : Option Volume) : (s.setVolume ch v).channels = s.channels := rfl
@[simp] theorem State.setVolume_volumes (s : State) (ch : Chan) (v : Option Volume) : (s.setVolume ch v).volumes = qset s.volumes ch v := rfl
@[simp] theorem State.setVolume_image (s : State) (ch : Chan) (v : Option Volume) : (s.setVolume ch v).image = s.image := rfl
@[simp] theorem State.setVolume_pool (s : State) (ch : Chan) (v : Option Volume) : (s.setVolume ch v).pool = s.pool := rfl
@[simp] theorem State.setVolume_fetches (s : State) (ch : Chan) (v : Option Volume) : (s.setVolume ch v).fetches = s.fetches := rfl
@[simp] theorem State.setVolume_nextVolume (s : State) (ch : Chan) (v : Option Volume) : (s.setVolume ch v).nextVolume = s.nextVolume := rfl
@[simp] theorem State.setVolume_races (s : State) (ch : Chan) (v : Option Volume) : (s.setVolume ch v).races = s.races := rfl
@[simp] theorem State.setVolume_channel (s : State) (ch : Chan) (v : Option Volume) (j : Chan) : (s.setVolume ch v).channel j = s.channel j := rfl

@[simp] theorem State.setPool_pending (s : State) (p : Pool) : (s.setPool p).pending = s.pending := rfl
@[simp] theorem State.setPool_link (s : State) (p : Pool) : (s.setPool p).link = s.link := rfl
@[simp] theorem State.setPool_selfTest (s : State) (p : Pool) : (s.setPool p).selfTest = s.selfTest := rfl
@[simp] theorem State.setPool_slots (s : State) (p : Pool) : (s.setPool p).slots = s.slots := rfl
@[simp] theorem State.setPool_channels (s : State) (p : Pool) : (s.setPool p).channels = s.channels := rfl
@[simp] theorem State.setPool_volumes (s : State) (p : Pool) : (s.setPool p).volumes = s.volumes := rfl
@[simp] theorem State.setPool_image (s : State) (p : Pool) : (s.setPool p).image = s.image := rfl
@[simp] theorem State.setPool_pool (s : State) (p : Pool) : (s.setPool p).pool = p := rfl
@[simp] theorem State.setPool_fetches (s : State) (p : Pool) : (s.setPool p).fetches = s.fetches := rfl
@[simp] theorem State.setPool_nextVolume (s : State) (p : Pool) : (s.setPool p).nextVolume = s.nextVolume := rfl
@[simp] theorem State.setPool_races (s : State) (p : Pool) : (s.setPool p).races = s.races := rfl
@[simp] theorem State.setPool_channel (s : State) (p : Pool) (j : Chan) : (s.setPool p).channel j = s.channel j := rfl
@[simp] theorem State.setPool_volume (s : State) (p : Pool) (j : Chan) : (s.setPool p).volume j = s.volume j := rfl

@[simp] theorem State.setImage_pending (s : State) (m : SMap Area) : (s.setImage m).pending = s.pending := rfl
@[simp] theorem State.setImage_link (s : State) (m : SMap Area) : (s.setImage m).link = s.link := rfl
@[simp] theorem State.setImage_selfTest (s : State) (m : SMap Area) : (s.setImage m).selfTest = s.selfTest := rfl
@[simp] theorem State.setImage_slots (s : State) (m : SMap Area) : (s.setImage m).slots = s.slots := rfl
@[simp] theorem State.setImage_channels (s : State) (m : SMap Area) : (s.setImage m).channels = s.channels := rfl
@[simp] theorem State.setImage_volumes (s : State) (m : SMap Area) : (s.setImage m).volumes = s.volumes := rfl
@[simp] theorem State.setImage_image (s : State) (m : SMap Area) : (s.setImage m).image = m := rfl
@[simp] theorem State.setImage_pool (s : State) (m : SMap Area) : (s.setImage m).pool = s.pool := rfl
@[simp] theorem State.setImage_fetches (s : State) (m : SMap Area) : (s.setImage m).fetches = s.fetches := rfl
@[simp] theorem State.setImage_nextVolume (s : State) (m : SMap Area) : (s.setImage m).nextVolume = s.nextVolume := rfl
@[simp] theorem State.setImage_races (s : State) (m : SMap Area) : (s.setImage m).races = s.races := rfl
@[simp] theorem State.setImage_channel (s : State) (m : SMap Area) (j : Chan) : (s.setImage m).channel j = s.channel j := rfl
@[simp] theorem State.setImage_volume (s : State) (m : SMap Area) (j : Chan) : (s.setImage m).volume j = s.volume j := rfl

@[simp] theorem State.setFetches_pending (s : State) (l : List FetchEntry) : (s.setFetches l).pending = s.pending := rfl
@[simp] theorem State.setFetches_link (s : State) (l : List FetchEntry) : (s.setFetches l).link = s.link := rfl
@[simp] theorem State.setFetches_selfTest (s : State) (l : List FetchEntry) : (s.setFetches l).selfTest = s.selfTest := rfl
@[simp] theorem State.setFetches_slots (s : State) (l : List FetchEntry) : (s.setFetches l).slots = s.slots := rfl
@[simp] theorem State.setFetches_channels (s : State) (l : List FetchEntry) : (s.setFetches l).channels = s.channels := rfl
@[simp] theorem State.setFetches_volumes (s : State) (l : List FetchEntry) : (s.setFetches l).volumes = s.volumes := rfl
@[simp] theorem State.setFetches_image (s : State) (l : List FetchEntry) : (s.setFetches l).image = s.image := rfl
@[simp] theorem State.setFetches_pool (s : State) (l : List FetchEntry) : (s.setFetches l).pool = s.pool := rfl
@[simp] theorem State.setFetches_fetches (s : State) (l : List FetchEntry) : (s.setFetches l).fetches = l := rfl
@[simp] theorem State.setFetches_nextVolume (s : State) (l : List FetchEntry) : (s.setFetches l).nextVolume = s.nextVolume := rfl
@[simp] theorem State.setFetches_races (s : State) (l : List FetchEntry) : (s.setFetches l).races = s.races := rfl
@[simp] theorem State.setFetches_channel (s : State) (l : List FetchEntry) (j : Chan) : (s.setFetches l).channel j = s.channel j := rfl
@[simp] theorem State.setFetches_volume (s : State) (l : List FetchEntry) (j : Chan) : (s.setFetches l).volume j = s.volume j := rfl

@[simp] theorem State.setPending_pending (s : State) (l : List Instr) : (s.setPending l).pending = l := rfl
@[simp] theorem State.setPending_link (s : State) (l : List Instr) : (s.setPending l).link = s.link := rfl
@[simp] theorem State.setPending_selfTest (s : State) (l : List Instr) : (s.setPending l).selfTest = s.selfTest := rfl
@[simp] theorem State.setPending_slots (s : State) (l : List Instr) : (s.setPending l).slots = s.slots := rfl
@[simp] theorem State.setPending_channels (s : State) (l : List Instr) : (s.setPending l).channels = s.channels := rfl
@[simp] theorem State.setPending_volumes (s : State) (l : List Instr) : (s.setPending l).volumes = s.volumes := rfl
@[simp] theorem State.setPending_image (s : State) (l : List Instr) : (s.setPending l).image = s.image := rfl
@[simp] theorem State.setPending_pool (s : State) (l : List Instr) : (s.setPending l).pool = s.pool := rfl
@[simp] theorem State.setPending_fetches (s : State) (l : List Instr) : (s.setPending l).fetches = s.fetches := rfl
@[simp] theorem State.setPending_nextVolume (s : State) (l : List Instr) : (s.setPending l).nextVolume = s.nextVolume := rfl
@[simp] theorem State.setPending_races (s : State) (l : List Instr) : (s.setPending l).races = s.races := rfl
@[simp] theorem State.setPending_channel (s : State) (l : List Instr) (j : Chan) : (s.setPending l).channel j = s.channel j := rfl
@[simp] theorem State.setPending_volume (s : State) (l : List Instr) (j : Chan) : (s.setPending l).volume j = s.volume j := rfl

@[simp] theorem State.putChannel_pending (s : State) (ch : Chan) (c : Channel) : (s.putChannel ch c).pending = s.pending := rfl
@[simp] theorem State.putChannel_link (s : State) (ch : Chan) (c : Channel) : (s.putChannel ch c).link = s.link := rfl
@[simp] theorem State.putChannel_selfTest (s : State) (ch : Chan) (c : Channel) : (s.putChannel ch c).selfTest = s.selfTest := rfl
@[simp] theorem State.putChannel_slots (s : State) (ch : Chan) (c : Channel) : (s.putChannel ch c).slots = s.slots := rfl
@[simp] theorem State.putChannel_channels (s : State) (ch : Chan) (c : Channel) : (s.putChannel ch c).channels = qset s.channels ch c.drive := rfl
@[simp] theorem State.putChannel_volumes (s : State) (ch : Chan) (c : Channel) : (s.putChannel ch c).volumes = s.volumes := rfl
@[simp] theorem State.putChannel_image (s : State) (ch : Chan) (c : Channel) : (s.putChannel ch c).image = s.image := rfl
@[simp] theorem State.putChannel_pool (s : State) (ch : Chan) (c : Channel) : (s.putChannel ch c).pool = s.pool := rfl
@[simp] theorem State.putChannel_fetches (s : State) (ch : Chan) (c : Channel) : (s.putChannel ch c).fetches = s.fetches := rfl
@[simp] theorem State.putChannel_nextVolume (s : State) (ch : Chan) (c : Channel) : (s.putChannel ch c).nextVolume = s.nextVolume := rfl
@[simp] theorem State.putChannel_races (s : State) (ch : Chan) (c : Channel) : (s.putChannel ch c).races = s.races := rfl
@[simp] theorem State.putChannel_volume (s : State) (ch : Chan) (c : Channel) (j : Chan) : (s.putChannel ch c).volume j = s.volume j := rfl

@[simp] theorem State.reply_pending (s : State) (id : Nat) (st : Status) (fs : List Byte) : (s.reply id st fs).pending = s.pending := rfl
@[simp] theorem State.reply_link (s : State) (id : Nat) (st : Status) (fs : List Byte) : (s.reply id st fs).link = s.link.reply s.fetching id st fs := rfl
@[simp] theorem State.reply_selfTest (s : State) (id : Nat) (st : Status) (fs : List Byte) : (s.reply id st fs).selfTest = s.selfTest := rfl
@[simp] theorem State.reply_slots (s : State) (id : Nat) (st : Status) (fs : List Byte) : (s.reply id st fs).slots = s.slots := rfl
@[simp] theorem State.reply_channels (s : State) (id : Nat) (st : Status) (fs : List Byte) : (s.reply id st fs).channels = s.channels := rfl
@[simp] theorem State.reply_volumes (s : State) (id : Nat) (st : Status) (fs : List Byte) : (s.reply id st fs).volumes = s.volumes := rfl
@[simp] theorem State.reply_image (s : State) (id : Nat) (st : Status) (fs : List Byte) : (s.reply id st fs).image = s.image := rfl
@[simp] theorem State.reply_pool (s : State) (id : Nat) (st : Status) (fs : List Byte) : (s.reply id st fs).pool = s.pool := rfl
@[simp] theorem State.reply_fetches (s : State) (id : Nat) (st : Status) (fs : List Byte) : (s.reply id st fs).fetches = s.fetches := rfl
@[simp] theorem State.reply_nextVolume (s : State) (id : Nat) (st : Status) (fs : List Byte) : (s.reply id st fs).nextVolume = s.nextVolume := rfl
@[simp] theorem State.reply_races (s : State) (id : Nat) (st : Status) (fs : List Byte) : (s.reply id st fs).races = s.races := rfl
@[simp] theorem State.reply_channel (s : State) (id : Nat) (st : Status) (fs : List Byte) (j : Chan) : (s.reply id st fs).channel j = s.channel j := rfl
@[simp] theorem State.reply_volume (s : State) (id : Nat) (st : Status) (fs : List Byte) (j : Chan) : (s.reply id st fs).volume j = s.volume j := rfl

@[simp] theorem State.notify_pending (s : State) (ch : Chan) (k : NoticeKind) (p : List Byte) : (s.notify ch k p).pending = s.pending := rfl
@[simp] theorem State.notify_link (s : State) (ch : Chan) (k : NoticeKind) (p : List Byte) : (s.notify ch k p).link = s.link.notify s.selfTest.partFailed ch k p := rfl
@[simp] theorem State.notify_selfTest (s : State) (ch : Chan) (k : NoticeKind) (p : List Byte) : (s.notify ch k p).selfTest = s.selfTest := rfl
@[simp] theorem State.notify_slots (s : State) (ch : Chan) (k : NoticeKind) (p : List Byte) : (s.notify ch k p).slots = s.slots := rfl
@[simp] theorem State.notify_channels (s : State) (ch : Chan) (k : NoticeKind) (p : List Byte) : (s.notify ch k p).channels = s.channels := rfl
@[simp] theorem State.notify_volumes (s : State) (ch : Chan) (k : NoticeKind) (p : List Byte) : (s.notify ch k p).volumes = s.volumes := rfl
@[simp] theorem State.notify_image (s : State) (ch : Chan) (k : NoticeKind) (p : List Byte) : (s.notify ch k p).image = s.image := rfl
@[simp] theorem State.notify_pool (s : State) (ch : Chan) (k : NoticeKind) (p : List Byte) : (s.notify ch k p).pool = s.pool := rfl
@[simp] theorem State.notify_fetches (s : State) (ch : Chan) (k : NoticeKind) (p : List Byte) : (s.notify ch k p).fetches = s.fetches := rfl
@[simp] theorem State.notify_nextVolume (s : State) (ch : Chan) (k : NoticeKind) (p : List Byte) : (s.notify ch k p).nextVolume = s.nextVolume := rfl
@[simp] theorem State.notify_races (s : State) (ch : Chan) (k : NoticeKind) (p : List Byte) : (s.notify ch k p).races = s.races := rfl
@[simp] theorem State.notify_channel (s : State) (ch : Chan) (k : NoticeKind) (p : List Byte) (j : Chan) : (s.notify ch k p).channel j = s.channel j := rfl
@[simp] theorem State.notify_volume (s : State) (ch : Chan) (k : NoticeKind) (p : List Byte) (j : Chan) : (s.notify ch k p).volume j = s.volume j := rfl

@[simp] theorem State.setLink_fetching (s : State) (l : Link) : (s.setLink l).fetching = s.fetching := rfl
@[simp] theorem State.setSlots_fetching (s : State) (l : List ProfileSlot) : (s.setSlots l).fetching = s.fetching := rfl
@[simp] theorem State.setVolume_fetching (s : State) (ch : Chan) (v : Option Volume) : (s.setVolume ch v).fetching = s.fetching := rfl
@[simp] theorem State.setPool_fetching (s : State) (p : Pool) : (s.setPool p).fetching = s.fetching := rfl
@[simp] theorem State.setImage_fetching (s : State) (m : SMap Area) : (s.setImage m).fetching = s.fetching := rfl
@[simp] theorem State.putChannel_fetching (s : State) (ch : Chan) (c : Channel) : (s.putChannel ch c).fetching = s.fetching := rfl
@[simp] theorem State.reply_fetching (s : State) (id : Nat) (st : Status) (fs : List Byte) : (s.reply id st fs).fetching = s.fetching := rfl
@[simp] theorem State.notify_fetching (s : State) (ch : Chan) (k : NoticeKind) (p : List Byte) : (s.notify ch k p).fetching = s.fetching := rfl
@[simp] theorem State.setFetches_fetching (s : State) (l : List FetchEntry) : (s.setFetches l).fetching = !l.isEmpty := rfl

@[simp] theorem State.putChannel_channel (s : State) (ch : Chan) (c : Channel) : (s.putChannel ch c).channel ch = c.drive :=
  qget_qset_same _ _ _

theorem State.putChannel_channel_ne (s : State) (ch k : Chan) (c : Channel) (h : k ≠ ch) :
    (s.putChannel ch c).channel k = s.channel k := qget_qset_ne _ _ _ _ h

@[simp] theorem State.setVolume_volume (s : State) (ch : Chan) (v : Option Volume) : (s.setVolume ch v).volume ch = v :=
  qget_qset_same _ _ _

theorem State.setVolume_volume_ne (s : State) (ch k : Chan) (v : Option Volume) (h : k ≠ ch) :
    (s.setVolume ch v).volume k = s.volume k := qget_qset_ne _ _ _ _ h

@[simp] theorem State.putChannel_putChannel (s : State) (ch : Chan) (c d : Channel) :
    (s.putChannel ch c).putChannel ch d = s.putChannel ch d := by
  simp [State.putChannel]

@[simp] theorem State.setVolume_setVolume (s : State) (ch : Chan) (v w : Option Volume) :
    (s.setVolume ch v).setVolume ch w = s.setVolume ch w := by
  simp [State.setVolume]

@[simp] theorem State.setLink_setLink (s : State) (l m : Link) : (s.setLink l).setLink m = s.setLink m := rfl

@[simp] theorem State.setLink_link_self (s : State) : s.setLink s.link = s := rfl

@[simp] theorem State.setFetches_self (s : State) : s.setFetches s.fetches = s := rfl

/-! ## The fields of a channel whose lines were driven (R25) -/

@[simp] theorem Channel.drive_outputs (c : Channel) : c.drive.outputs = outputsOf c := rfl

@[simp] theorem Channel.drive_state (c : Channel) : c.drive.state = c.state := rfl
@[simp] theorem Channel.drive_kind (c : Channel) : c.drive.kind = c.kind := rfl
@[simp] theorem Channel.drive_position (c : Channel) : c.drive.position = c.position := rfl
@[simp] theorem Channel.drive_positionKnown (c : Channel) : c.drive.positionKnown = c.positionKnown := rfl
@[simp] theorem Channel.drive_headSelected (c : Channel) : c.drive.headSelected = c.headSelected := rfl
@[simp] theorem Channel.drive_tapeEnd (c : Channel) : c.drive.tapeEnd = c.tapeEnd := rfl
@[simp] theorem Channel.drive_offset (c : Channel) : c.drive.offset = c.offset := rfl
@[simp] theorem Channel.drive_sectorCounter (c : Channel) : c.drive.sectorCounter = c.sectorCounter := rfl
@[simp] theorem Channel.drive_faultCode (c : Channel) : c.drive.faultCode = c.faultCode := rfl
@[simp] theorem Channel.drive_faultCount (c : Channel) : c.drive.faultCount = c.faultCount := rfl
@[simp] theorem Channel.drive_holdTimer (c : Channel) : c.drive.holdTimer = c.holdTimer := rfl
@[simp] theorem Channel.drive_mediaSeen (c : Channel) : c.drive.mediaSeen = c.mediaSeen := rfl
@[simp] theorem Channel.drive_pass (c : Channel) : c.drive.pass = c.pass := rfl
@[simp] theorem Channel.drive_recal (c : Channel) : c.drive.recal = c.recal := rfl
@[simp] theorem Channel.drive_heldOrder (c : Channel) : c.drive.heldOrder = c.heldOrder := rfl
@[simp] theorem Channel.drive_dirAsserted (c : Channel) : c.drive.dirAsserted = c.dirAsserted := rfl
@[simp] theorem Channel.drive_moved (c : Channel) : c.drive.moved = c.moved := rfl
@[simp] theorem Channel.drive_pulses (c : Channel) : c.drive.pulses = c.pulses := rfl
@[simp] theorem Channel.drive_recalStage (c : Channel) : c.drive.recalStage = c.recalStage := rfl
@[simp] theorem Channel.drive_stageTimer (c : Channel) : c.drive.stageTimer = c.stageTimer := rfl
@[simp] theorem Channel.drive_counter (c : Channel) : c.drive.counter = c.counter := rfl
@[simp] theorem Channel.drive_completing (c : Channel) : c.drive.completing = c.completing := rfl
@[simp] theorem Channel.drive_probe (c : Channel) : c.drive.probe = c.probe := rfl
@[simp] theorem Channel.drive_inputs (c : Channel) : c.drive.inputs = c.inputs := rfl
@[simp] theorem Channel.drive_separator (c : Channel) : c.drive.separator = c.separator := rfl
@[simp] theorem Channel.drive_decoder (c : Channel) : c.drive.decoder = c.decoder := rfl
@[simp] theorem Channel.drive_handed (c : Channel) : c.drive.handed = c.handed := rfl

/-- Driving the lines reads no output line and no pulse history, so the outputs of a driven channel are those its fields give. -/
theorem Channel.outputsOf_drive (c : Channel) : outputsOf c.drive = outputsOf c := rfl

/-! ## The four channels -/

/-- Every channel of a state after one was written: that one as written, the others as before. -/
theorem State.channel_putChannel (s : State) (ch k : Chan) (c : Channel) :
    (s.putChannel ch c).channel k = if k = ch then c.drive else s.channel k := by
  by_cases h : k = ch
  · subst h; simp
  · simp [h, State.putChannel_channel_ne]

/-- Every volume of a state after one was written. -/
theorem State.volume_setVolume (s : State) (ch k : Chan) (v : Option Volume) :
    (s.setVolume ch v).volume k = if k = ch then v else s.volume k := by
  by_cases h : k = ch
  · subst h; simp
  · simp [h, State.setVolume_volume_ne]

end Sys2Proof.Machine
end

