-- ==== Sys2Proof/Laws/Link.lean ====
section
/-! SUPPORT. What the Link Engine's operations can do: acceptance and answer in one equation each, and the reserve each keeps. -/

namespace Sys2Proof.Machine

/-! ## Frames of the queue operations -/

/-- Offering SUMMARY notices changes the outbound queue and the pending sets alone. -/
theorem Link.offerFrom_frame (l : Link) (chs : List Chan) :
    (l.offerFrom chs).requests = l.requests ∧ (l.offerFrom chs).nextId = l.nextId ∧
      (l.offerFrom chs).linkErrors = l.linkErrors ∧ (l.offerFrom chs).enumerated = l.enumerated ∧
      (l.offerFrom chs).restart = l.restart ∧ (l.offerFrom chs).received = l.received := by
  induction chs generalizing l with
  | nil => simp [Link.offerFrom]
  | cons ch rest ih =>
    unfold Link.offerFrom
    split
    · exact ih l
    · split
      · have h := ih { l.enqueue (summaryFrame ch (qget l.pendingSets ch)) with
          pendingSets := qset l.pendingSets ch .empty }
        simpa [Link.enqueue] using h
      · simp

theorem Link.offerSummaries_frame (l : Link) :
    l.offerSummaries.requests = l.requests ∧ l.offerSummaries.nextId = l.nextId ∧
      l.offerSummaries.linkErrors = l.linkErrors ∧ l.offerSummaries.enumerated = l.enumerated ∧
      l.offerSummaries.restart = l.restart ∧ l.offerSummaries.received = l.received := by
  unfold Link.offerSummaries
  split
  · exact l.offerFrom_frame _
  · simp

@[simp] theorem Link.offerSummaries_requests (l : Link) : l.offerSummaries.requests = l.requests := l.offerSummaries_frame.1
@[simp] theorem Link.offerSummaries_nextId (l : Link) : l.offerSummaries.nextId = l.nextId := l.offerSummaries_frame.2.1
@[simp] theorem Link.offerSummaries_linkErrors (l : Link) : l.offerSummaries.linkErrors = l.linkErrors :=
  l.offerSummaries_frame.2.2.1
@[simp] theorem Link.offerSummaries_enumerated (l : Link) : l.offerSummaries.enumerated = l.enumerated :=
  l.offerSummaries_frame.2.2.2.1
@[simp] theorem Link.offerSummaries_restart (l : Link) : l.offerSummaries.restart = l.restart :=
  l.offerSummaries_frame.2.2.2.2.1
@[simp] theorem Link.offerSummaries_received (l : Link) : l.offerSummaries.received = l.received :=
  l.offerSummaries_frame.2.2.2.2.2

/-- A report of room changes what an offering of SUMMARY notices changes, and the model's count of meetings. -/
theorem Link.reportRoom_cases (l : Link) (fetching : Bool) :
    l.reportRoom fetching = l.offerSummaries ∨
      (fetching = true ∧ l.summaryWaits = true ∧
        (l.reportRoom fetching = { l with meetings := l.meetings + 1 } ∨
          l.reportRoom fetching = Link.offerSummaries { l with meetings := l.meetings + 1 })) := by
  unfold Link.reportRoom
  split
  · next h =>
    simp only [Bool.and_eq_true] at h
    refine .inr ⟨h.1, h.2, ?_⟩
    dsimp only
    split
    · exact .inl rfl
    · exact .inr rfl
  · exact .inl rfl

/-- With no fetch in the queue a report of room offers the SUMMARY notices. -/
@[simp] theorem Link.reportRoom_false (l : Link) : l.reportRoom false = l.offerSummaries := by
  simp [Link.reportRoom]

theorem Link.reportRoom_frame (l : Link) (b : Bool) :
    (l.reportRoom b).requests = l.requests ∧ (l.reportRoom b).nextId = l.nextId ∧
      (l.reportRoom b).linkErrors = l.linkErrors ∧ (l.reportRoom b).enumerated = l.enumerated ∧
      (l.reportRoom b).restart = l.restart ∧ (l.reportRoom b).received = l.received := by
  rcases l.reportRoom_cases b with h | ⟨-, -, h | h⟩
  · rw [h]; exact l.offerSummaries_frame
  · rw [h]; simp
  · rw [h]; simp

@[simp] theorem Link.reportRoom_requests (l : Link) (b : Bool) : (l.reportRoom b).requests = l.requests :=
  (l.reportRoom_frame b).1
@[simp] theorem Link.reportRoom_nextId (l : Link) (b : Bool) : (l.reportRoom b).nextId = l.nextId :=
  (l.reportRoom_frame b).2.1
@[simp] theorem Link.reportRoom_linkErrors (l : Link) (b : Bool) : (l.reportRoom b).linkErrors = l.linkErrors :=
  (l.reportRoom_frame b).2.2.1
@[simp] theorem Link.reportRoom_enumerated (l : Link) (b : Bool) : (l.reportRoom b).enumerated = l.enumerated :=
  (l.reportRoom_frame b).2.2.2.1
@[simp] theorem Link.reportRoom_restart (l : Link) (b : Bool) : (l.reportRoom b).restart = l.restart :=
  (l.reportRoom_frame b).2.2.2.2.1
@[simp] theorem Link.reportRoom_received (l : Link) (b : Bool) : (l.reportRoom b).received = l.received :=
  (l.reportRoom_frame b).2.2.2.2.2

/-! ## Acceptance and answer -/

/-- What R160 does with a frame it accepts. -/
theorem Link.admit_accepted {s : State} {kind tag : Byte} {payload : List Byte} (h : Accepts s kind payload) :
    s.link.takeFrame s.selfTest.partFailed s.fetching kind tag payload = (s.link.accepted kind tag, some s.link.nextId) := by
  obtain ⟨a, b, hl, ha, hb⟩ := h.length
  have hroom := h.room
  have hfew := h.few
  have h1 : ¬ (payload.length < a ∨ b < payload.length) := by omega
  have h2 : ¬ (s.selfTest.partFailed = true ∧ kind ≠ 0x01 ∧ kind ≠ 0x03) := by
    rintro ⟨hf, h1, h3⟩
    rcases h.serves with h | h | h
    · simp [h] at hf
    · exact h1 h
    · exact h3 h
  have h3 : s.link.requests.length < 8 ∧ s.link.requests.length < 32 - s.link.outbound.length := by omega
  simp only [Link.takeFrame, Link.accepted, h.idle, hl, Link.unanswered, Link.free, Config.maxUnanswered, Config.outboundSize,
    ne_eq, not_true_eq_false, if_false, h1, h2, h3, and_self, if_true]

/-- An accepted request is served by its owner (R161). -/
theorem State.withRequest_accepted {s : State} {kind tag : Byte} {payload : List Byte} {serve : State → Nat → State}
    (h : Accepts s kind payload) :
    s.withRequest kind tag payload serve = serve (s.setLink (s.link.accepted kind tag)) s.link.nextId := by
  simp [State.withRequest, Link.admit_accepted h]

theorem find_fresh {l : List RequestEntry} {n : Nat} {r : RequestEntry} (h : ∀ x ∈ l, x.id < n) (hr : r.id = n) :
    (l ++ [r]).find? (fun x => x.id == n) = some r := by
  induction l with
  | nil => simp [hr]
  | cons x l ih =>
    have hx : x.id < n := h x (by simp)
    have : (x.id == n) = false := by simp; omega
    simp only [List.cons_append, List.find?_cons, this]
    exact ih (fun y hy => h y (by simp [hy]))

theorem erase_fresh {l : List RequestEntry} {n : Nat} {r : RequestEntry} (h : ∀ x ∈ l, x.id < n) (hr : r.id = n) :
    (l ++ [r]).eraseP (fun x => x.id == n) = l := by
  induction l with
  | nil => simp [hr]
  | cons x l ih =>
    have hx : x.id < n := h x (by simp)
    have : (x.id == n) = false := by simp; omega
    simp only [List.cons_append, List.eraseP_cons, this, cond_false, ih (fun y hy => h y (by simp [hy]))]

/-- The reply of the request accepted last (R161). -/
theorem Link.accepted_reply {l : Link} (h : l.idsFresh) (b : Bool) (kind tag : Byte) (status : Status) (fields : List Byte) :
    (l.accepted kind tag).reply b l.nextId status fields = l.answered b kind tag status fields := by
  have hf := find_fresh (r := { id := l.nextId, kind := kind, tag := tag }) h rfl
  have he := erase_fresh (r := { id := l.nextId, kind := kind, tag := tag }) h rfl
  simp only [Link.accepted, Link.reply, hf, he, Link.answered, Link.enqueue, replyFrame]

/-- A request accepted and answered at once, its owner having changed the rest of the state to `t`. -/
theorem State.accepted_reply {s t : State} (h : s.link.idsFresh) (kind tag : Byte) (status : Status) (fields : List Byte)
    (ht : t.link = s.link.accepted kind tag) :
    t.reply s.link.nextId status fields = t.setLink (s.link.answered t.fetching kind tag status fields) := by
  simp only [State.reply, ht, Link.accepted_reply h]

/-! ## The reserve (R160, R162) -/

theorem Link.enqueue_ok {l : Link} (h : l.ok) (hr : l.outbound.length + l.requests.length < 32) (f : OutFrame) :
    (l.enqueue f).ok := by
  obtain ⟨h1, h2, h3⟩ := h
  refine ⟨h1, ?_, h3⟩
  simp only [Link.enqueue, List.length_append, List.length_cons, List.length_nil]
  omega

theorem Link.noticeRoom_lt {l : Link} (h : l.noticeRoom = true) : l.outbound.length + l.requests.length < 32 := by
  have := of_decide_eq_true h
  simp only [Link.unanswered, Config.noticeReserve, Config.outboundSize] at this
  omega

theorem Link.offerFrom_ok {l : Link} (h : l.ok) (chs : List Chan) : (l.offerFrom chs).ok := by
  induction chs generalizing l with
  | nil => exact h
  | cons ch rest ih =>
    unfold Link.offerFrom
    split
    · exact ih h
    · split
      · next hr =>
        apply ih
        exact Link.enqueue_ok h (Link.noticeRoom_lt hr) _
      · exact h

theorem Link.offerSummaries_ok {l : Link} (h : l.ok) : l.offerSummaries.ok := by
  unfold Link.offerSummaries
  split
  · exact Link.offerFrom_ok h _
  · exact h

theorem Link.reportRoom_ok {l : Link} (h : l.ok) (b : Bool) : (l.reportRoom b).ok := by
  rcases l.reportRoom_cases b with e | ⟨-, -, e | e⟩
  · rw [e]; exact Link.offerSummaries_ok h
  · rw [e]; exact h
  · rw [e]; exact Link.offerSummaries_ok (l := { l with meetings := _ }) h

theorem Link.notify_ok {l : Link} (h : l.ok) (failed : Bool) (ch : Chan) (k : NoticeKind) (p : List Byte) :
    (l.notify failed ch k p).ok := by
  unfold Link.notify
  dsimp only
  split
  · exact h
  · split
    · exact h
    · split
      · split
        · next hr => exact Link.enqueue_ok h (Link.noticeRoom_lt hr) _
        · exact h
      · exact Link.offerSummaries_ok (l := { l with pendingSets := _ }) h

theorem Link.reply_ok {l : Link} (h : l.ok) (b : Bool) (id : Nat) (st : Status) (fs : List Byte) : (l.reply b id st fs).ok := by
  unfold Link.reply
  split
  · exact h
  · next r hr =>
    apply Link.reportRoom_ok
    obtain ⟨h1, h2, h3⟩ := h
    have hm : (l.requests.eraseP (fun x => x.id == id)).length + 1 = l.requests.length := by
      have := List.mem_of_find?_eq_some hr
      have hp := List.find?_some hr
      have he := List.length_eraseP_of_mem (p := fun x : RequestEntry => x.id == id) this hp
      have := List.length_pos_of_mem this
      omega
    refine ⟨?_, ?_, ?_⟩
    · simp only [Link.enqueue]; omega
    · simp only [Link.enqueue, List.length_append, List.length_cons, List.length_nil]; omega
    · intro x hx
      exact h3 x (List.mem_of_mem_eraseP hx)

theorem Link.refuse_ok {l : Link} (h : l.ok) (b : Bool) (kind tag : Byte) (st : Status) : (l.refuse b kind tag st).ok := by
  unfold Link.refuse
  split
  · next hr =>
    apply Link.reportRoom_ok
    apply Link.enqueue_ok h
    simp only [Link.unanswered, Link.free, Config.outboundSize] at hr
    omega
  · exact h

theorem Link.admit_ok {l : Link} (h : l.ok) (failed b : Bool) (kind tag : Byte) (p : List Byte) :
    (l.takeFrame failed b kind tag p).1.ok := by
  have h0 : Link.ok { l with received := [] } := h
  unfold Link.takeFrame
  dsimp only
  split
  · exact h0
  · split
    · exact Link.refuse_ok h0 _ _ _ _
    · split
      · exact Link.refuse_ok h0 _ _ _ _
      · split
        · exact Link.refuse_ok h0 _ _ _ _
        · split
          · next hr =>
            obtain ⟨h1, h2, h3⟩ := h0
            simp only [Link.unanswered, Link.free, Config.outboundSize, Config.maxUnanswered] at hr
            refine ⟨?_, ?_, ?_⟩
            · simp only [List.length_append, List.length_cons, List.length_nil]; omega
            · simp only [List.length_append, List.length_cons, List.length_nil]; omega
            · intro x hx
              simp only [List.mem_append, List.mem_singleton] at hx
              rcases hx with hx | rfl
              · exact Nat.lt_succ_of_lt (h3 x hx)
              · exact Nat.lt_succ_self _
          · exact Link.refuse_ok h0 _ _ _ _

theorem Link.entryLeft_ok {l : Link} (h : l.ok) (b : Bool) : (l.entryLeft b).ok := by
  unfold Link.entryLeft
  split
  · exact h
  · split
    · exact h
    · next f rest hq =>
      obtain ⟨h1, h2, h3⟩ := h
      have hr : Link.ok { l with outbound := rest } := by
        refine ⟨h1, ?_, h3⟩
        simp only [hq, List.length_cons] at h2
        simp only
        omega
      split
      · exact hr
      · exact Link.reportRoom_ok hr b

/-- The reserve after a link reset. -/
theorem Link.linkReset_ok (l : Link) : l.linkReset.ok := by
  refine ⟨by simp [Link.linkReset], by simp [Link.linkReset], ?_⟩
  intro r hr
  simp [Link.linkReset] at hr

end Sys2Proof.Machine
end

