-- ==== Sys2Proof/Laws/Maps.lean ====
section
/-! SUPPORT. The laws of the finite maps that hold memories, descriptors and records: reading after writing, and the canonical
form every write keeps. -/

namespace Sys2Proof.Machine

variable {α : Type} [DecidableEq α] {d : α}

/-- Below the lowest key nothing is listed. -/
theorem mapGet_below {m : SMap α} {lo k : Nat} (h : mapOkFrom d lo m = true) (hk : k < lo) : mapGet d m k = d := by
  induction m generalizing lo with
  | nil => rfl
  | cons e m ih =>
    obtain ⟨a, b⟩ := e
    simp only [mapOkFrom, Bool.and_eq_true, decide_eq_true_eq] at h
    have h1 : ¬ k = a := by omega
    simp only [mapGet, h1, if_false]
    exact ih h.2 (by omega)

/-- The canonical form from a higher bound is canonical from a lower one. -/
theorem mapOkFrom_mono {m : SMap α} {lo lo' : Nat} (h : mapOkFrom d lo m = true) (hl : lo' ≤ lo) :
    mapOkFrom d lo' m = true := by
  cases m with
  | nil => rfl
  | cons e m =>
    obtain ⟨a, b⟩ := e
    simp only [mapOkFrom, Bool.and_eq_true, decide_eq_true_eq] at h ⊢
    exact ⟨⟨by omega, h.1.2⟩, h.2⟩

/-- A write keeps the canonical form. -/
theorem mapOkFrom_mapSet {m : SMap α} {lo k : Nat} {v : α} (h : mapOkFrom d lo m = true) (hk : lo ≤ k) :
    mapOkFrom d lo (mapSet d m k v) = true := by
  induction m generalizing lo with
  | nil =>
    unfold mapSet
    split
    · rfl
    · next hv => simp [mapOkFrom, hk, hv]
  | cons e m ih =>
    obtain ⟨a, b⟩ := e
    simp only [mapOkFrom, Bool.and_eq_true, decide_eq_true_eq] at h
    unfold mapSet
    split
    · next hka =>
      split
      · simp only [mapOkFrom, Bool.and_eq_true, decide_eq_true_eq]; exact h
      · next hv =>
        simp only [mapOkFrom, Bool.and_eq_true, decide_eq_true_eq]
        exact ⟨⟨hk, hv⟩, ⟨by omega, h.1.2⟩, h.2⟩
    · split
      · next hka hke =>
        subst hke
        split
        · exact mapOkFrom_mono h.2 (by omega)
        · next hv =>
          simp only [mapOkFrom, Bool.and_eq_true, decide_eq_true_eq]
          exact ⟨⟨hk, hv⟩, h.2⟩
      · next hka hke =>
        simp only [mapOkFrom, Bool.and_eq_true, decide_eq_true_eq]
        exact ⟨h.1, ih h.2 (by omega)⟩

/-- Every map write keeps the canonical form. -/
theorem mapOk_mapSet {m : SMap α} (h : mapOk d m = true) (k : Nat) (v : α) : mapOk d (mapSet d m k v) = true :=
  mapOkFrom_mapSet h (Nat.zero_le k)

/-- Reading back what was written. -/
theorem mapGet_mapSet_from {m : SMap α} {lo : Nat} (h : mapOkFrom d lo m = true) (k : Nat) (v : α) :
    mapGet d (mapSet d m k v) k = v := by
  induction m generalizing lo with
  | nil =>
    unfold mapSet
    split
    · next hv => simp [mapGet, hv]
    · simp [mapGet]
  | cons e m ih =>
    obtain ⟨a, b⟩ := e
    simp only [mapOkFrom, Bool.and_eq_true, decide_eq_true_eq] at h
    unfold mapSet
    split
    · next hka =>
      split
      · next hv =>
        have h1 : ¬ k = a := by omega
        simp only [mapGet, h1, if_false]
        rw [hv]
        exact mapGet_below h.2 (by omega)
      · simp [mapGet]
    · split
      · next hka hke =>
        subst hke
        split
        · next hv => rw [hv]; exact mapGet_below h.2 (by omega)
        · simp [mapGet]
      · next hka hke =>
        simp only [mapGet, hke, if_false]
        exact ih h.2

theorem mapGet_mapSet_same {m : SMap α} (h : mapOk d m = true) (k : Nat) (v : α) : mapGet d (mapSet d m k v) k = v :=
  mapGet_mapSet_from h k v

/-- A write leaves every other key alone. -/
theorem mapGet_mapSet_ne {m : SMap α} {k j : Nat} (v : α) (hj : j ≠ k) : mapGet d (mapSet d m k v) j = mapGet d m j := by
  induction m with
  | nil =>
    unfold mapSet
    split
    · rfl
    · simp [mapGet, hj]
  | cons e m ih =>
    obtain ⟨a, b⟩ := e
    unfold mapSet
    split
    · split
      · rfl
      · simp [mapGet, hj]
    · split
      · next hka hke =>
        subst hke
        split
        · simp [mapGet, hj]
        · simp [mapGet, hj]
      · simp only [mapGet, ih]

/-! ## Areas of image and candidate memory (R90, R112, R114) -/

/-- Every area write keeps a memory's canonical form. -/
theorem writeArea_ok {m : SMap Area} (h : memoryOk m = true) (k : Nat) (data : List Byte) (confs : List Nat) :
    memoryOk (writeArea m k data confs) = true := mapOk_mapSet h _ _

/-- A write leaves every other area alone. -/
theorem areaOf_writeArea_ne (m : SMap Area) (k j : Nat) (data : List Byte) (confs : List Nat) (hj : j ≠ k) :
    areaOf (writeArea m k data confs) j = areaOf m j := mapGet_mapSet_ne _ hj

/-- The area written: its first positions are the new ones, the positions beyond are kept. -/
theorem areaOf_writeArea_same {m : SMap Area} (h : memoryOk m = true) (k : Nat) (data : List Byte) (confs : List Nat) :
    areaOf (writeArea m k data confs) k =
      { data := data ++ (areaOf m k).data.drop data.length
        confidences := confs ++ (areaOf m k).confidences.drop confs.length } := mapGet_mapSet_same h _ _

end Sys2Proof.Machine
end

