-- ==== Sys2Proof/Tests/Slice0.lean ====
section
/-! SUPPORT. Tests: the checks of WellFormed, one-step tests of every command whose expected results are worked from the spec, and
for every obligation with hypotheses a concrete state and operands that meet them (`witness_<Name>`). -/

namespace Sys2Proof.Tests

open Sys2Proof Sys2Proof.Machine

set_option Elab.async false

/-! ## Helpers -/

/-- The state after a command; the state before it where it does not go on. -/
def after (i : Instr) (s : State) : State :=
  match exec i s with
  | .next t => t
  | .fault _ => s
  | .refused _ => s

/-- The name DD35-9X512 of the example profile, padded. -/
def exampleName : List Byte := [0x44, 0x44, 0x33, 0x35, 0x2D, 0x39, 0x58, 0x35, 0x31, 0x32, 0x20, 0x20]

/-- The soft-sectored MFM profile DD35-9X512 that the spec's examples use: 80 cylinders, 2 heads, 9 sectors, L = 512. -/
def floppy : Profile := { noVolumeProfile with
  name := exampleName, medium := .floppySoft, encoding := .mfm, cellPeriod := 1280, window := 8, gain := 16
  cylinders := 80, heads := 2, sectors := 9, sectorPulses := 0, rpm := 300, laneTime := 1, spinUp := 500
  stepInterval := 3, settleTime := 15, syncLength := 16, syncPattern := 0x44890000, syncRepeat := 3
  headerMark := ⟨0xFE, 0x01⟩, dataMark := ⟨0xFB, 0x04⟩, deletedMark := ⟨0xF8, 0x07⟩, headerLength := 4, headerCheck := true
  cylField := ⟨0, 8, false⟩, headField := ⟨8, 8, false⟩, sectorField := ⟨16, 8, false⟩, sectorBase := 1
  dataLength := 512, checkType := .crc16, checkPreset := 0xFFFF, gcrTable := List.replicate 16 0
  dataGapLimit := 43, quorum := 2, trackPassBudget := 8, wearBudget := 100, offsetCapable := true }

/-- A cartridge profile after the example of section 4.9: MFM, XOR8, H = 2, L = 4, S = 64, reverse allowed. -/
def tape : Profile := { floppy with
  medium := .cartridge, cylinders := 8, heads := 1, sectors := 64, laneTime := 60, headerMark := ⟨0, 0⟩
  deletedMark := ⟨0, 0⟩, headerLength := 2, checkType := .xor8, checkPreset := 0, headField := ⟨0, 0, false⟩
  sectorField := ⟨8, 8, false⟩, sectorBase := 0, dataLength := 4, endLength := 16, endPattern := 0x44890000
  offsetCapable := false, reverseAllowed := true }

/-- A hard-sectored profile with 10 sector pulses and no headers. -/
def hard : Profile := { floppy with
  medium := .floppyHard, sectors := 10, sectorPulses := 10, headerMark := ⟨0, 0⟩, headerLength := 0
  headerCheck := false, cylField := ⟨0, 0, false⟩, headField := ⟨0, 0, false⟩, sectorField := ⟨0, 0, false⟩ }

/-- Lines with READY asserted alone. -/
def ready : Lines := { Lines.quiet with ready := true }

/-- An IDLE floppy channel with a ready drive. -/
def idleFloppy : Channel := { Channel.reset with state := .idle, inputs := ready }

/-- An IDLE cartridge channel with a seated cartridge at BOT and lane 0. -/
def idleTape : Channel := Channel.drive { Channel.reset with
  state := .idle, kind := .cartridge, inputs := { ready with kind := true, present := true, bot := true, lane0 := true } }

/-- The part with the three profiles held, two floppy drives, one cartridge drive, one channel without a drive, and the host
attached. -/
def part : State := { State.reset with
  link := { Link.reset with enumerated := true }
  slots := [⟨some floppy, 0⟩, ⟨some tape, 0⟩, ⟨some hard, 0⟩, .empty, .empty, .empty, .empty, .empty]
  channels := ⟨idleFloppy, idleFloppy, idleTape, .reset⟩ }

/-- The part with one channel changed. -/
def withChannel (ch : Chan) (f : Channel → Channel) (s : State) : State := s.putChannel ch (f (s.channel ch))

/-- A mounted volume of a slot's profile, its context changed by `f`. -/
def withVolume (ch : Chan) (slot : Nat) (p : Profile) (f : Volume → Volume) (s : State) : State :=
  ({ s with nextVolume := s.nextVolume + 1 }.setVolume ch
    (some (f (Volume.atMount s.nextVolume 0 { id := 0, slot := slot, volumeTag := 7, verbose := true } p)))).raiseUse slot

/-- The floppy part: DD35-9X512 mounted on channel 0, its context changed. -/
def floppyPart (f : Volume → Volume) : State := withVolume 0 0 floppy f part

/-- The cartridge part: the tape mounted on channel 2. -/
def tapePart (f : Volume → Volume) : State := withVolume 2 1 tape f part

/-- The hard-sectored part: mounted on channel 1. -/
def hardPart (f : Volume → Volume) : State := withVolume 1 2 hard f part

/-- A pass order of volume 0. -/
def order (track : Nat) (direction : Direction) : PassOrder :=
  { volume := 0, track := track, direction := direction, offset := .zero, revolutions := 1, gain := 16, window := 8
    passNumber := 1 }

/-- The pass of an order. -/
def passOf (track : Nat) (direction : Direction) : Pass := Pass.ofOrder (order track direction)

/-- A volume RUNNING with a track's order outstanding. -/
def runningOn (track : Nat) (v : Volume) : Volume :=
  (v.setTrackState track .active).setPlanner (fun a => { a with
    run := .running, currentTrack := track, outstanding := some track })

/-- A channel in a state with a pass in progress, position known. -/
def inPass (st : ChanState) (a : Pass) (c : Channel) : Channel :=
  { c with state := st, pass := some a, positionKnown := true }

/-- A channel capturing a pass. -/
def capturing (p : Profile) (a : Pass) (c : Channel) : Channel := (inPass .armed a c).startCapture p a

/-- A request entry and the RECAL flight that belongs to it. -/
def recalWaits (s : State) : State := s.setLink { s.link with
  requests := [{ id := 0, kind := 0x38, tag := 9 }], nextId := 1 }

/-- The RECAL request in flight of `recalWaits`. -/
def flight : RecalFlight := { id := 0, tag := 9, noVolume := false }

/-- A check of acceptance that the kernel can evaluate. -/
def acceptsB (s : State) (kind : Byte) (payload : List Byte) : Bool :=
  decide (s.link.restart = .idle) &&
    (match requestLengths kind with
     | some (a, b) => decide (a ≤ payload.length) && decide (payload.length ≤ b)
     | none => false) &&
    (!s.selfTest.partFailed || decide (kind = 0x01) || decide (kind = 0x03)) &&
    decide (s.link.requests.length < 8) && decide (s.link.outbound.length + s.link.requests.length < 32)

theorem accepts_of {s : State} {kind : Byte} {payload : List Byte} (h : acceptsB s kind payload = true) :
    Accepts s kind payload := by
  unfold acceptsB at h
  simp only [Bool.and_eq_true, Bool.or_eq_true, decide_eq_true_eq, Bool.not_eq_true'] at h
  obtain ⟨⟨⟨⟨h1, h2⟩, h3⟩, h4⟩, h5⟩ := h
  refine ⟨h1, ?_, ?_, h4, h5⟩
  · cases hr : requestLengths kind with
    | none => simp [hr] at h2
    | some ab =>
      obtain ⟨a, b⟩ := ab
      simp only [hr, Bool.and_eq_true, decide_eq_true_eq] at h2
      exact ⟨a, b, rfl, h2⟩
  · rcases h3 with (h | h) | h
    · exact .inl h
    · exact .inr (.inl h)
    · exact .inr (.inr h)

/-- The frames a command put into the outbound queue: kind, tag and payload. -/
def sent (i : Instr) (s : State) : List OutFrame := (after i s).link.outbound

/-! ## WellFormed: an ill-formed command for each check -/

/-- A payload one byte longer than a frame may carry (R158). -/
def tooLong : List Byte := List.replicate 2049 0

theorem test_wellFormed_refuses_long_payloads :
    [Instr.ident 0 tooLong, .status 0 tooLong, .restart 0 tooLong, .profileLoad 0 tooLong, .profileDrop 0 tooLong,
      .profileList 0 tooLong, .mount 0 tooLong, .unmount 0 tooLong, .exclude 0 tooLong, .scan 0 tooLong,
      .sectorInfo 0 tooLong, .start 0 tooLong, .pause 0 tooLong, .abort 0 tooLong, .extend 0 tooLong,
      .trackInfo 0 tooLong, .recal 0 tooLong, .fetch 0 tooLong, .unknownKind 5 0 tooLong].any Instr.wellFormed = false := by
  decide +kernel
theorem test_wellFormed_refuses_known_unknown_kind : (Instr.unknownKind 0x22 0 []).wellFormed = false := by decide +kernel
theorem test_wellFormed_refuses_no_bytes : (Instr.frameAbandoned []).wellFormed = false := by decide +kernel
theorem test_wellFormed_refuses_zero_spacing : (Instr.indexPulse 0 0).wellFormed = false := by decide +kernel
theorem test_wellFormed_refuses_zero_interval : (Instr.fluxTransition 0 0).wellFormed = false := by decide +kernel
theorem test_wellFormed_takes_well_formed :
    [Instr.ident 0 [], .unknownKind 5 0 [], .frameAbandoned [0xB7], .indexPulse 0 1, .fluxTransition 0 160,
      .linkReset].all Instr.wellFormed = true := by decide +kernel

/-! ## Codes, checks and arithmetic of the spec's examples -/

/-- Section 7 of 00_scope.md: the polynomial shifted from preset 0 over one byte of 1. -/
theorem test_crc16_of_one_bit : crc16 0 [0x01] = 0x1021 := by decide +kernel
/-- Section 4.9: the header check E9 and the data check 05. -/
theorem test_xor8_of_example : xor8 [0xFB, 0x03, 0x11] = 0xE9 ∧ xor8 [0xFB, 0x4E, 0x4F, 0x00, 0xFF] = 0x05 := by
  decide +kernel
/-- Sections 3.5 and 3.6: the two passes of the separator's self-test. -/
theorem test_separator_examples : separatorTestPasses = true := by decide +kernel
/-- Section 6.7: the fused byte 4E with confidence 0. -/
theorem test_fused_byte_example :
    fusedByte [⟨0x4E, voteWeight 3 1⟩, ⟨0x4F, voteWeight 1 2⟩, ⟨0x4E, voteWeight 0 1⟩] = 0x4E ∧
      fusedConfidence [⟨0x4E, voteWeight 3 1⟩, ⟨0x4F, voteWeight 1 2⟩, ⟨0x4E, voteWeight 0 1⟩] = 0 := by decide +kernel

/-- The candidates A, B and C of section 6.8. -/
def example68 : Pool :=
  let cand (m score serial : Nat) : Candidate :=
    { volume := 0, sector := 0, markClass := .data, checkOk := false, origin := .read, matchCount := m, score := score
      serial := serial, markByte := 0xFB, recordedCheck := 5, entered := serial }
  ((({ Pool.reset with freeList := [40, 41] }.write 37 (cand 2 13 1) [0x4E, 0x4F, 0x00, 0xFE] [4, 4, 4, 1]).write 38
    (cand 1 10 2) [0x4E, 0x4F, 0x40, 0xFF] [3, 3, 1, 3]).write 52 (cand 1 7 3) [0x4E, 0x47, 0x00, 0xFF] [2, 1, 2, 2])

/-- Section 6.8: rank order A, B, C; fused data 4E 4F 00 FF with confidences 4 3 3 1, GOOD. -/
theorem test_fusion_example :
    example68.rankOrder [52, 38, 37] = [37, 38, 52] ∧
      (example68.fuse tape 0 0 4 [37, 38, 52]).data = [0x4E, 0x4F, 0x00, 0xFF] ∧
      (example68.fuse tape 0 0 4 [37, 38, 52]).confidences = [4, 3, 3, 1] ∧
      (example68.fuse tape 0 0 4 [37, 38, 52]).result = .good := by decide +kernel

/-- Section 4.9: the byte F2 of the reverse block comes out as 4F. -/
theorem test_reverse_byte : reverseByte 0xF2 = 0x4F ∧ reverseByte 0xDF = 0xFB := by decide +kernel
/-- R33 at 300 rpm: a revolution of 8,000,000 ticks, a watch limit of 20,000,000, and at 10 sectors a threshold of 400,000. -/
theorem test_ticks_at_300_rpm :
    revolutionTicks floppy = 8000000 ∧ indexWatchTicks floppy = 20000000 ∧ indexThreshold hard = 400000 := by
  decide +kernel
/-- R4: track 37 of a two-sided floppy lies on cylinder 18, head 1 (section 8.6). -/
theorem test_track_place : placeOf floppy 37 = (18, 1) := by decide +kernel

/-! ## A profile image (R170), byte by byte -/

/-- The image of DD35-9X512 before its check field, and four pieces after it. -/
def imageA : List Byte := [0x49, 0x5A, 0x50, 0x46, 0x01, 99, 0] ++ exampleName
/-- Medium to settle time: FLOPPY_SOFT, MFM, P0 1280, W0 8, G0 16, 80 cylinders, 2 heads, S 9, 300 rpm, 1 s, 500 ms, 3 ms,
15 ms. -/
def imageB : List Byte := [0, 1, 0x00, 0x05, 8, 16, 80, 2, 9, 0, 0, 0x2C, 0x01, 1, 0, 0xF4, 0x01, 3, 15]
/-- Sync 16 cells 4489 three times, no end pattern, the mark masks. -/
def imageC : List Byte := [16, 0x44, 0x89, 0, 0, 3, 0, 0, 0, 0, 0, 0xFE, 0x01, 0xFB, 0x04, 0xF8, 0x07]
/-- H 4 with a check, the three fields, base 1, L 512, 39396 from FFFF. -/
def imageD : List Byte := [4, 1, 0, 8, 0, 8, 8, 0, 16, 8, 0, 1, 0x00, 0x02, 0, 0xFF, 0xFF]
/-- GCR table, MSB_FIRST, gap limit 43, quorum 2, fusion no, budgets 8 and 100, offset capable, no reverse. -/
def imageE : List Byte := List.replicate 16 0 ++ [0, 43, 2, 0, 8, 100, 0, 1, 0]
/-- The whole image; its check D809 is the 39396 of the other 97 bytes. -/
def image : List Byte := imageA ++ [0x09, 0xD8] ++ imageB ++ imageC ++ imageD ++ imageE

theorem image_crc : crc16 0xFFFF (image.take 19 ++ image.drop 21) = 0xD809 := by
  have hs : image.take 19 ++ image.drop 21 = imageA ++ (imageB ++ (imageC ++ (imageD ++ imageE))) := by decide +kernel
  rw [hs]
  have a : crc16 0xFFFF imageA = 3939 := by decide +kernel
  have b : crc16 3939 imageB = 64513 := by decide +kernel
  have c : crc16 64513 imageC = 47 := by decide +kernel
  have d : crc16 47 imageD = 32268 := by decide +kernel
  have e : crc16 32268 imageE = 0xD809 := by decide +kernel
  rw [crc16_step a, crc16_step b, crc16_step c, crc16_step d, e]

/-- R13 to R16: the image passes all eleven steps. -/
theorem image_valid : validate image = none := by
  have h : checkOkOf image = true := by
    unfold checkOkOf
    rw [image_crc]
    decide +kernel
  unfold validate
  rw [h]
  decide +kernel

/-- R170: the fields stand where the layout places them. -/
theorem test_image_fields : profileOfImage image = floppy := by decide +kernel
/-- R13: an empty image fails step 1, another version step 2, a short one step 3. -/
theorem test_image_refused :
    validate [] = some 1 ∧ signatureOk [0x49, 0x5A, 0x50, 0x47] = false ∧ versionOk (image.set 4 2) = false ∧
      lengthOk (image.take 98) = false ∧ mediumOk (image.set 98 1) = false := by decide +kernel
/-- R17: gain 80 is clamped to 63, quorum 9 to 7, a budget of 0 is held as none; the clamped set names gain and quorum. -/
theorem test_held_form :
    (heldForm { floppy with gain := 80, quorum := 9, wearBudget := 0 }).gain = 63 ∧
      (heldForm { floppy with gain := 80, quorum := 9, wearBudget := 0 }).quorum = 7 ∧
      (heldForm { floppy with gain := 80, quorum := 9, wearBudget := 0 }).wearBudget = 65535 ∧
      clampedSetByte (clampedSet { floppy with gain := 80, quorum := 9, wearBudget := 0 }) = 0x82 := by decide +kernel

/-! ## One step of each command -/

/-- R165: a failed bank 1 leaves 3072 slots, the first of bank 2 following the last of bank 0. -/
theorem test_powerOnReset_failed_bank :
    let env : Environment :=
      { lines := ⟨ready, Lines.quiet, { Lines.quiet with kind := true, present := true }, Lines.quiet⟩
        tableRomOk := true, imageMemoryOk := true, banksOk := ⟨true, false, true, true⟩
        separatorsOk := ⟨true, true, true, true⟩ }
    let t := after (.powerOnReset env) part
    (t.selfTest.failed, t.selfTest.partFailed, t.pool.capacity, (t.pool.freeList.drop 1024).headD 0) =
        (0x008, false, 3072, 2048) ∧
      (t.channel 0).state = .idle ∧ (t.channel 1).state = .absent ∧ (t.channel 2).kind = .cartridge := by decide +kernel

/-- R164: a link reset empties the queues. -/
theorem test_linkReset_clears : (after .linkReset (recalWaits part)).link.requests = [] := by decide +kernel

/-- R166, R174: HELLO is the first frame after enumeration: part id, revision, all stages run, none failed, channels 0 to 2
present, channel 2 a cartridge, 4096 slots. -/
theorem test_enumeration_hello :
    sent .enumeration { part with link := .reset } =
      [{ kind := 0x60, tag := 0
         payload := [0x44, 0x2C, 1, 0xFF, 0x07, 0, 0, 0, 0x07, 0x04, 0, 0x00, 0x10] }] := by decide +kernel

/-- R159: a frame of length 2049 is abandoned and counted; the search goes on at the byte after its SOF. -/
theorem test_frame_abandoned :
    (after (.frameAbandoned [0xB7, 0x01, 0x08, 0x01, 0x05, 0xB7]) part).link.linkErrors = 1 ∧
      (after (.frameAbandoned [0xB7, 0x01, 0x08, 0x01, 0x05, 0xB7]) part).link.received = [0xB7] := by decide +kernel

/-- R160: a frame of kind 05 is answered with kind FF, its tag, and UNKNOWN_KIND. -/
theorem test_unknownKind : sent (.unknownKind 0x05 0x33 []) part = [⟨0xFF, 0x33, b1 (statusCode .unknownKind)⟩] := by
  decide +kernel

/-- R166: IDENT's reply carries the HELLO contents behind its status. -/
theorem test_ident : sent (.ident 9 []) part = [⟨0x81, 9, 0 :: helloPayload part⟩] := by decide +kernel
/-- R167, R173: a STATUS reply is 59 bytes for a channel, 194 for all; channel 4 is refused. -/
theorem test_status_lengths :
    (sent (.status 1 [0]) part).map (fun f => f.payload.length) = [59] ∧
      (sent (.status 1 [0xFF]) part).map (fun f => f.payload.length) = [194] ∧
      sent (.status 1 [4]) part = [⟨0x82, 1, b1 (statusCode .badChannel)⟩] := by decide +kernel
/-- R168: RESTART is answered OK, and its leaving makes the restart due. -/
theorem test_restart :
    sent (.restart 2 []) part = [⟨0x83, 2, [0]⟩] ∧
      (after .outboundEntryLeft (after (.restart 2 []) part)).link.restart = .due := by decide +kernel
/-- R168: the restart begins only when due. -/
theorem test_restartBegin_not_due :
    (after (.restartBegin ⟨⟨ready, ready, ready, ready⟩, true, true, ⟨true, true, true, true⟩, ⟨true, true, true, true⟩⟩)
      part).slots.length = 8 ∧
      (after (.restartBegin ⟨⟨ready, ready, ready, ready⟩, true, true, ⟨true, true, true, true⟩, ⟨true, true, true, true⟩⟩)
      part).link.enumerated = true := by decide +kernel

/-- R18: a load into slot 8 is out of range; into a slot in use it is refused. -/
theorem test_profileLoad_refused :
    sent (.profileLoad 1 [8]) part = [⟨0x90, 1, b1 (statusCode .range)⟩] ∧
      sent (.profileLoad 1 [0]) (floppyPart id) = [⟨0x90, 1, b1 (statusCode .profileInUse)⟩] := by decide +kernel
/-- R19: a drop empties the slot; an EMPTY one is refused. -/
theorem test_profileDrop :
    ((after (.profileDrop 1 [2]) part).slot 2).held = none ∧
      sent (.profileDrop 1 [7]) part = [⟨0x91, 1, b1 (statusCode .profileEmpty)⟩] := by decide +kernel
/-- R20, R173: the listing of all slots is 177 bytes with its status. -/
theorem test_profileList :
    (sent (.profileList 1 [0xFF]) part).map (fun f => f.payload.length) = [177] ∧
      sent (.profileList 1 [3]) part = [⟨0x92, 1, [0, 0, 0]⟩] := by decide +kernel

/-- R106: MOUNT answers base 0 and 1440 records, and raises the slot's use count. -/
theorem test_mount :
    sent (.mount 4 [0, 0, 1, 2, 3, 4, 1]) part = [⟨0xA0, 4, [0, 0, 0, 0xA0, 0x05]⟩] ∧
      ((after (.mount 4 [0, 0, 1, 2, 3, 4, 1]) part).slot 0).useCount = 1 := by decide +kernel
/-- R106: a floppy profile does not suit a cartridge channel. -/
theorem test_mount_wrong_medium :
    sent (.mount 4 [2, 0, 1, 2, 3, 4, 1]) part = [⟨0xA0, 4, b1 (statusCode .wrongMedium)⟩] := by decide +kernel
/-- R107: UNMOUNT answers OK and lowers the use count. -/
theorem test_unmount :
    sent (.unmount 5 [0]) (floppyPart id) = [⟨0xA1, 5, [0]⟩] ∧
      ((after (.unmount 5 [0]) (floppyPart id)).slot 0).useCount = 0 := by decide +kernel
/-- R108: SET from index 1438, count 5: two taken, two changed, none skipped. -/
theorem test_exclude_truncated :
    sent (.exclude 6 [0, 0x9E, 0x05, 5, 0, 0]) (floppyPart id) = [⟨0xA2, 6, [0, 2, 0, 2, 0, 0, 0]⟩] := by decide +kernel
/-- R110: DOWN for SETTLED from 0 finds none; UP for OPEN from 7 finds 7. -/
theorem test_scan :
    sent (.scan 7 [0, 0, 0, 1, 0]) (floppyPart id) = [⟨0xA3, 7, [0, 0xFF, 0xFF]⟩] ∧
      sent (.scan 7 [0, 7, 0, 0, 1]) (floppyPart id) = [⟨0xA3, 7, [0, 7, 0]⟩] := by decide +kernel
/-- R111, R173: an UNSEEN sector's 12 bytes. -/
theorem test_sectorInfo :
    sent (.sectorInfo 8 [0, 5, 0]) (floppyPart id) = [⟨0xA4, 8, [0, 0, 0, 0, 0, 0, 0, 0, 0, 0, 0]⟩] := by decide +kernel

/-- R142, R133, R136: START on a fresh volume orders track 0, and the channel spins up. -/
theorem test_start :
    ((after (.start 1 [0]) (floppyPart id)).channel 0).state = .spinup ∧
      ((after (.start 1 [0]) (floppyPart id)).channel 0).outputs.motor = true ∧
      sent (.start 1 [0]) (floppyPart id) = [⟨0xB0, 1, [0, BitVec.ofNat 8 (runByte .running)]⟩] := by decide +kernel
/-- R143: PAUSE on a RUNNING volume. -/
theorem test_pause :
    ((after (.pause 1 [0]) (floppyPart (runningOn 0))).volume 0).map (fun v => v.planner.run) = some .pausing := by
  decide +kernel
/-- R144, R41: ABORT cuts a pass in SPINUP: nothing consumed, the channel in HOLDING. -/
theorem test_abort :
    let s := withChannel 0 (inPass .spinup (passOf 0 .forward)) (floppyPart (runningOn 0))
    ((after (.abort 1 [0]) s).channel 0).state = .holding ∧
      (((after (.abort 1 [0]) s).channel 0).handed.map (fun h => match h with
        | .report r => (r.units, r.completed)
        | .reading _ => (9, true))) = [(0, false)] := by decide +kernel
/-- R145: EXTEND by 255 passes stops at 255; the wear budget rises by 300. -/
theorem test_extend :
    sent (.extend 2 [0, 255, 0x2C, 0x01]) (floppyPart id) =
      [⟨0xB3, 2, [0, 255, 0x90, 0x01, 0, 0, BitVec.ofNat 8 (runByte .stopped)]⟩] := by decide +kernel
/-- R146: a fresh track is PENDING with 9 open sectors. -/
theorem test_trackInfo :
    sent (.trackInfo 3 [0, 159, 0]) (floppyPart id) =
      [⟨0xB4, 3, [0, BitVec.ofNat 8 (trackStateByte .pending), 0, 0, 0, 8, 9, 0, 0, 0, 0, 0, 0, 0]⟩] := by decide +kernel
/-- R47: RECAL is accepted and not answered; an ABSENT channel refuses it. -/
theorem test_recal :
    ((after (.recal 9 [0]) part).channel 0).state = .spinup ∧ sent (.recal 9 [0]) part = [] ∧
      sent (.recal 9 [3]) part = [⟨0xB8, 9, b1 (statusCode .channelAbsent)⟩] := by decide +kernel
/-- R148: a count of 0 stands for 256, truncated at the volume's end. -/
theorem test_fetch :
    (after (.fetch 0x21 [0, 0x4A, 0x01, 0, 1, 1]) (floppyPart id)).fetches.map (fun e => (e.first, e.taken)) = [(330, 256)] ∧
      (after (.fetch 0x21 [0, 0x9F, 0x05, 8, 1, 1]) (floppyPart id)).fetches.map (fun e => (e.first, e.taken)) =
        [(1439, 1)] := by decide +kernel
/-- R153, R154, R171: a fetch of one UNSEEN sector: a frame of 15 bytes, index 337 at cylinder 18, head 1, sector 4, then the
reply. -/
theorem test_fetchFrameOffer :
    sent .fetchFrameOffer (after (.fetch 0x21 [0, 0x51, 0x01, 1, 1, 1]) (floppyPart id)) =
      [⟨0x70, 0x21, [0x51, 0x01, 18, 1, 4, 0, 0, 0, 0, 0, 0, 0, 0, 0, 0]⟩, ⟨0xC0, 0x21, [0, 1, 0, 1, 0]⟩] := by decide +kernel
/-- R163: an entry's leaving lets a pending SUMMARY out. -/
theorem test_outboundEntryLeft :
    let s := part.setLink { part.link with
      outbound := [⟨0x81, 0, []⟩], pendingSets := qset part.link.pendingSets 1 (NoticeSet.empty.add .media) }
    sent .outboundEntryLeft s = [⟨0x66, 0, [1, 0x10]⟩] := by decide +kernel

/-- A MOUNT waiting for its sense on channel 0. -/
def probing : State := withChannel 0 (fun c => { c with inputs := .quiet }.startProbe
  { id := 0, slot := 0, volumeTag := 7, verbose := false }) (part.setLink { part.link with
    requests := [{ id := 0, kind := 0x20, tag := 4 }], nextId := 1 })

/-- R23, R106: nothing seen in 100 ms: CHANNEL_ABSENT, MOTOR released. -/
theorem test_presenceProbeEnd :
    (probing.channel 0).outputs.motor = true ∧ (probing.channel 0).outputs.load = false ∧
      sent (.presenceProbeEnd 0 .quiet) probing = [⟨0xA0, 4, b1 (statusCode .channelAbsent)⟩] ∧
      ((after (.presenceProbeEnd 0 .quiet) probing).channel 0).state = .absent ∧
      ((after (.presenceProbeEnd 0 .quiet) probing).channel 0).outputs.motor = false := by decide +kernel

/-- A pass on cylinder 18 in SPINUP with the head known to stand at cylinder 0. -/
def spinningUp : State := withChannel 0 (inPass .spinup (passOf 37 .forward)) (floppyPart (runningOn 37))
/-- R27: READY released at expiry faults. -/
theorem test_spinupTimerExpiry_not_ready :
    ((after (.spinupTimerExpiry 0 .quiet) spinningUp).channel 0).faultCode = .notReady ∧
      ((after (.spinupTimerExpiry 0 .quiet) spinningUp).channel 0).outputs.motor = false := by decide +kernel
/-- R27, R30: READY asserted: the seek to cylinder 18 begins with one pulse inward. -/
theorem test_spinupTimerExpiry_seeks :
    let c := (after (.spinupTimerExpiry 0 ready) spinningUp).channel 0
    (c.state, c.position, c.pulses, c.outputs.dir) = (.seeking, 1, 1, true) := by decide +kernel

/-- A recalibration on channel 0 after `n` pulses, for a RECAL request. -/
def recalibrating (n : Nat) : State := withChannel 0 (fun c => { c with
  state := .recal, recal := some flight, recalStage := some { rewinding := false, pulses := n } }) (recalWaits part)
/-- R28: the 101st pulse is not issued. -/
theorem test_recalPulseDue_limit :
    ((after (.recalPulseDue 0 ready) (recalibrating 99)).channel 0).pulses = 1 ∧
      ((after (.recalPulseDue 0 ready) (recalibrating 100)).channel 0).faultCode = .recalFailed := by decide +kernel
/-- R28, R48: TRACK0 found: OK, HOLDING, position 0 known. -/
theorem test_recalPulseDue_found :
    let t := after (.recalPulseDue 0 { ready with track0 := true }) (recalibrating 100)
    t.link.outbound = [⟨0xB8, 9, [0]⟩] ∧ (t.channel 0).state = .holding ∧ (t.channel 0).positionKnown = true := by
  decide +kernel

/-- A cartridge rewinding in a recalibration for a pass on lane 3. -/
def rewinding : State := withChannel 2 (fun c => { inPass .recal (passOf 3 .forward) c with
  positionKnown := false, recalStage := some { rewinding := true, pulses := 0 } }) (tapePart (runningOn 3))
/-- R29: BOT with LANE0 released: RUN_REV off, the first lane step. -/
theorem test_rewindBot :
    let c := (after (.rewindBot 2 ready) rewinding).channel 2
    (rewinding.channel 2).outputs.runRev = true ∧
      (c.outputs.runRev, c.tapeEnd, c.pulses, c.recalStage) = (false, .bot, 1, some { rewinding := false, pulses := 1 }) := by
  decide +kernel
/-- R43: BOT not found in time. -/
theorem test_rewindTimerExpiry :
    ((after (.rewindTimerExpiry 2 ready) rewinding).channel 2).faultCode = .markerLost := by decide +kernel

/-- A seek to cylinder 18 that has reached cylinder `n`. -/
def seeking (n : Nat) : State := withChannel 0 (fun c => { inPass .seeking (passOf 37 .forward) c with
  position := n, moved := true }) (floppyPart (runningOn 37))
/-- R30: the last pulse ends the seek in SETTLING. -/
theorem test_seekPulseDue :
    ((after (.seekPulseDue 0 ready) (seeking 16)).channel 0).state = .seeking ∧
      ((after (.seekPulseDue 0 ready) (seeking 17)).channel 0).state = .settling ∧
      ((after (.seekPulseDue 0 ready) (seeking 17)).channel 0).stageTimer = some 600000 := by decide +kernel
/-- R37: after SETTLING a floppy is ARMED with the index watch running. -/
theorem test_settleTimerExpiry :
    let c := (after (.settleTimerExpiry 0 ready) (withChannel 0 (inPass .settling (passOf 37 .forward))
      (floppyPart (runningOn 37)))).channel 0
    (c.state, c.stageTimer) = (.armed, some 20000000) := by decide +kernel

/-- A cartridge winding for a pass on lane 3. -/
def winding : State := withChannel 2 (fun c => { inPass .winding { passOf 3 .forward with windingBegun := true } c with
  inputs := ready }) (tapePart (runningOn 3))
/-- R32, R38: the winding ends at BOT and the tape runs forward. -/
theorem test_windingBot :
    let c := (after (.windingBot 2 ready) winding).channel 2
    (c.state, c.outputs.runRev, c.outputs.runFwd) = (.armed, false, true) := by decide +kernel
/-- R42, R43: a pass lost in WINDING has consumed 1. -/
theorem test_windingTimerExpiry :
    let c := (after (.windingTimerExpiry 2 ready) winding).channel 2
    c.faultCode = .markerLost ∧ c.handed.map (fun h => match h with
      | .report r => r.units
      | .reading _ => 9) = [1] := by decide +kernel

/-- Channel 0 ARMED on track 37. -/
def armed : State := withChannel 0 (inPass .armed (passOf 37 .forward)) (floppyPart (runningOn 37))
/-- R37: an index pulse opens capture. -/
theorem test_indexPulse_opens :
    let c := (after (.indexPulse 0 1000) armed).channel 0
    (c.state, c.counter, c.separator.period) = (.capturing, .idle, some 1280) := by decide +kernel
/-- R37, R39: with 1 revolution ordered the next one completes the pass, at 1 unit. -/
theorem test_indexPulse_completes :
    let c := (after (.indexPulse 0 8000000) (withChannel 0 (capturing floppy (passOf 37 .forward)) armed)).channel 0
    (c.state, c.holdTimer) = (.holding, some 2000) ∧ c.handed.map (fun h => match h with
      | .report r => (r.units, r.completed)
      | .reading _ => (9, false)) = [(1, true)] := by decide +kernel
/-- R43: no index pulse in time. -/
theorem test_indexWatchExpiry :
    ((after (.indexWatchExpiry 0 ready) armed).channel 0).faultCode = .indexLost := by decide +kernel

/-- Channel 2 ARMED for a forward pass on lane 3. -/
def armedTape : State := withChannel 2 (inPass .armed (passOf 3 .forward)) (tapePart (runningOn 3))
/-- R38: BOT released opens capture and asserts READ_EN. -/
theorem test_startMarkerReleased :
    let c := (after (.startMarkerReleased 2 ready) armedTape).channel 2
    (c.state, c.outputs.readEn, c.outputs.runFwd) = (.capturing, true, true) := by decide +kernel
/-- R38, R39: EOT completes the traversal and is the tape end. -/
theorem test_farMarkerAsserted :
    let c := (after (.farMarkerAsserted 2 ready) (withChannel 2 (capturing tape (passOf 3 .forward)) armedTape)).channel 2
    (c.state, c.tapeEnd, c.outputs.runFwd, c.outputs.readEn) = (.holding, .eot, false, false) := by decide +kernel
/-- R43: the far marker not found in time. -/
theorem test_markerWatchExpiry :
    ((after (.markerWatchExpiry 2 ready) armedTape).channel 2).faultCode = .markerLost := by decide +kernel

/-- A capture on track 37 with a count of 100 ticks. -/
def counting (n : Nat) : State := withChannel 0 (fun c => { capturing floppy (passOf 37 .forward) c with
  counter := .counting n }) armed
/-- Section 3.5: an interval of 243 ticks is 3 cells and moves P to 1284. -/
theorem test_fluxTransition :
    let c := (after (.fluxTransition 0 143) (counting 100)).channel 0
    (c.counter, c.separator.period, c.decoder.recent) = (.counting 0, some 1284, [true, false, false]) := by decide +kernel
/-- R36: saturation is a dropout, and the counter holds. -/
theorem test_counterSaturation :
    ((after (.counterSaturation 0) (counting 100)).channel 0).counter = .held := by decide +kernel
/-- R40: at expiry MOTOR is released and the position stays known. -/
theorem test_holdTimerExpiry :
    let c := (after (.holdTimerExpiry 0 ready) (withChannel 0 (fun c => { c with positionKnown := true }.enterHolding)
      part)).channel 0
    (c.state, c.outputs.motor, c.positionKnown) = (.idle, false, true) := by decide +kernel
/-- R43, R44, R138: READY falling in CAPTURING cuts the pass with revolutions + 1 units and raises the count. -/
theorem test_readyFalling :
    let c := (after (.readyFalling 0 ready) (counting 0)).channel 0
    (c.state, c.faultCount, c.pass) = (.faulted, 1, none) := by decide +kernel
/-- R45: a media change with a volume mounted marks it MEDIA_GONE and halts the run. -/
theorem test_mediaChange :
    ((after (.mediaChange 0 ready) (floppyPart (fun v => runningOn 0 v))).volume 0).map
      (fun v => (v.mediaGone, v.planner.run, v.planner.halt)) = some (true, .halted, .mediaGone) := by decide +kernel

/-- A report of track 0's pass. -/
def reportOf (completed : Bool) (cause : Cause) : PassReport :=
  { volume := 0, track := 0, direction := .forward, completed := completed, captureBegan := true, units := 1
    winding := false, tapeEnd := .none, cause := cause }
/-- Channel 0 in HOLDING with something handed on. -/
def handing (h : List Handed) (f : Volume → Volume) : State := withChannel 0
  (fun c => { c.enterHolding with handed := h }) (floppyPart f)
/-- R137: a completed survey pass charges 1 and orders track 1. -/
theorem test_passEndReport :
    ((after (.passEndReport 0) (handing [.report (reportOf true .none)] (runningOn 0))).volume 0).map
      (fun v => (v.planner.wearUsed, v.planner.surveyCursor, v.planner.outstanding)) = some (1, 1, some 1) := by
  decide +kernel
/-- R138: a cut by a fault halts the volume with the fault's code. -/
theorem test_cutReport :
    ((after (.cutReport 0) (handing [.report (reportOf false (.fault .indexLost))] (runningOn 0))).volume 0).map
      (fun v => (v.planner.run, v.planner.halt, v.planner.outstanding)) =
        some (.halted, .fault .indexLost, none) := by decide +kernel

/-- A reading of sector 337. -/
def readingOf (data : Byte) (checkOk : Bool) : Reading :=
  { volume := 0, sector := 337, passNumber := 1, markClass := .data, data := [data], confidences := [3], checkOk := checkOk
    truncated := false, clamped := false, violations := 0, markByte := 0xFB, recordedCheck := 5 }
/-- Section 5.9: the first reading makes the record WEAK with one candidate of matches 1, and takes one slot. -/
theorem test_reading_first :
    let t := after (.reading 0) (handing [.reading (readingOf 0xAA false)] id)
    ((t.volume 0).map (fun v => ((v.record 337).state, (v.record 337).reads, (v.record 337).candidates, v.serial))) =
        some (.weak, 1, [0], 1) ∧ (t.pool.descriptor 0).map (fun c => (c.matchCount, c.score)) = some (1, 3) := by
  decide +kernel

/-! ## Witnesses: a state and operands that meet the hypotheses of each obligation -/

/-- The hypotheses that every accepted request shares, as a check. -/
def requestB (s : State) (kind : Byte) (payload : List Byte) : Bool :=
  s.link.requests.all (fun r => decide (r.id < s.link.nextId)) && acceptsB s kind payload

theorem request_of {s : State} {kind : Byte} {payload : List Byte} (h : requestB s kind payload = true) :
    s.link.idsFresh ∧ Accepts s kind payload := by
  simp only [requestB, Bool.and_eq_true, List.all_eq_true, decide_eq_true_eq] at h
  exact ⟨h.1, accepts_of h.2⟩

theorem witness_IdleStepPassesTime : (counting 100).pending = [] := rfl

/-- A capture on channel 0 with a transition waiting: a state in which every invariant is at work. -/
def live : State := { counting 100 with pending := [.fluxTransition 0 143] }

/-- An invariant's hypotheses at `live`: it steps, and the invariant holds. -/
theorem live_steps : ∃ t, step live = .next t := ⟨_, rfl⟩

theorem witness_ReserveKept : (∃ t, step live = .next t) ∧ live.link.ok := by
  refine ⟨live_steps, by decide +kernel, by decide +kernel, ?_⟩
  intro r hr
  exact absurd hr (List.not_mem_nil)
theorem witness_LinesFollowState : (∃ t, step live = .next t) ∧ live.linesOk := by
  refine ⟨live_steps, ?_⟩
  intro ch
  revert ch
  decide +kernel
/-- A check that every slot of a list passes is passed by the slot of any number. -/
theorem slot_all {s : State} {f : Profile → Bool} (h : s.slots.all (fun q => q.held.all f) = true) (n : Nat) :
    (s.slot n).held.all f = true := by
  rw [List.all_eq_true] at h
  unfold State.slot
  rw [List.getD_eq_getElem?_getD]
  cases hn : s.slots[n]? with
  | none => rfl
  | some q => exact h q (List.mem_of_getElem? hn)
/-- The bound of one separator as a check. -/
def periodB (sp : Separator) : Bool :=
  sp.period.all (fun p => decide (sp.periodMin ≤ p) && decide (p ≤ sp.periodMax))
theorem periodOk_of {sp : Separator} (h : periodB sp = true) : sp.periodOk := by
  intro p hp
  simpa [periodB, hp] using h
theorem witness_PeriodStaysInWindow : (∃ t, step live = .next t) ∧ live.periodsOk := by
  refine ⟨live_steps, fun ch => periodOk_of ?_⟩
  revert ch
  decide +kernel
theorem witness_MemoriesStayCanonical : (∃ t, step live = .next t) ∧ live.memoriesOk := by
  refine ⟨live_steps, ?_⟩
  unfold State.memoriesOk
  decide +kernel
/-- The ranges of one channel as a check. -/
def rangeB (c : Channel) : Bool := decide (c.faultCount ≤ 3) && c.holdTimer.all (fun n => decide (n ≤ 2000))
/-- The budgets of one volume as a check. -/
def budgetB (v : Volume) : Bool :=
  decide (v.planner.wearUsed ≤ v.planner.wearBudget) && decide (v.planner.wearBudget ≤ 65535) &&
    v.planner.tracks.all (fun e => decide (e.passesUsed ≤ v.planner.passBudget)) && decide (v.planner.passBudget ≤ 255) &&
    v.planner.outstanding.all (fun t => decide ((v.plan t).passesUsed < v.planner.passBudget))
theorem budgetsOk_of {v : Volume} (h : budgetB v = true) : v.budgetsOk := by
  simp only [budgetB, Bool.and_eq_true, decide_eq_true_eq, List.all_eq_true] at h
  obtain ⟨⟨⟨⟨h1, h2⟩, h3⟩, h4⟩, h5⟩ := h
  exact ⟨⟨h1, h2⟩, ⟨h3, h4⟩, fun t ht => by simpa [ht] using h5⟩
theorem witness_CountsStayInRange : (∃ t, step live = .next t) ∧ live.rangesOk := by
  refine ⟨live_steps, by decide +kernel, ?_, ?_, ?_⟩
  · intro ch
    have h : rangeB (live.channel ch) = true := by
      revert ch
      decide +kernel
    simp only [rangeB, Bool.and_eq_true, decide_eq_true_eq] at h
    exact ⟨h.1, fun n hn => by simpa [hn] using h.2⟩
  · intro ch v hv
    have h : ∀ ch, (live.volume ch).all budgetB = true := by decide +kernel
    exact budgetsOk_of (by simpa [hv] using h ch)
  · intro n p hp
    have hl : live.slots.all (fun q => q.held.all (fun p => decide (p.trackPassBudget ≤ 255) && decide (p.wearBudget ≤ 65535))) =
      true := by decide +kernel
    have h := slot_all hl n
    simpa [hp] using h
theorem witness_UseCountsKept : (∃ t, step live = .next t) ∧ live.useCountsOk := by
  refine ⟨live_steps, by decide +kernel, by decide +kernel, ?_, ?_⟩
  · intro ch v hv
    have h : ∀ ch, (live.volume ch).all (fun v => (live.slot v.slot).held.isSome) = true := by decide +kernel
    simpa [hv] using h ch
  · intro ch hp
    have h : ∀ ch, (live.channel ch).probe.isSome = false := by decide +kernel
    simp [h ch] at hp
/-- Two volumes mounted one behind the other. -/
def twoVolumes : State := withVolume 2 1 tape (fun v => { v with base := 1440 }) (floppyPart id)
theorem witness_RunsKeptApart :
    (∃ t, step { twoVolumes with pending := [.ident 0 []] } = .next t) ∧
      State.runsOk { twoVolumes with pending := [.ident 0 []] } := by
  refine ⟨⟨_, rfl⟩, ?_, ?_⟩
  · intro ch v hv
    have h : ∀ ch, (twoVolumes.volume ch).all (fun v => decide (v.base + v.size ≤ Config.recordCount)) = true := by
      decide +kernel
    have hv' : twoVolumes.volume ch = some v := hv
    simpa [hv'] using h ch
  · intro ch k v w hne hv hw
    have h : ∀ ch k, ch ≠ k → (twoVolumes.volume ch).all (fun v => (twoVolumes.volume k).all (fun w =>
        decide (v.base + v.size ≤ w.base) || decide (w.base + w.size ≤ v.base))) = true := by decide +kernel
    have hv' : twoVolumes.volume ch = some v := hv
    have hw' : twoVolumes.volume k = some w := hw
    simpa [hv', hw'] using h ch k hne

theorem witness_ReceiverFindsFrame :
    (⟨0x22, 0x11, [0, 1, 2, 3, 4, 5]⟩ : OutFrame).payload.length ≤ 2048 ∧ (List.replicate 2048 (0 : Byte)).length ≤ 2048 := by
  decide +kernel
theorem witness_ProfileImageRoundTrip : validate image = none := image_valid
theorem witness_HeldFormStable :
    1 ≤ floppy.window ∧ floppy.window ≤ 16 ∧ 1 ≤ floppy.gain ∧ floppy.gain ≤ 63 ∧ 1 ≤ floppy.quorum ∧ floppy.quorum ≤ 7 := by
  decide +kernel
/-- The separator of section 3.5 as the sixth interval arrives. -/
def example35 : Separator := { testPassStart with period := some 1277 }
theorem witness_RuntBecomesCarry :
    example35.period = some 1277 ∧ 20 + example35.runtCarry < 65535 ∧
      (16 * (20 + example35.runtCarry) + 1277 / 2) / 1277 = 0 := by decide +kernel
/-- At P = 10000 a runt of 312 ticks is the longest. -/
theorem witness_RuntBecomesCarry_longest :
    (16 * (312 + { example35 with period := some 10000 }.runtCarry) + 10000 / 2) / 10000 = 0 ∧
      (16 * 313 + 10000 / 2) / 10000 = 1 := by decide +kernel
theorem witness_ViolationLeavesPeriod :
    example35.period = some 1277 ∧ 40 + example35.runtCarry < 65535 ∧
      1 = (16 * (40 + example35.runtCarry) + 1277 / 2) / 1277 ∧ 1 < example35.cellsMin := by decide +kernel
theorem witness_ViolationLeavesPeriod_above :
    16 = (16 * (1277 + example35.runtCarry) + 1277 / 2) / 1277 ∧ example35.cellsMax < 16 := by decide +kernel
theorem witness_NormalIntervalCorrects :
    example35.period = some 1277 ∧ 3 = (16 * (243 + example35.runtCarry) + 1277 / 2) / 1277 ∧
      example35.cellsMin ≤ 3 ∧ 3 ≤ example35.cellsMax ∧
      (57 : Int) = (16 * (243 + example35.runtCarry) : Nat) - (3 * 1277 : Nat) ∧
      example35.periodMin ≤ example35.periodMax := by decide +kernel
/-- A profile with sixteen distinct GCR codes. -/
def gcr : Profile := { floppy with encoding := .gcr, gcrTable := (List.range 16).map (fun k => BitVec.ofNat 8 (k + 9)) }
/-- The cells of values, each of quality 3. -/
def cellsOf (values : List Bool) : List Cell := values.map (fun v => { value := v, quality := 3, kind := .normal, interval := 0 })
/-- Sixteen cells in which every data cell is set. -/
def cells16 : List Cell := cellsOf ((List.range 16).map (fun k => decide (k % 2 = 1)))
/-- Ten cells: the codes 9 and 10. -/
def cells10 : List Cell := cellsOf [false, true, false, false, true, false, true, false, true, false]
theorem witness_BytesFromCells :
    cells16.length = cellsPerByte floppy.encoding ∧ (∀ c ∈ cells16, c.quality ≤ 4) ∧ floppy.encoding ≠ .gcr := by
  decide +kernel
theorem witness_BytesFromCells_gcr :
    cells10.length = cellsPerByte gcr.encoding ∧ (∀ c ∈ cells10, c.quality ≤ 4) ∧ gcr.gcrTable.length = 16 ∧
      distinct gcr.gcrTable = true ∧
      (gcr.gcrTable.map BitVec.toNat).getD 0 0 = bitsToNat ((cells10.take 5).map (·.value)) ∧
      (gcr.gcrTable.map BitVec.toNat).getD 1 0 = bitsToNat ((cells10.drop 5).map (·.value)) := by decide +kernel
theorem witness_BytesFromCells_no_code :
    bitsToNat (((cellsOf (List.replicate 10 true)).take 5).map (·.value)) ∉ gcr.gcrTable.map BitVec.toNat := by
  decide +kernel
/-- A header in the buffer on track 37 (cylinder 18, head 1), its check made by the profile's own rule. -/
def headerOf (p : Profile) (header : List Byte) (wrong : Nat) : Decoder :=
  let recorded := mediumCheck p (0xFE :: header) + wrong
  { Decoder.reset with
    state := .header, track := 37
    block := (([0xFE] ++ header ++ [BitVec.ofNat 8 (recorded / 256), BitVec.ofNat 8 recorded]).map
      (fun b => Deposit.mk b 4)).reverse }
theorem witness_HeaderTested :
    floppy.medium ≠ .cartridge ∧ (headerOf floppy [18, 1, 9, 2] 0).endHeader floppy =
      { headerOf floppy [18, 1, 9, 2] 0 with
        state := .gap, gapCount := 0, block := []
        heldIdentity := some { sector := some 8, cyl := some 18, head := some 1 }
        tallies := { Tallies.zero with goodHeaders := 1 } } := by decide +kernel
theorem witness_HeaderTested_rejected :
    ((headerOf floppy [18, 1, 9, 2] 1).endHeader floppy).tallies = { Tallies.zero with badHeader := 1 } ∧
      ((headerOf floppy [19, 1, 9, 2] 0).endHeader floppy).tallies = { Tallies.zero with wrongTrack := 1 } ∧
      ((headerOf floppy [18, 1, 10, 2] 0).endHeader floppy).tallies = { Tallies.zero with outOfGeometry := 1 } ∧
      ((headerOf floppy [18, 1, 0, 2] 0).endHeader floppy).tallies = { Tallies.zero with outOfGeometry := 1 } := by
  decide +kernel
theorem witness_ReverseBlockTruncated :
    ({ Decoder.reset with state := .blockRev, block := [⟨0x05, 4⟩] } : Decoder).state = .blockRev := rfl
/-- A data field of sector 17 on lane 3, cut after its first data byte. -/
def fieldCut : Decoder := { Decoder.reset with
  state := .data, identity := .sector 17, track := 3
  block := [⟨0x4E, 3⟩, ⟨0xE9, 4⟩, ⟨0x11, 4⟩, ⟨0x03, 4⟩, ⟨0xFB, 4⟩] }
theorem witness_TruncatedFieldRead :
    fieldCut.state = .data ∧ fieldCut.identity = .sector 17 ∧
      fieldCut.block.reverse[dataStart tape + 0]? = some ⟨0x4E, 3⟩ ∧ fieldCut.block.length ≤ dataStart tape + 1 ∧
      1 < tape.dataLength := by decide +kernel
theorem witness_SlotsGrantedAndReturned :
    example68.freeList.Pairwise (· < ·) ∧ mapOk none example68.descriptors = true ∧
      memoryOk example68.memory = true ∧ example68.freeList ≠ [] ∧
      ([1, 2] : List Byte).length = ([4, 4] : List Nat).length := by decide +kernel
theorem witness_SlotsGrantedAndReturned_none :
    ({ example68 with freeList := [] } : Pool).freeList = [] ∧
      mapOk none ({ example68 with freeList := [] } : Pool).descriptors = true := by decide +kernel
theorem witness_SlotsGrantedAndReturned_return :
    example68.freeList.Pairwise (· < ·) ∧ 38 ∉ example68.freeList ∧ mapOk none example68.descriptors = true := by
  decide +kernel
theorem witness_FusionVotes :
    let votes : List Vote := [⟨0x4E, 3⟩, ⟨0x4F, 2⟩, ⟨0x4E, 0⟩]
    let ones := ((votes.filter (fun v => v.byte.getLsbD 0)).map (·.weight)).sum
    let zeros := ((votes.filter (fun v => !v.byte.getLsbD 0)).map (·.weight)).sum
    ones < zeros ∧ ones + zeros ≠ 0 := by decide +kernel
theorem witness_FusionVotes_tie :
    let votes : List Vote := [⟨0x4E, 3⟩, ⟨0x4F, 3⟩]
    ((votes.filter (fun v => v.byte.getLsbD 0)).map (·.weight)).sum =
      ((votes.filter (fun v => !v.byte.getLsbD 0)).map (·.weight)).sum := by decide +kernel
theorem witness_FusionVotes_ones :
    let votes : List Vote := [⟨0x4E, 3⟩, ⟨0x4F, 4⟩]
    ((votes.filter (fun v => !v.byte.getLsbD 0)).map (·.weight)).sum <
      ((votes.filter (fun v => v.byte.getLsbD 0)).map (·.weight)).sum := by decide +kernel
theorem witness_FusionVotes_fusion :
    example68.descriptor 37 ≠ none ∧
      ([37, 38, 52].filter (fun k => decide ((example68.descriptor k).map (·.markClass) =
        (example68.descriptor 37).map (·.markClass)))).length = 3 ∧
      ([37, 38].filter (fun k => decide ((example68.descriptor k).map (·.markClass) =
        (example68.descriptor 37).map (·.markClass)))).length < 3 := by decide +kernel
theorem witness_FirstFitIsLowest :
    firstFit [(0, 1440), (1500, 100)] 60 = some 1440 ∧ firstFit [(0, 32768)] 1 = none := by decide +kernel
/-- A fresh volume of the floppy profile. -/
def freshVolume : Volume := Volume.atMount 0 0 { id := 0, slot := 0, volumeTag := 7, verbose := false } floppy
theorem witness_RecordMovesClasses :
    mapOk .fresh freshVolume.records = true ∧ 1439 / freshVolume.sectors < freshVolume.summaries.length ∧
      classOf (freshVolume.record 1439).state ≠ classOf .settled ∧
      classOf (freshVolume.record 1439).state = classOf .weak := by decide +kernel
theorem witness_LadderSteps : floppy.offsetCapable = true ∧ tape.offsetCapable = false := by decide +kernel
theorem witness_ResetClearsPart :
    (part.setLink { part.link with restart := .due }).link.restart = .due ∧ part.link.restart ≠ .due := by decide +kernel
theorem witness_LinkResetClearsLink :
    (part.setLink .reset).link.enumerated = false ∧ (part.setLink .reset).link.restart = .idle ∧
      (part.setLink .reset).selfTest.partFailed = false := by decide +kernel
theorem witness_EnumerationSendsHello :
    part.link.restart = .idle ∧ part.link.requests = [] ∧ part.link.outbound = [] := by decide +kernel
/-- The part with a full request queue. -/
def full : State := part.setLink { part.link with
  requests := (List.range 8).map (fun k => { id := k, kind := 0x38, tag := 0 }), nextId := 8 }
theorem witness_AcceptanceTests :
    (after (.restart 0 []) part).link.restart ≠ .idle ∧ part.link.restart = .idle ∧ requestLengths 0x05 = none ∧
      requestLengths 0x22 = some (6, 6) ∧ ([0, 0, 0, 0, 0] : List Byte).length < 6 ∧ full.link.requests.length = 8 := by
  decide +kernel
theorem witness_AcceptanceTests_accepts : Accepts part 0x22 [0, 0, 0, 1, 0, 0] := accepts_of (by decide +kernel)
theorem witness_BytesReceived :
    part.link.received = [] ∧ (0xB7 : Byte) ∉ ([0x00, 0xFF] : List Byte) ∧
      2048 < (0x01 : Byte).toNat + 256 * (0x08 : Byte).toNat ∧ (0xB7 : Byte) ∉ ([0x01, 0x08, 0x01, 0x05] : List Byte) ∧
      4 ≤ ([0, 0, 1, 5] : List Byte).length ∧ le2At [0, 0, 1, 5] 0 + 4 = ([0, 0, 1, 5] : List Byte).length ∧
      (0 : Nat) ≠ crc16 0xFFFF [0, 0, 1, 5] ∧ (0xB7 : Byte) ∉ ([0, 0, 1, 5] : List Byte) ++ le2 0 := by decide +kernel
theorem witness_IdentAndStatusAnswered :
    (part.link.idsFresh ∧ Accepts part 0x01 []) ∧ Accepts part 0x02 [0xFF] ∧ Accepts part 0x02 [3] ∧ Accepts part 0x02 [4] ∧
      (3 : Byte).toNat = (3 : Chan).val :=
  ⟨request_of (by decide +kernel), accepts_of (by decide +kernel), accepts_of (by decide +kernel),
    accepts_of (by decide +kernel), rfl⟩
theorem witness_RestartTaken :
    (part.link.idsFresh ∧ Accepts part 0x03 []) ∧ part.link.outbound = [] ∧ part.link.enumerated = true :=
  ⟨request_of (by decide +kernel), rfl, rfl⟩
theorem witness_EntryLeftReportsRoom :
    let s := part.setLink { part.link with outbound := [⟨0x81, 0, []⟩] }
    s.link.enumerated = true ∧ s.link.restart = .idle ∧ s.link.outbound = ⟨0x81, 0, []⟩ :: [] ∧
      qget (qset part.link.pendingSets 1 (NoticeSet.empty.add .media)) 1 ≠ .empty := by decide +kernel
theorem witness_ProfileLoadStores :
    (part.link.idsFresh ∧ Accepts part 0x10 (7 :: image)) ∧ (7 : Byte).toNat < 8 ∧
      (part.slot 7).useCount = 0 ∧ validate image = none :=
  ⟨request_of (by decide +kernel), by decide, by decide +kernel, image_valid⟩
theorem witness_ProfileLoadStores_refused :
    Accepts part 0x10 [8] ∧ 8 ≤ (8 : Byte).toNat ∧ Accepts (floppyPart id) 0x10 [0] ∧
      0 < ((floppyPart id).slot 0).useCount ∧ Accepts part 0x10 [7] ∧ validate [] = some 1 :=
  ⟨accepts_of (by decide +kernel), by decide, accepts_of (by decide +kernel), by decide +kernel,
    accepts_of (by decide +kernel), by decide +kernel⟩
theorem witness_ProfileDropAndList :
    (part.link.idsFresh ∧ Accepts part 0x11 [2]) ∧ (part.slot 2).held ≠ none ∧ (part.slot 2).useCount = 0 ∧
      (part.slot 7).held = none ∧ Accepts part 0x11 [7] ∧ Accepts part 0x11 [8] ∧ Accepts (floppyPart id) 0x11 [0] ∧
      ((floppyPart id).slot 0).held ≠ none ∧ 0 < ((floppyPart id).slot 0).useCount :=
  ⟨request_of (by decide +kernel), by decide +kernel, by decide +kernel, by decide +kernel, accepts_of (by decide +kernel),
    accepts_of (by decide +kernel), accepts_of (by decide +kernel), by decide +kernel, by decide +kernel⟩
theorem witness_ProfileDropAndList_list :
    (part.link.idsFresh ∧ Accepts part 0x12 [0]) ∧ (part.slot 0).held = some floppy ∧ (part.slot 7).held = none ∧
      Accepts part 0x12 [7] ∧ Accepts part 0x12 [0xFF] ∧ Accepts part 0x12 [8] :=
  ⟨request_of (by decide +kernel), by decide +kernel, by decide +kernel, accepts_of (by decide +kernel),
    accepts_of (by decide +kernel), accepts_of (by decide +kernel)⟩
theorem witness_RequestsAreFrames :
    (part.link.idsFresh ∧ Accepts part 0x21 [0]) ∧ part.volume 0 = none ∧ (0 : Byte) = chanByte 0 ∧
      Accepts part 0x40 [4, 0, 0, 0, 0, 0] ∧ 4 ≤ (4 : Byte).toNat :=
  ⟨request_of (by decide +kernel), rfl, by decide, accepts_of (by decide +kernel), by decide⟩
theorem witness_MountCreatesVolume :
    (part.link.idsFresh ∧ Accepts part 0x20 [1, 0, 1, 2, 3, 4, 1]) ∧ (1 : Byte) = chanByte 1 ∧ part.volume 1 = none ∧
      (part.channel 1).probe = none ∧ (part.channel 1).sensed = true ∧ (part.slot 0).held = some floppy ∧
      strapNeeded floppy.medium = (part.channel 1).kind ∧
      firstFit part.runs (floppy.cylinders * floppy.heads * floppy.sectors) = some 0 :=
  ⟨request_of (by decide +kernel), by decide, rfl, rfl, by and_intros <;> decide +kernel⟩
/-- A cartridge channel whose cartridge is gone. -/
def cartridgeGone : State := withChannel 2 (fun c => { c with inputs := .quiet }) part
/-- A part whose record store is full. -/
def storeFull : State := withVolume 2 1 tape (fun v => { v with trackCount := 512 }) part
theorem witness_MountCreatesVolume_refused :
    Accepts part 0x20 [4, 0, 0, 0, 0, 0, 0] ∧ Accepts part 0x20 [0, 0, 0, 0, 0, 0, 2] ∧
      Accepts (floppyPart id) 0x20 [0, 0, 0, 0, 0, 0, 0] ∧ (floppyPart id).volume 0 ≠ none ∧
      Accepts cartridgeGone 0x20 [2, 1, 0, 0, 0, 0, 0] ∧ (cartridgeGone.channel 2).kind = .cartridge ∧
      (cartridgeGone.channel 2).sensed = false ∧ (part.slot 8).held = none ∧
      strapNeeded tape.medium ≠ (part.channel 0).kind ∧ Accepts storeFull 0x20 [0, 0, 0, 0, 0, 0, 0] ∧
      firstFit storeFull.runs (floppy.cylinders * floppy.heads * floppy.sectors) = none :=
  ⟨accepts_of (by decide +kernel), accepts_of (by decide +kernel), accepts_of (by decide +kernel), by decide +kernel,
    accepts_of (by decide +kernel), by decide +kernel, by decide +kernel, by decide +kernel, by decide +kernel,
    accepts_of (by decide +kernel), by decide +kernel⟩
/-- A floppy channel whose drive does not show itself. -/
def quietDrive : State := withChannel 0 (fun c => { c with inputs := .quiet }) part
theorem witness_PresenceProbed :
    (quietDrive.link.idsFresh ∧ Accepts quietDrive 0x20 [chanByte 0, 0, 1, 2, 3, 4, 1]) ∧ quietDrive.volume 0 = none ∧
      (quietDrive.channel 0).probe = none ∧ (quietDrive.channel 0).kind = .floppy ∧
      motorOn (quietDrive.channel 0).state = false ∧ (quietDrive.channel 0).sensed = false :=
  ⟨request_of (by decide +kernel), rfl, rfl, rfl, rfl, by decide +kernel⟩
theorem witness_PresenceProbed_end :
    (probing.channel 0).kind = .floppy ∧ motorOn (probing.channel 0).state = false ∧
      (probing.channel 0).probe.map (·.mount.slot) = some 0 ∧ probing.volume 0 = none ∧ (probing.slot 0).held = some floppy ∧
      floppy.medium ≠ .cartridge ∧ firstFit probing.runs (trackCountOf floppy * floppy.sectors) = some 0 ∧
      ready.ready = true ∧ (probing.slot 5).held = none := by decide +kernel
theorem witness_UnmountReleases :
    ((floppyPart id).link.idsFresh ∧ Accepts (floppyPart id) 0x21 [chanByte 0]) ∧ ((floppyPart id).volume 0).isSome = true ∧
      ((floppyPart id).volume 0).all (fun v => !v.inRun) = true ∧ ((floppyPart id).channel 0).recal = none ∧
      (spinningUp.volume 0).all (fun v => v.inRun && v.planner.outstanding.isSome) = true ∧
      (spinningUp.channel 0).pass ≠ none ∧ Accepts spinningUp 0x21 [chanByte 0] :=
  ⟨request_of (by decide +kernel), by decide +kernel, by decide +kernel, rfl, by decide +kernel, by decide +kernel,
    accepts_of (by decide +kernel)⟩
theorem witness_ExcludeApplies :
    ((floppyPart id).link.idsFresh ∧ Accepts (floppyPart id) 0x22 [chanByte 0, 0x9F, 0x05, 1, 0, 2]) ∧
      (floppyPart id).volume 0 = some { freshVolume with verbose := true } ∧ mapOk .fresh freshVolume.records = true ∧
      (0x9F : Byte).toNat + 256 * (0x05 : Byte).toNat < freshVolume.size ∧ (freshVolume.record 1439).state = .unseen :=
  ⟨request_of (by decide +kernel), rfl, by and_intros <;> decide +kernel⟩
theorem witness_ExcludeApplies_range :
    Accepts (floppyPart id) 0x22 [chanByte 0, 0xA0, 0x05, 1, 0, 0] ∧
      freshVolume.size ≤ (0xA0 : Byte).toNat + 256 * (0x05 : Byte).toNat ∧
      Accepts (floppyPart id) 0x22 [chanByte 0, 0, 0, 0, 0, 0] ∧ Accepts (floppyPart id) 0x22 [chanByte 0, 0, 0, 1, 0, 3] :=
  ⟨accepts_of (by decide +kernel), by decide +kernel, accepts_of (by decide +kernel), accepts_of (by decide +kernel)⟩
theorem witness_ExcludeApplies_states :
    ((freshVolume.putRecord 5 { SectorRecord.fresh with state := .excluded }).record 5).state = .excluded ∧
      ((freshVolume.putRecord 5 { SectorRecord.fresh with state := .settled }).record 5).state = .settled ∧
      mapOk .fresh (freshVolume.putRecord 5 { SectorRecord.fresh with state := .excluded }).records = true := by
  decide +kernel
theorem witness_ScanFindsFirst :
    ((floppyPart id).link.idsFresh ∧ Accepts (floppyPart id) 0x23 [chanByte 0, 0x9F, 0x05, 1, 1]) ∧
      (floppyPart id).volume 0 = some { freshVolume with verbose := true } ∧ 1439 < freshVolume.trackCount * freshVolume.sectors ∧
      (freshVolume.record 1439).state = .unseen ∧ freshVolume.settledMap = [] :=
  ⟨request_of (by decide +kernel), rfl, by decide +kernel, by decide +kernel, rfl⟩
theorem witness_ScanFindsFirst_range :
    Accepts (floppyPart id) 0x23 [chanByte 0, 0xA0, 0x05, 0, 0] ∧ Accepts (floppyPart id) 0x23 [chanByte 0, 0, 0, 2, 0] ∧
      Accepts (floppyPart id) 0x23 [chanByte 0, 0, 0, 0, 4] ∧ Accepts (floppyPart id) 0x23 [chanByte 0, 0, 0, 0, 0] :=
  ⟨accepts_of (by decide +kernel), accepts_of (by decide +kernel), accepts_of (by decide +kernel),
    accepts_of (by decide +kernel)⟩
theorem witness_SectorAndTrackInfo :
    ((floppyPart id).link.idsFresh ∧ Accepts (floppyPart id) 0x24 [chanByte 0, 0x9F, 0x05]) ∧
      (floppyPart id).volume 0 = some { freshVolume with verbose := true } ∧ 1439 < freshVolume.trackCount * freshVolume.sectors ∧
      Accepts (floppyPart id) 0x34 [chanByte 0, 159, 0] ∧ 159 < freshVolume.trackCount ∧
      Accepts (floppyPart id) 0x34 [chanByte 0, 160, 0] ∧ freshVolume.trackCount ≤ 160 ∧
      (example68.descriptor 37).isSome = true :=
  ⟨request_of (by decide +kernel), rfl, by decide +kernel, accepts_of (by decide +kernel), by decide +kernel,
    accepts_of (by decide +kernel), by decide +kernel, by decide +kernel⟩
/-- The floppy volume with its planner changed. -/
def planned (f : Planner → Planner) : State := floppyPart (fun v => v.setPlanner f)
theorem witness_StartRuns_survey :
    ((floppyPart id).link.idsFresh ∧ Accepts (floppyPart id) 0x30 [chanByte 0]) ∧
      (floppyPart id).volume 0 = some { freshVolume with verbose := true } ∧ freshVolume.planner.run = .stopped ∧
      freshVolume.mediaGone = false ∧ ((floppyPart id).channel 0).faultCount ≠ 3 ∧ freshVolume.planner.outstanding = none ∧
      freshVolume.planner.phase = .survey ∧ freshVolume.isPending 0 = true ∧
      (freshVolume.plan 0).passesUsed < freshVolume.planner.passBudget ∧
      freshVolume.planner.wearUsed + passCost floppy ((floppyPart id).channel 0) 0 ≤ freshVolume.planner.wearBudget :=
  ⟨request_of (by decide +kernel), rfl, rfl, rfl, by decide +kernel, rfl, rfl, by and_intros <;> decide +kernel⟩
/-- A volume whose tracks are all DONE. -/
def allDoneVolume : Volume := freshVolume.setPlanner (fun a => { a with
  pendingMap := List.replicate 160 false
  tracks := List.replicate 160 { state := .done, passesUsed := 1, ladderStep := 0, misplaced := false } })
theorem witness_StartRuns_ended :
    (∀ k, allDoneVolume.isPending k = false) ∧ allDoneVolume.planner.outstanding = none ∧
      allDoneVolume.planner.run = .stopped ∧ Accepts (floppyPart (fun _ => allDoneVolume)) 0x30 [chanByte 0] := by
  refine ⟨fun k => ?_, rfl, rfl, accepts_of (by decide +kernel)⟩
  simp only [Volume.isPending, allDoneVolume, Volume.setPlanner, List.getD_eq_getElem?_getD,
    List.getElem?_replicate]
  split <;> rfl
theorem witness_StartRuns_other :
    Accepts (planned (fun a => { a with run := .pausing })) 0x30 [chanByte 0] ∧
      Accepts (planned (fun a => { a with run := .complete })) 0x30 [chanByte 0] ∧
      Accepts (planned (fun a => { a with outstanding := some 0 })) 0x30 [chanByte 0] ∧
      Accepts (floppyPart (fun v => { v with mediaGone := true })) 0x30 [chanByte 0] ∧
      (withChannel 0 (fun c => { c with faultCount := 3 }) (floppyPart id)).link.restart = .idle ∧
      ((withChannel 0 (fun c => { c with faultCount := 3 }) (floppyPart id)).channel 0).faultCount = 3 :=
  ⟨accepts_of (by decide +kernel), accepts_of (by decide +kernel), accepts_of (by decide +kernel),
    accepts_of (by decide +kernel), rfl, rfl⟩
/-- A volume in RECOVERY on track 5 with only the tracks listed PENDING. -/
def recovering (pending : List Nat) (sweep : Sweep) (fruitful : Bool) : Volume := freshVolume.setPlanner (fun a => { a with
  phase := .recovery, currentTrack := 5, sweep := sweep, fruitful := fruitful
  pendingMap := (List.range 160).map (fun k => pending.contains k) })
theorem recovering_bounded (pending : List Nat) (sweep : Sweep) (fruitful : Bool) :
    ∀ k, (recovering pending sweep fruitful).trackCount ≤ k → (recovering pending sweep fruitful).isPending k = false := by
  intro k hk
  have h : 160 ≤ k := hk
  simp only [Volume.isPending, recovering, Volume.setPlanner, List.getD_eq_getElem?_getD]
  rw [List.getElem?_eq_none (by simpa using h)]
  rfl
theorem witness_RecoveryChoice :
    (∀ k, (recovering [2, 5, 159] .up true).trackCount ≤ k → (recovering [2, 5, 159] .up true).isPending k = false) ∧
      (recovering [2, 5, 159] .up true).isPending 5 = true ∧ (recovering [2, 5, 159] .up true).planner.fruitful = true ∧
      (recovering [2, 5, 159] .up false).isPending 159 = true ∧ (recovering [2, 5] .up false).isPending 2 = true ∧
      (recovering [5] .up false).isPending 5 = true ∧ (recovering [] .up false).isPending 5 = false :=
  ⟨recovering_bounded _ _ _, by decide +kernel, rfl, by and_intros <;> decide +kernel⟩
theorem witness_RecoveryChoice_direction :
    floppy.medium ≠ .cartridge ∧ tape.medium = .cartridge ∧ idleTape.positionKnown = false ∧
      tape.reverseAllowed = true ∧ ({ tape with reverseAllowed := false } : Profile).reverseAllowed = false := by
  decide +kernel
theorem witness_PauseAndAbort :
    spinningUp.link.idsFresh ∧ (spinningUp.volume 0).map (fun v => (v.planner.run, v.planner.outstanding)) =
        some (.running, some 37) ∧ Accepts spinningUp 0x31 [chanByte 0] ∧ Accepts spinningUp 0x32 [chanByte 0] ∧
      (spinningUp.channel 0).pass ≠ none ∧ (∀ e ∈ spinningUp.fetches, e.volume ≠ 0) ∧
      Accepts (floppyPart id) 0x32 [chanByte 0] ∧ freshVolume.planner.run ≠ .running ∧ freshVolume.planner.run ≠ .pausing :=
  ⟨(request_of (kind := 0x31) (payload := [chanByte 0]) (by decide +kernel)).1, by decide +kernel,
    accepts_of (by decide +kernel), accepts_of (by decide +kernel), by decide +kernel, by decide +kernel,
    accepts_of (by decide +kernel), by decide +kernel, by decide +kernel⟩
/-- A FETCH active on the volume of channel 0. -/
def fetching : State := after (.fetch 0x21 [0, 0x51, 0x01, 2, 1, 1]) spinningUp
theorem witness_PauseAndAbort_fetching :
    (fetching.fetches.filter (fun x => x.volume == 0)).map (·.taken) = [2] ∧ Accepts fetching 0x32 [chanByte 0] ∧
      fetching.link.idsFresh :=
  ⟨by decide +kernel, accepts_of (by decide +kernel),
    (request_of (kind := 0x32) (payload := [chanByte 0]) (by decide +kernel)).1⟩
/-- A volume ENDED_PARTIAL with track 0 EXHAUSTED at its pass budget and one LOST record. -/
def partialVolume : Volume := (((freshVolume.putRecord 3 { SectorRecord.fresh with state := .lost }).setPlan 0
  (fun e => { e with passesUsed := 8 })).setTrackState 0 .exhausted).setPlanner (fun a => { a with run := .endedPartial })
theorem witness_ExtendRaises :
    ((floppyPart (fun _ => partialVolume)).link.idsFresh ∧
      Accepts (floppyPart (fun _ => partialVolume)) 0x33 [chanByte 0, 1, 0, 0]) ∧
      (floppyPart (fun _ => partialVolume)).volume 0 = some partialVolume ∧
      partialVolume.planner.tracks.length = partialVolume.trackCount ∧
      partialVolume.summaries.length = partialVolume.trackCount ∧ mapOk .fresh partialVolume.records = true ∧
      (partialVolume.plan 0).state = .exhausted ∧ (partialVolume.plan 0).passesUsed < 8 + 1 ∧
      (partialVolume.plan 1).state ≠ .exhausted :=
  ⟨request_of (by decide +kernel), rfl, by and_intros <;> decide +kernel⟩
theorem witness_RecalAccepted :
    (part.link.idsFresh ∧ Accepts part 0x38 [0]) ∧ (0 : Byte) = chanByte 0 ∧ (part.channel 0).probe = none ∧
      (part.channel 0).state = .idle ∧ part.volume 0 = none ∧ (part.channel 0).recal = none ∧
      Accepts part 0x38 [4] ∧ Accepts part 0x38 [3] ∧ (part.channel 3).state = .absent :=
  ⟨request_of (by decide +kernel), by decide, rfl, rfl, rfl, rfl, accepts_of (by decide +kernel),
    accepts_of (by decide +kernel), rfl⟩
/-- Both a floppy and a cartridge channel in HOLDING, the tape off its markers. -/
def holdingBoth : State := withChannel 2 (fun c => { c with inputs := ready }.enterHolding)
  (withChannel 0 Channel.enterHolding part)
theorem witness_RecalAccepted_holding :
    Accepts holdingBoth 0x38 [0] ∧ (holdingBoth.channel 0).state = .holding ∧ (holdingBoth.channel 0).kind = .floppy ∧
      (holdingBoth.channel 0).inputs.track0 = false ∧ Accepts holdingBoth 0x38 [2] ∧ (2 : Byte) = chanByte 2 ∧
      (holdingBoth.channel 2).state = .holding ∧ (holdingBoth.channel 2).kind = .cartridge ∧
      (holdingBoth.channel 2).inputs.bot = false ∧ (holdingBoth.channel 2).recal = none ∧
      Accepts (recalibrating 0) 0x38 [0] ∧ ((recalibrating 0).channel 0).recal ≠ none ∧
      (∃ v, spinningUp.volume 0 = some v ∧ (v.planner.run = .running ∨ v.planner.run = .pausing)) :=
  ⟨accepts_of (by decide +kernel), rfl, rfl, rfl, accepts_of (by decide +kernel), by decide, rfl, rfl, rfl, rfl,
    accepts_of (by decide +kernel), by decide +kernel, _, rfl, .inl rfl⟩
theorem witness_FetchAccepted :
    ((floppyPart id).link.idsFresh ∧ Accepts (floppyPart id) 0x40 [chanByte 0, 0x9F, 0x05, 0, 1, 1]) ∧
      (floppyPart id).volume 0 = some { freshVolume with verbose := true } ∧
      1439 < freshVolume.trackCount * freshVolume.sectors ∧ (floppyPart id).fetches.length < 4 ∧
      Accepts (floppyPart id) 0x40 [chanByte 0, 0xA0, 0x05, 0, 1, 1] ∧ Accepts (floppyPart id) 0x40 [chanByte 0, 0, 0, 0, 2, 1] ∧
      Accepts (floppyPart id) 0x40 [chanByte 0, 0, 0, 0, 1, 2] :=
  ⟨request_of (by decide +kernel), rfl, by decide +kernel, by decide +kernel, accepts_of (by decide +kernel),
    accepts_of (by decide +kernel), accepts_of (by decide +kernel)⟩
/-- A fetch queue with four entries. -/
def fourFetches : State := let s := floppyPart id
  s.setFetches (List.replicate 4 (fetchEntry 0 0 0 freshVolume 0 1 .best true))
theorem witness_FetchAccepted_busy :
    Accepts fourFetches 0x40 [chanByte 0, 0, 0, 1, 0, 0] ∧ 4 ≤ fourFetches.fetches.length :=
  ⟨accepts_of (by decide +kernel), by decide +kernel⟩
theorem witness_FetchFrameOffered :
    part.fetches = [] ∧ fetching.fetches.map (fun e => (e.next + 1 < e.first + e.taken, e.channel, e.volume)) =
        [(337 + 1 < 337 + 2, 0, 0)] ∧ fetching.link.restart = .idle ∧
      (fetching.volume 0).map (·.uid) = some 0 ∧
      fetching.link.outbound.length + 1 + fetching.link.requests.length + 4 ≤ 32 ∧
      (fetching.slot 0).held = some floppy :=
  ⟨rfl, rfl, by and_intros <;> decide +kernel⟩
/-- A fetch under outbound pressure: 27 frames wait and one request is unanswered. -/
def pressed : State := fetching.setLink { fetching.link with outbound := List.replicate 27 ⟨0x81, 0, []⟩ }
theorem witness_FetchFrameOffered_full :
    32 < pressed.link.outbound.length + 1 + pressed.link.requests.length + 4 ∧
      pressed.link.outbound.length + pressed.link.requests.length + 4 ≤ 32 := by decide +kernel
/-- A volume with a SETTLED record 337, a WEAK record 338 with candidate 37, and an UNSEEN record 339. -/
def mixedVolume : Volume := (freshVolume.putRecord 337 { SectorRecord.fresh with
  state := .settled, settled := some { by_ := .quorum, markClass := .data, pass := 2, matchCount := 2 } }).putRecord 338
  { SectorRecord.fresh with state := .weak, candidates := [37] }
theorem witness_FetchFrameOffered_records :
    (mixedVolume.record 337).state = .settled ∧ (mixedVolume.record 337).settled.isSome = true ∧
      (mixedVolume.record 338).state = .weak ∧ (mixedVolume.record 338).candidates = 37 :: [] ∧
      (example68.descriptor 37).isSome = true ∧ (mixedVolume.record 339).state = .unseen := by decide +kernel
theorem witness_SpinupEnds :
    (spinningUp.channel 0).state = .spinup ∧ ready.ready = true ∧ ready.track0 = false ∧
      (spinningUp.channel 0).kind = .floppy ∧ (spinningUp.channel 0).recal = none ∧
      (spinningUp.channel 0).pass = some (passOf 37 .forward) ∧ (spinningUp.channel 0).positionKnown = true ∧
      (spinningUp.channel 0).position + 1 < (orderTarget (spinningUp.chanProfile 0) (passOf 37 .forward).order).1 := by
  decide +kernel
/-- The same order on a channel at another cylinder. -/
def spinningAt (n : Nat) (known : Bool) : State :=
  withChannel 0 (fun c => { c with position := n, positionKnown := known }) spinningUp
theorem witness_SpinupEnds_other :
    (orderTarget ((spinningAt 20 true).chanProfile 0) (passOf 37 .forward).order).1 + 1 < ((spinningAt 20 true).channel 0).position ∧
      (orderTarget ((spinningAt 18 true).chanProfile 0) (passOf 37 .forward).order).1 =
        ((spinningAt 18 true).channel 0).position ∧
      (passOf 37 .forward).order.offset = ((spinningAt 18 true).channel 0).offset ∧
      ((spinningAt 18 true).channel 0).moved = false ∧ ((spinningAt 0 false).channel 0).positionKnown = false ∧
      (part.channel 0).state ≠ .spinup ∧ flight.noVolume = false ∧
      ((withChannel 0 (fun c => { c with state := .spinup, recal := some flight }) part).channel 0).recal = some flight := by
  decide +kernel
theorem witness_RecalibrationGoesOn :
    ((recalibrating 99).channel 0).state = .recal ∧
      ((recalibrating 99).channel 0).recalStage = some { rewinding := false, pulses := 99 } ∧
      ((recalibrating 99).channel 0).kind = .floppy ∧ ready.track0 = false ∧
      ((recalibrating 100).channel 0).recal = some flight ∧ ((recalibrating 100).channel 0).heldOrder = none ∧
      ({ ready with track0 := true } : Lines).track0 = true ∧ (part.channel 0).state ≠ .recal := by decide +kernel
theorem witness_RecalibrationGoesOn_tape :
    (rewinding.channel 2).state = .recal ∧ (rewinding.channel 2).recalStage = some { rewinding := true, pulses := 0 } ∧
      (rewinding.channel 2).kind = .cartridge ∧ ready.lane0 = false ∧ (rewinding.channel 2).recal = none ∧
      (rewinding.channel 2).pass = some (passOf 3 .forward) := by decide +kernel
theorem witness_SeekSettleWind :
    ((seeking 16).channel 0).pass = some (passOf 37 .forward) ∧ ((seeking 16).channel 0).state = .seeking ∧
      ((seeking 16).channel 0).position + 1 < (orderTarget ((seeking 16).chanProfile 0) (passOf 37 .forward).order).1 ∧
      ((seeking 17).channel 0).position + 1 = (orderTarget ((seeking 17).chanProfile 0) (passOf 37 .forward).order).1 ∧
      (orderTarget ((seeking 20).chanProfile 0) (passOf 37 .forward).order).1 + 1 < ((seeking 20).channel 0).position := by
  decide +kernel
/-- A cartridge in SETTLING for a pass on lane 3. -/
def settlingTape (e : TapeEnd) : State :=
  withChannel 2 (fun c => { inPass .settling (passOf 3 .forward) c with tapeEnd := e }) (tapePart (runningOn 3))
theorem witness_SeekSettleWind_tape :
    ((settlingTape .eot).channel 2).state = .settling ∧ ((settlingTape .eot).channel 2).kind = .cartridge ∧
      (passOf 3 .forward).direction = .forward ∧ ((settlingTape .eot).channel 2).tapeEnd ≠ .bot ∧ ready.bot = false ∧
      ((settlingTape .bot).channel 2).tapeEnd = .bot ∧ (winding.channel 2).state = .winding ∧
      (winding.channel 2).pass = some { passOf 3 .forward with windingBegun := true } := by decide +kernel
theorem witness_CaptureRuns :
    (armed.channel 0).pass = some (passOf 37 .forward) ∧ armed.mountedProfile 0 = some floppy ∧
      (armed.channel 0).completing = false ∧ floppy.medium = .floppySoft ∧ (armed.channel 0).kind = .floppy ∧
      (armed.channel 0).state = .armed := by decide +kernel
theorem witness_CaptureRuns_completes :
    ((counting 0).channel 0).state = .capturing ∧ ((counting 0).channel 0).handed = [] ∧
      ((counting 0).channel 0).decoder.state = .hunt ∧ (passOf 37 .forward).order.revolutions ≤ 0 + 1 ∧
      0 + 1 < ({ order 37 .forward with revolutions := 3 } : PassOrder).revolutions := by decide +kernel
/-- The hard-sectored volume ARMED, with a pulse `n` ticks ago. -/
def hardArmed (n : Option Nat) : State := withChannel 1 (fun c => { inPass .armed (passOf 0 .forward) c with
  sincePulse := n }) (hardPart (runningOn 0))
theorem witness_CaptureRuns_hard :
    (hardArmed (some 0)).mountedProfile 1 = some hard ∧ hard.medium = .floppyHard ∧
      motorOn ((hardArmed (some 0)).channel 1).state = true ∧ ((hardArmed none).channel 1).sincePulse = none ∧
      ((hardArmed (some 0)).channel 1).sincePulse = some 0 ∧ 0 + 399999 < indexThreshold hard ∧
      indexThreshold hard ≤ 0 + 400000 := by decide +kernel
theorem witness_CaptureRuns_tape :
    (armedTape.channel 2).kind = .cartridge ∧ (armedTape.channel 2).state = .armed ∧
      armedTape.mountedProfile 2 = some tape ∧ (armedTape.channel 2).pass = some (passOf 3 .forward) ∧
      ((withChannel 2 (capturing tape (passOf 3 .forward)) armedTape).channel 2).state = .capturing := by decide +kernel
theorem witness_FaultTaken :
    (spinningUp.channel 0).probe = none ∧ (spinningUp.channel 0).state = .spinup ∧ Lines.quiet.ready = false ∧
      readyWatched ((counting 0).channel 0).state = true ∧ (armed.channel 0).inCapture = true ∧
      (rewinding.channel 2).recalStage = some { rewinding := true, pulses := 0 } ∧ (winding.channel 2).state = .winding ∧
      (armedTape.channel 2).inCapture = true ∧
      ((recalibrating 100).channel 0).recalStage = some { rewinding := false, pulses := 100 } := by decide +kernel
theorem witness_FaultTaken_clauses :
    (spinningUp.channel 0).completing = false ∧ (spinningUp.channel 0).recal = none ∧
      (spinningUp.channel 0).pass = some (passOf 37 .forward) ∧ (spinningUp.channel 0).state ≠ .capturing ∧
      (spinningUp.channel 0).heldOrder = none ∧
      ((handing [] (runningOn 0)).channel 0).pass = none ∧ readyWatched ((handing [] (runningOn 0)).channel 0).state = true ∧
      ((handing [] (runningOn 0)).volume 0).map (fun v => v.planner.run) = some .running := by decide +kernel
theorem witness_FluxAndHold :
    ((counting 100).channel 0).pass = some (passOf 37 .forward) ∧ ((counting 100).channel 0).counter = .counting 100 ∧
      ((counting 100).channel 0).separator.running = true ∧ 0 < 100 + 143 ∧ (part.channel 0).pass = none ∧
      (armed.channel 0).counter = .stopped ∧
      ((withChannel 0 (capturing floppy (passOf 37 .forward)) armed).channel 0).counter = .idle ∧
      (holdingBoth.channel 0).state = .holding ∧ (holdingBoth.channel 0).probe = none := by decide +kernel
theorem witness_MediaChangeTaken :
    (spinningUp.channel 0).probe = none ∧ (spinningUp.channel 0).state ≠ .absent ∧ (spinningUp.volume 0).isSome = true ∧
      (spinningUp.channel 0).completing = false ∧ (spinningUp.channel 0).pass = some (passOf 37 .forward) ∧
      (part.channel 3).state = .absent ∧ part.volume 0 = none ∧ (part.channel 0).state = .idle ∧
      (holdingBoth.channel 0).state ≠ .idle ∧ holdingBoth.volume 0 = none ∧
      ((recalibrating 0).channel 0).recal = some flight ∧ (recalibrating 0).volume 0 = none ∧
      ((floppyPart id).channel 0).pass = none ∧ ((floppyPart id).channel 0).heldOrder = none := by decide +kernel
/-- A completed pass of track 0 reported. -/
def reporting : State := handing [.report (reportOf true .none)] (runningOn 0)
theorem witness_ReportsTaken :
    (reporting.channel 0).handed = .report (reportOf true .none) :: [] ∧
      reporting.volume 0 = some { runningOn 0 freshVolume with verbose := true } ∧ (runningOn 0 freshVolume).uid = 0 ∧
      (runningOn 0 freshVolume).planner.outstanding = some (reportOf true .none).track ∧
      (runningOn 0 freshVolume).planner.tracks.length = freshVolume.trackCount ∧
      freshVolume.summaries.length = freshVolume.trackCount ∧
      (runningOn 0 freshVolume).planner.pendingMap.length = freshVolume.trackCount ∧
      ((runningOn 0 freshVolume).plan 0).passesUsed < 255 :=
  ⟨by decide +kernel, rfl, rfl, rfl, by and_intros <;> decide +kernel⟩
theorem witness_ReportsTaken_bounded :
    ∀ k, (runningOn 0 freshVolume).trackCount ≤ k → (runningOn 0 freshVolume).isPending k = false := by
  intro k hk
  have h : 160 ≤ k := hk
  have hl : (runningOn 0 freshVolume).planner.pendingMap.length = 160 := by decide +kernel
  simp only [Volume.isPending, List.getD_eq_getElem?_getD]
  rw [List.getElem?_eq_none (by omega)]
  rfl
theorem witness_ReportsTaken_discarded :
    ((handing [.report (reportOf false .abort)] id).volume 0).map (fun v => v.planner.outstanding) = some none := by
  decide +kernel
theorem witness_ReadingTaken :
    let s := handing [.reading (readingOf 0xAA false)] id
    (s.channel 0).handed = .reading (readingOf 0xAA false) :: [] ∧ (s.channel 0).completing = false ∧
      (s.volume 0).map (·.uid) = some (readingOf 0xAA false).volume ∧ mapOk .fresh freshVolume.records = true ∧
      (freshVolume.record 337).state = .unseen ∧ (freshVolume.record 337).candidates = [] ∧
      s.pool.freeList.head? = some 0 ∧ mapOk none s.pool.descriptors = true ∧ memoryOk s.pool.memory = true ∧
      memoryOk s.image = true ∧ (readingOf 0xAA false).confidences.length = (readingOf 0xAA false).data.length ∧
      1 ≤ (s.chanProfile 0).quorum := by decide +kernel
theorem witness_ReadingTaken_other :
    (mixedVolume.record 337).state = .settled ∧ (mixedVolume.record 337).settled.isSome = true ∧
      ((freshVolume.putRecord 337 { SectorRecord.fresh with state := .excluded }).record 337).state = .excluded ∧
      (readingOf 0xAA true).checkOk = true ∧ (heldForm { floppy with quorum := 1 }).quorum = 1 ∧
      freshVolume.uid ≠ ({ readingOf 0 true with volume := 5 } : Reading).volume := by decide +kernel
/-- R25 on tapes and under a probe: each channel's lines are those of its state. -/
theorem witness_LinesFollowState_tape :
    (∀ ch, (winding.channel ch).outputs = outputsOf (winding.channel ch)) ∧ (winding.channel 2).state = .winding ∧
      (∀ ch, (rewinding.channel ch).outputs = outputsOf (rewinding.channel ch)) ∧ (rewinding.channel 2).state = .recal ∧
      (∀ ch, (armedTape.channel ch).outputs = outputsOf (armedTape.channel ch)) ∧ (armedTape.channel 2).state = .armed ∧
      (armedTape.channel 2).pass = some (passOf 3 .forward) ∧ (probing.channel 0).probe.isSome = true := by decide +kernel
/-- A SETTLED record, and a reading of it that waits. -/
def settledInfo : SettledInfo := { by_ := .quorum, markClass := .data, pass := 2, matchCount := 2 }
/-- A volume with record 337 SETTLED, in the memories of a part whose channel 0 hands a reading of it. -/
def settledPart : State := { handing [.reading (readingOf 0xAA true)] (fun v => v.putRecord 337 { SectorRecord.fresh with
  state := .settled, settled := some settledInfo }) with pending := [.reading 0], image := writeArea [] 337 [0xAA] [2] }
theorem witness_MemoriesStayCanonical_settled :
    (settledPart.volume 0).all (fun v => decide (v.uid < settledPart.nextVolume) && mapOk .fresh v.records &&
        decide ((v.record 337).state = .settled) && decide ((v.record 337).settled = some settledInfo)) = true ∧
      memoryOk settledPart.image = true ∧ memoryOk settledPart.pool.memory = true ∧
      mapOk none settledPart.pool.descriptors = true ∧
      (∀ k, k ≠ 0 → (settledPart.channel k).handed = []) ∧
      (match step settledPart with
       | .next t => (t.volume 0).map (fun v => (v.uid, (v.record 337).settled.map (·.matchCount)))
       | _ => none) = (settledPart.volume 0).map (fun v => (v.uid, some 3)) := by decide +kernel

theorem mem_slotsFrom (k a n : Nat) : k ∈ slotsFrom a n ↔ a ≤ k ∧ k < a + n := by
  induction n generalizing a with
  | zero => simp only [slotsFrom, List.not_mem_nil, false_iff]; omega
  | succ n ih => simp only [slotsFrom, List.mem_cons, ih]; omega
theorem slotsFrom_ascending (a n : Nat) : (slotsFrom a n).Pairwise (· < ·) := by
  induction n generalizing a with
  | zero => exact List.Pairwise.nil
  | succ n ih => exact List.Pairwise.cons (fun k hk => by have := (mem_slotsFrom k _ _).1 hk; omega) (ih (a + 1))
/-- Where every slot is free and no record is listed, the slots are as the invariant says. -/
theorem slotsOk_of {s : State} (hf : s.pool.freeList = slotsFrom 0 4096) (hd : s.pool.descriptors = [])
    (hb : s.pool.bankPassed = ⟨true, true, true, true⟩) (hr : ∀ ch v, s.volume ch = some v → v.records = []) : s.slotsOk := by
  have hn (k : Nat) : s.pool.descriptor k = none := by simp [Pool.descriptor, hd, mapGet]
  have hc (v : Volume) (h : v.records = []) (i : Nat) : (v.record i).candidates = [] := by
    simp [Volume.record, h, mapGet, SectorRecord.fresh]
  refine ⟨hf ▸ slotsFrom_ascending 0 4096, hd ▸ rfl, fun k => ?_, fun k _ => hn k, fun ch v hv => ?_, ?_⟩
  · have hall (b : Chan) : qget s.pool.bankPassed b = true := by rw [hb]; revert b; decide
    simp only [hn, ne_eq, not_true_eq_false, or_false, hf, mem_slotsFrom, hall, true_and]
    constructor
    · rintro ⟨-, h⟩
      exact ⟨⟨k / 1024, by omega⟩, by dsimp only; omega, by dsimp only; omega⟩
    · rintro ⟨b, h1, h2⟩
      have : b.val < 4 := b.isLt
      omega
  · rw [hr ch v hv]
    exact ⟨rfl, fun i => by simp [hc v (hr ch v hv)]⟩
  · intro ch ch' v w i j k hv _ hk
    simp [hc v (hr ch v hv)] at hk
theorem live_records : ∀ ch v, live.volume ch = some v → v.records = [] := by
  intro ch v hv
  have h : ∀ ch, (live.volume ch).all (fun v => decide (v.records = [])) = true := by decide +kernel
  simpa [hv] using h ch
theorem witness_UseCountsKept_slots : (∃ t, step live = .next t) ∧ live.slotsOk :=
  ⟨live_steps, slotsOk_of rfl rfl rfl live_records⟩
/-- What the invariant of the maps asks of a volume with no record listed, as a check. -/
def mapsB (v : Volume) : Bool :=
  let states (n : Nat) : List RecordState := List.replicate n .unseen
  let tellB (c : Counts) (n : Nat) : Bool := decide (c = { opn := (states n).length, settled := 0, lost := 0, excluded := 0 })
  decide (1 ≤ v.sectors) && decide (v.summaries.length = v.trackCount) &&
    (List.range v.trackCount).all (fun t => tellB (v.summary t) v.sectors) && tellB v.totals (v.trackCount * v.sectors) &&
    v.settledMap.isEmpty && v.exclusionMap.isEmpty
theorem mapsOk_of {v : Volume} (hr : v.records = []) (h : mapsB v = true) : v.mapsOk := by
  simp only [mapsB, Bool.and_eq_true, decide_eq_true_eq, List.all_eq_true, List.length_replicate, List.isEmpty_iff,
    List.mem_range] at h
  obtain ⟨⟨⟨⟨⟨h1, h2⟩, h3⟩, h4⟩, h5⟩, h6⟩ := h
  have hs (i : Nat) : (v.record i).state = .unseen := by simp [Volume.record, hr, mapGet, SectorRecord.fresh]
  refine ⟨⟨by rw [hr]; rfl, h1, h2⟩, fun t ht => ?_, fun _ => ?_, fun i => by simp [h5, hs], fun i => by simp [h6, hs]⟩
  · simp [Counts.tell, h3 t ht, hs, List.map_const', List.countP_replicate]
  · simp [Counts.tell, h4, hs, List.map_const', List.countP_replicate]
theorem witness_RunsKeptApart_maps : (∃ t, step live = .next t) ∧ live.mapsOk := by
  refine ⟨live_steps, ?_, ?_⟩
  · intro n p hp
    have hl : live.slots.all (fun q => q.held.all (fun p => decide (1 ≤ p.sectors))) = true := by decide +kernel
    simpa [hp] using slot_all hl n
  · intro ch v hv
    have h : ∀ ch, (live.volume ch).all mapsB = true := by decide +kernel
    exact mapsOk_of (live_records ch v hv) (by simpa [hv] using h ch)
/-- Intervals at the edges of R54: 65535 ticks, and 17 cells of 1277 sixteenths. -/
theorem witness_ViolationLeavesPeriod_dropout :
    65535 ≤ 65535 + example35.runtCarry ∧ 16 < (16 * (1357 + example35.runtCarry) + 1277 / 2) / 1277 ∧
      ¬ 16 < (16 * (1276 + example35.runtCarry) + 1277 / 2) / 1277 ∧
      (example35.takeInterval 65535).2 = .dropout ∧ (example35.takeInterval 1357).2 = .dropout ∧
      (example35.takeInterval 1276).2 = .cells 16 0 .violation := by decide +kernel
/-- The cells of a byte after the clock cell 0 of each data cell, of quality 3. -/
def byteCells (b : Byte) : List Cell :=
  cellsOf ((List.range 16).map (fun k => decide (k % 2 = 1) && b.getLsbD (7 - k / 2)))
/-- The surroundings of a pass of volume 0 by a profile, at a sector counter. -/
def surroundings (p : Profile) (counter : Nat) : DecoderEnv := { profile := p, volume := 0, sectorCounter := counter }
/-- Cell `k` of a list. -/
def cellAt (cells : List Cell) (k : Nat) : Cell := cells.getD k { value := false, quality := 0, kind := .normal, interval := 0 }
/-- A decoder one cell short of a sync pattern. -/
def syncing (st : DecoderState) : Decoder := { Decoder.reset with
  state := st, recent := ((patternCells floppy.syncPattern 16).take 15).reverse, syncRun := 2, sinceSync := 15 }
theorem witness_BytesFromCells_sync :
    let last := { cellAt cells16 0 with value := true }
    (syncing .hunt).direction = .forward ∧ 1 ≤ floppy.syncLength ∧ floppy.syncLength ≤ 32 ∧
      ((last.value :: (syncing .hunt).recent).take 16).reverse = patternCells floppy.syncPattern 16 ∧
      ((syncing .hunt).takeCell (surroundings floppy 0) last).decoder.state = .mark ∧
      ({ syncing .hunt with syncRun := 1 }.takeCell (surroundings floppy 0) last).decoder.state = .hunt ∧
      ((syncing .hunt).takeCell (surroundings floppy 0) (cellAt cells16 0)).decoder.syncRun = 0 := by decide +kernel
/-- A decoder in MARK one cell short of a byte. -/
def marking (b : Byte) (d : Decoder) : Decoder := { d with state := .mark, assembly := (byteCells b).take 15 }
/-- R70, R71: the marks FE, FB and F8 of the example profile, a byte that is no mark, and one more sync pattern. -/
theorem witness_BytesFromCells_marks :
    let took (b : Byte) := ((marking b Decoder.reset).takeCell (surroundings floppy 0) (cellAt (byteCells b) 15)).decoder
    (took 0xFE).state = .header ∧ (took 0xFB).state = .data ∧ (took 0xFB).markClass = .data ∧
      (took 0xF8).markClass = .deleted ∧ (took 0x07).state = .hunt ∧
      ({ marking 0 Decoder.reset with assembly := cellsOf ((patternCells floppy.syncPattern 16).take 15), syncRun := 1 }.takeCell
        (surroundings floppy 0) { cellAt cells16 0 with value := true }).decoder.syncRun = 2 := by decide +kernel
theorem witness_HeaderTested_field :
    (0 : Nat) + 16 ≤ 8 * ([0x12, 0x34] : List Byte).length ∧ fieldValue ⟨0, 16, true⟩ [0x12, 0x34] = some 0x3412 ∧
      fieldValue ⟨0, 16, false⟩ [0x12, 0x34] = some 0x1234 ∧ fieldValue ⟨0, 0, false⟩ [0x12] = none := by decide +kernel
/-- A decoder in GAP at a gap count. -/
def gapped (n : Nat) : Decoder := { syncing .gap with
  gapCount := n, heldIdentity := some { sector := some 8, cyl := some 18, head := some 1 } }
/-- R75: the identity is kept at 688 cells and dropped at 689; a sync run that ends there comes first. -/
theorem witness_HeaderTested_gap :
    let took (n : Nat) (v : Bool) := ((gapped n).takeCell (surroundings floppy 0) { cellAt cells16 0 with value := v }).decoder
    43 * 16 = 688 ∧ (took 687 false).state = .gap ∧ (took 688 false).state = .hunt ∧ (took 688 true).state = .mark ∧
      (took 688 true).heldIdentity = (gapped 0).heldIdentity := by decide +kernel
/-- The block of section 4.9, read in reverse, as its mark byte comes. -/
def reversed (mark : Byte) (header : List Byte) : Decoder := { Decoder.reset with
  state := .blockRev, direction := .reverse, track := 3, passNumber := 1, cursor := 0
  block := (header ++ [0x4E, 0x4F, 0x00, 0xFF, 0x05]).map (fun b => Deposit.mk b 4)
  assembly := (byteCells mark).reverse.take 15 }
/-- Section 4.9: the block gives the reading 4E 4F 00 FF of sector 17 on lane 3, check_ok; and what each test rejects. -/
theorem witness_ReverseBlockTruncated_block :
    let took (mark : Byte) (header : List Byte) :=
      (reversed mark header).takeCell (surroundings tape 0) (cellAt (byteCells mark).reverse 15)
    tape.medium = .cartridge ∧ tape.endLength ≤ 32 ∧
      ((took 0xFB [0x03, 0x11, 0xE9]).reading.map (fun x => (x.sector, x.data, x.checkOk, x.markClass))) =
        some (3 * 64 + 17, [0x4E, 0x4F, 0x00, 0xFF], true, .data) ∧
      (took 0xFB [0x03, 0x11, 0xE8]).decoder.tallies = { Tallies.zero with badHeader := 1 } ∧
      (took 0xFB [0x04, 0x11, 0xEE]).decoder.tallies = { Tallies.zero with wrongTrack := 1 } ∧
      (took 0xFB [0x03, 0x40, 0xB8]).decoder.tallies = { Tallies.zero with outOfGeometry := 1 } ∧
      (took 0x00 [0x03, 0x11, 0xE9]).decoder.tallies = Tallies.zero := by decide +kernel
theorem witness_ReverseBlockTruncated_hunt :
    let d : Decoder := { Decoder.reset with
      direction := .reverse, recent := (patternCells tape.endPattern 16).drop 1 }
    d.state = .hunt ∧ (d.takeCell (surroundings tape 0) (cellAt cells16 0)).decoder.state = .blockRev ∧
      (d.takeCell (surroundings tape 0) (cellAt cells16 0)).decoder.cursor = 8 ∧
      (d.takeCell (surroundings tape 0) (cellAt cells16 1)).decoder.state = .hunt := by decide +kernel
/-- R78: the identity a data mark takes on hard-sectored media: the window's number, MISPLACED where the header names another,
an orphan in a window whose header was rejected. -/
theorem witness_TruncatedFieldRead_identity :
    let held (n : Option Nat) : Decoder := { Decoder.reset with
      markCounter := 4, markGap := 688, heldIdentity := n.map (fun k => { sector := some k, cyl := none, head := none }) }
    let took (p : Profile) (d : Decoder) := ((marking 0xFB d).takeCell (surroundings p 4) (cellAt (byteCells 0xFB) 15)).decoder
    (took hard (held (some 4))).identity = .sector 4 ∧ (took hard (held (some 5))).identity = .misplaced ∧
      (took hard (held none)).identity = .sector 4 ∧
      (took hard { held none with rejectedWindow := some 4 }).identity = .orphan ∧
      (took floppy (held (some 8))).identity = .sector 8 ∧ (took floppy (held none)).identity = .orphan ∧
      (took floppy { held (some 8) with markGap := 689 }).identity = .orphan ∧
      (took { tape with dataMark := floppy.dataMark } (held none)).identity = .orphan := by decide +kernel
/-- The block of section 4.9, read forward, one cell short of its last byte, its identity as given. -/
def forwardBlock (n : Nat) (id : FieldIdentity) : Decoder := { Decoder.reset with
  state := .data, track := 3, passNumber := 1, identity := id, cursor := n
  block := ((([0xFB, 0x03, 0x11, 0xE9, 0x4E, 0x4F, 0x00, 0xFF, 0x05] : List Byte).take n).map (fun b => Deposit.mk b 4)).reverse
  assembly := (byteCells (([0xFB, 0x03, 0x11, 0xE9, 0x4E, 0x4F, 0x00, 0xFF, 0x05] : List Byte).getD n 0)).take 15 }
/-- Section 4.9, forward: the header's last byte names sector 17, the block's last byte gives the reading, an orphan gives
none. -/
theorem witness_TruncatedFieldRead_block :
    let took (n : Nat) (id : FieldIdentity) := (forwardBlock n id).takeCell (surroundings tape 0)
      (cellAt (byteCells (([0xFB, 0x03, 0x11, 0xE9, 0x4E, 0x4F, 0x00, 0xFF, 0x05] : List Byte).getD n 0)) 15)
    (took 3 .orphan).decoder.identity = .sector 17 ∧ (took 3 .orphan).decoder.cursor = 4 ∧
      (took 5 (.sector 17)).decoder.block.length = 6 ∧ (took 8 (.sector 17)).reading.map (fun x => (x.data, x.checkOk)) =
        some ([0x4E, 0x4F, 0x00, 0xFF], true) ∧
      (took 8 .orphan).decoder.tallies = { Tallies.zero with orphans := 1 } ∧ (took 8 .misplaced).reading = none ∧
      1 ≤ tape.dataLength := by decide +kernel
/-- R97: each key decides where those before it are equal. -/
theorem witness_RankOrderSorts :
    let c : Candidate := { volume := 0, sector := 0, markClass := .data, checkOk := false, origin := .read, matchCount := 1, score := 5
                           serial := 2, markByte := 0, recordedCheck := 0, entered := 2 }
    ranksAbove { c with checkOk := true } { c with matchCount := 9 } = true ∧
      ranksAbove { c with matchCount := 2 } { c with score := 9 } = true ∧
      ranksAbove { c with score := 6 } { c with serial := 0 } = true ∧
      ranksAbove { c with serial := 1 } { c with entered := 0 } = true ∧ ranksAbove { c with entered := 1 } c = true ∧
      ranksAbove c c = false ∧ example68.descriptor 37 ≠ none ∧ example68.descriptor 38 ≠ none := by decide +kernel
/-- R159: a length above 2048 whose bytes hold a SOF: the search goes on inside, and a frame that stands there is found.  The inner
frame is an IDENT with tag 9. -/
def innerFrame : List Byte := frameBytes { kind := 0x01, tag := 9, payload := [] }
theorem witness_BytesReceived_inside :
    2048 < (0xFF : Byte).toNat + 256 * (0xFF : Byte).toNat ∧ part.link.received = [] ∧
      (after (.frameAbandoned ([0xB7, 0xFF, 0xFF, 0, 0] ++ innerFrame)) part).link.linkErrors = 1 ∧
      ((after (.frameAbandoned ([0xB7, 0xFF, 0xFF, 0, 0] ++ innerFrame)) part).link.outbound.map (·.tag)) = [9] ∧
      (after (.frameAbandoned (innerFrame.drop 3)) (after (.frameAbandoned (innerFrame.take 3)) part)).link =
        (after (.frameAbandoned innerFrame) part).link := by decide +kernel
/-- A fetch and a SUMMARY notice wait for the same room. -/
def meeting : State := fetching.setLink { fetching.link with
  outbound := [⟨0x81, 0, []⟩], pendingSets := qset fetching.link.pendingSets 1 (NoticeSet.empty.add .media) }
theorem witness_EntryLeftReportsRoom_meeting :
    meeting.fetches ≠ [] ∧ qget meeting.link.pendingSets 1 ≠ .empty ∧ meeting.link.enumerated = true ∧
      meeting.link.restart = .idle ∧ meeting.link.outbound = [⟨0x81, 0, []⟩] := by decide +kernel
/-- R13 to R16: the example image passes each of the eleven steps. -/
theorem witness_ProfileLoadStores_steps : ∀ k, 1 ≤ k → k ≤ 11 → ValidationStep image k := by
  intro k h1 h2
  have hk : k = 1 ∨ k = 2 ∨ k = 3 ∨ k = 4 ∨ k = 5 ∨ k = 6 ∨ k = 7 ∨ k = 8 ∨ k = 9 ∨ k = 10 ∨ k = 11 := by omega
  rcases hk with rfl | rfl | rfl | rfl | rfl | rfl | rfl | rfl | rfl | rfl | rfl
  · simp only [ValidationStep]; decide +kernel
  · simp only [ValidationStep]; decide +kernel
  · simp only [ValidationStep]; decide +kernel
  · simp only [ValidationStep]; rw [image_crc]; decide +kernel
  · simp only [ValidationStep]; decide +kernel
  · simp only [ValidationStep]; decide +kernel
  · simp only [ValidationStep]
    refine ⟨by decide +kernel, by decide +kernel, ⟨1, by decide +kernel, by decide +kernel⟩, by decide +kernel,
      by decide +kernel, fun h => absurd h (by decide +kernel), fun _ => by decide +kernel⟩
  · simp only [ValidationStep]; decide +kernel
  · simp only [ValidationStep]; decide +kernel
  · simp only [ValidationStep]; decide +kernel
  · simp only [ValidationStep]
    intro h
    exact absurd h (by decide +kernel)
/-- Images that fail one step: the signature, the version, a reserved medium, a gain check of 0, the data gap limit's place. -/
theorem witness_ProfileLoadStores_fails :
    ¬ ValidationStep [] 1 ∧ ¬ ValidationStep (image.set 4 2) 2 ∧ ¬ ValidationStep (image.take 98) 3 ∧
      ¬ ValidationStep (image.set 21 3) 5 ∧ ¬ ValidationStep (image.set 29 0) 6 ∧ ¬ ValidationStep (image.set 45 5) 7 ∧
      ¬ ValidationStep (image.set 53 0xFF) 8 ∧ ¬ ValidationStep (image.set 57 13) 9 ∧
      ¬ ValidationStep ((image.set 69 0).set 70 0) 10 := by
  refine ⟨?_, ?_, ?_, ?_, ?_, ?_, ?_, ?_, ?_⟩ <;> simp only [ValidationStep]
  · decide +kernel
  · decide +kernel
  · decide +kernel
  · decide +kernel
  · decide +kernel
  · rintro ⟨-, -, -, -, h, -⟩
    exact absurd h (by decide +kernel)
  · decide +kernel
  · decide +kernel
  · decide +kernel
/-- R35: the counter of a hard-sectored pass is not shown by the soft-sectored volume mounted next. -/
theorem test_mount_clears_sector_counter :
    let s := withChannel 1 (fun c => { c with sectorCounter := 7 }) part
    ((after (.mount 4 [1, 0, 0, 0, 0, 0, 0]) s).channel 1).sectorCounter = 0 ∧
      ((after (.mount 4 [1, 2, 0, 0, 0, 0, 0]) s).channel 1).sectorCounter = 7 := by decide +kernel
/-- R112, R114: a restart keeps what candidate memory holds; a power-on reset tests the banks afresh. -/
theorem test_restart_keeps_candidate_memory :
    let env : Environment := ⟨⟨ready, ready, ready, ready⟩, true, true, ⟨true, true, true, true⟩, ⟨true, true, true, true⟩⟩
    let s : State := { part.setLink { part.link with restart := .due } with
      pool := { part.pool with memory := writeArea [] 37 [0x4E] [4] } }
    (areaOf (after (.restartBegin env) s).pool.memory 37).data.take 1 = [0x4E] ∧
      (areaOf (after (.powerOnReset env) s).pool.memory 37).data.take 1 = [0] := by decide +kernel
/-- FAULTED channels whose drive is there, or is gone. -/
theorem witness_MountCreatesVolume_sense :
    let gone := withChannel 2 (fun c => { c with state := .faulted }) cartridgeGone
    let back := withChannel 0 (fun c => { c with state := .faulted }) part
    Accepts gone 0x20 [2, 1, 0, 0, 0, 0, 0] ∧ (gone.channel 2).state = .faulted ∧ (gone.channel 2).sensed = false ∧
      Accepts back 0x20 [0, 0, 0, 0, 0, 0, 0] ∧ (back.channel 0).state = .faulted ∧ (back.channel 0).sensed = true ∧
      ((after (.mount 4 [2, 1, 0, 0, 0, 0, 0]) gone).channel 2).state = .absent ∧
      ((after (.mount 4 [0, 0, 0, 0, 0, 0, 0]) back).channel 0).state = .idle :=
  ⟨accepts_of (by decide +kernel), by decide +kernel, by decide +kernel, accepts_of (by decide +kernel),
    by and_intros <;> decide +kernel⟩
/-- A RECAL request in flight, and two fetches, on a quiet volume's channel. -/
def recalAndFetches : State :=
  let s := withChannel 0 (fun c => { c with
    state := .recal, recal := some flight, recalStage := some { rewinding := false, pulses := 3 } }) (floppyPart id)
  (s.setLink { s.link with
    requests := [{ id := 0, kind := 0x38, tag := 9 }, { id := 1, kind := 0x40, tag := 5 }, { id := 2, kind := 0x40, tag := 6 }]
    nextId := 3 }).setFetches [fetchEntry 1 5 0 freshVolume 0 4 .best true, fetchEntry 2 6 0 freshVolume 7 1 .best true]
/-- R48, R107, R155: the RECAL is answered ABORTED, then the fetches VOLUME_GONE in their order, then the UNMOUNT. -/
theorem witness_UnmountReleases_recal :
    recalAndFetches.link.idsFresh ∧ Accepts recalAndFetches 0x21 [chanByte 0] ∧
      (recalAndFetches.channel 0).recal = some flight ∧ (recalAndFetches.volume 0).isSome = true ∧
      (sent (.unmount 8 [0]) recalAndFetches).map (fun f => (f.kind, f.tag, f.payload)) =
        [(0xB8, 9, b1 (statusCode .aborted)), (0xC0, 5, b1 (statusCode .volumeGone) ++ [4, 0, 0, 0]),
          (0xC0, 6, b1 (statusCode .volumeGone) ++ [1, 0, 0, 0]), (0xA1, 8, [0])] ∧
      ((after (.unmount 8 [0]) recalAndFetches).channel 0).state = .holding := by
  have h := request_of (s := recalAndFetches) (kind := 0x21) (payload := [chanByte 0]) (by decide +kernel)
  exact ⟨h.1, h.2, by and_intros <;> decide +kernel⟩
/-- A volume with track 1 DONE, all its records EXCLUDED but one, and run COMPLETE. -/
def nearlyDone : Volume := ((List.range 9).foldl (fun v k => v.putRecord (9 + k) { SectorRecord.fresh with state := .excluded })
  freshVolume).setTrackState 1 .done |>.setPlanner (fun a => { a with run := .complete })
/-- R140: EXCLUDE of track 0 makes it DONE; a sector of track 1 cleared makes that track PENDING again, and the volume STOPPED. -/
theorem witness_ExcludeApplies_planner :
    nearlyDone.planner.tracks.length = nearlyDone.trackCount ∧ nearlyDone.planner.pendingMap.length = nearlyDone.trackCount ∧
      mapOk .fresh nearlyDone.records = true ∧ (nearlyDone.plan 1).state = .done ∧ (nearlyDone.plan 0).state = .pending ∧
      Accepts (floppyPart (fun _ => nearlyDone)) 0x22 [chanByte 0, 0, 0, 9, 0, 0] ∧
      ((after (.exclude 6 [0, 0, 0, 9, 0, 0]) (floppyPart (fun _ => nearlyDone))).volume 0).map
        (fun w => ((w.plan 0).state, w.isPending 0, w.planner.run)) = some (.done, false, .complete) ∧
      ((after (.exclude 6 [0, 9, 0, 1, 0, 1]) (floppyPart (fun _ => nearlyDone))).volume 0).map
        (fun w => ((w.plan 1).state, w.isPending 1, w.planner.run)) = some (.pending, true, .stopped) := by
  refine ⟨by decide +kernel, by decide +kernel, by decide +kernel, by decide +kernel, by decide +kernel,
    accepts_of (by decide +kernel), by decide +kernel, by decide +kernel⟩
/-- A volume whose track 0 stands at its pass budget. -/
def spentTrack (pending : List Nat) : Volume := (freshVolume.setPlan 0 (fun e => { e with passesUsed := 8 })).setPlanner
  (fun a => { a with pendingMap := (List.range 160).map (fun k => pending.contains k) })
/-- R135: the spent track is EXHAUSTED and its records LOST; the next is ordered, or the volume ends. -/
theorem witness_StartRuns_spent :
    Accepts (floppyPart (fun _ => spentTrack [0, 3])) 0x30 [chanByte 0] ∧ (spentTrack [0, 3]).isPending 0 = true ∧
      (spentTrack [0, 3]).planner.passBudget ≤ ((spentTrack [0, 3]).plan 0).passesUsed ∧
      (spentTrack [0, 3]).planner.tracks.length = 160 ∧ (spentTrack [0, 3]).planner.pendingMap.length = 160 ∧
      ((after (.start 1 [0]) (floppyPart (fun _ => spentTrack [0, 3]))).volume 0).map (fun w =>
        ((w.plan 0).state, (w.record 8).state, (w.record 9).state, w.planner.outstanding, (w.summary 0).lost)) =
          some (.exhausted, .lost, .unseen, some 3, 9) ∧
      (sent (.start 1 [0]) (floppyPart (fun _ => spentTrack [0]))).map (·.kind) = [0x62, 0x63, 0xB0] ∧
      ((after (.start 1 [0]) (floppyPart (fun _ => spentTrack [0]))).volume 0).map (fun w =>
        (w.planner.run, w.planner.phase)) = some (.endedPartial, .recovery) := by
  refine ⟨accepts_of (by decide +kernel), by and_intros <;> decide +kernel⟩
/-- A volume whose wear is spent, with tracks 0 and 2 PENDING and the others DONE. -/
def spentWear : Volume := freshVolume.setPlanner (fun a => { a with
  wearUsed := 100, pendingMap := (List.range 160).map (fun k => k == 0 || k == 2)
  tracks := (List.range 160).map (fun k =>
    { state := if k = 0 ∨ k = 2 then .pending else .done, passesUsed := 0, ladderStep := 0, misplaced := false }) })
/-- R135: every track but the DONE ones is EXHAUSTED with its records LOST, and the volume ends in its phase. -/
theorem witness_StartRuns_wear :
    Accepts (floppyPart (fun _ => spentWear)) 0x30 [chanByte 0] ∧ spentWear.planner.wearBudget < spentWear.planner.wearUsed + 1 ∧
      (spentWear.plan 0).passesUsed < spentWear.planner.passBudget ∧ spentWear.isPending 0 = true ∧
      ((after (.start 1 [0]) (floppyPart (fun _ => spentWear))).volume 0).map (fun w =>
        ((w.plan 0).state, (w.plan 1).state, (w.plan 2).state, (w.record 0).state, (w.record 9).state, (w.record 26).state)) =
          some (.exhausted, .done, .exhausted, .lost, .unseen, .lost) ∧
      (sent (.start 1 [0]) (floppyPart (fun _ => spentWear))).map (·.kind) = [0x63, 0xB0] := by
  refine ⟨accepts_of (by decide +kernel), by and_intros <;> decide +kernel⟩
/-- R26, R49: an order held for a RECAL in flight, taken in HOLDING where the head stands, and taken with the position not
known. -/
theorem witness_StartRuns_order :
    let took (f : Channel → Channel) := (f (part.channel 0)).takeOrder floppy (order 37 .forward)
    (took (fun c => { c with recal := some flight })).heldOrder = some (order 37 .forward) ∧
      (took (fun c => { c.enterHolding with positionKnown := true, position := 18 })).state = .armed ∧
      (took (fun c => { c.enterHolding with positionKnown := true, position := 10 })).state = .seeking ∧
      (took (fun c => { c.enterHolding with positionKnown := true, position := 40 })).position = 39 ∧
      (took Channel.enterHolding).state = .recal ∧ (took id).state = .spinup ∧ (took id).headSelected = 1 := by decide +kernel
/-- Track 0 EXHAUSTED with four LOST records: two check_ok candidates, one candidate, none, and one SETTLED. -/
def revertible : Volume :=
  let lost (l : List Nat) : SectorRecord := { SectorRecord.fresh with state := .lost, candidates := l }
  ((((((freshVolume.putRecord 0 (lost [37, 38])).putRecord 1 (lost [52])).putRecord 2 (lost [])).putRecord 3
    { SectorRecord.fresh with state := .settled, settled := some settledInfo }).setPlan 0
    (fun e => { e with passesUsed := 8 })).setTrackState 0 .exhausted).setPlanner (fun a => { a with run := .endedPartial })
theorem witness_ExtendRaises_records :
    let s : State := { floppyPart (fun _ => revertible) with pool := (example68.markOk 37).markOk 38 }
    Accepts s 0x33 [chanByte 0, 1, 0, 0] ∧ s.volume 0 = some revertible ∧
      revertible.planner.pendingMap.length = revertible.trackCount ∧ mapOk .fresh revertible.records = true ∧
      (revertible.plan 0).state = .exhausted ∧ (revertible.record 0).state = .lost ∧ (revertible.record 3).state ≠ .lost ∧
      ((after (.extend 1 [0, 1, 0, 0]) s).volume 0).map (fun w => ([0, 1, 2, 3].map (fun i => (w.record i).state), (w.summary 0).opn,
        (w.plan 0).state, w.isPending 0, w.planner.run)) =
          some ([.contested, .weak, .unseen, .settled], 8, .pending, true, .stopped) := by
  refine ⟨accepts_of (by decide +kernel), rfl, by and_intros <;> decide +kernel⟩

/-- The report of a channel's last handed item, as completion, units and cause. -/
def lastReport (c : Channel) : Option (Bool × Nat × Cause) :=
  match c.handed.getLast? with
  | some (.report r) => some (r.captureBegan, r.units, r.cause)
  | _ => none
/-- A RECAL in flight meets a fault with a volume mounted: RECAL_FAILED with the fault's code, then a FAULT notice. -/
theorem witness_FaultTaken_recal :
    let s := recalAndFetches
    (s.channel 0).state = .recal ∧ (s.channel 0).recal = some flight ∧ (s.channel 0).probe = none ∧
      (s.channel 0).completing = false ∧ (s.channel 0).pass = none ∧ (s.channel 0).heldOrder = none ∧
      readyWatched (s.channel 0).state = true ∧ (s.volume 0).map (fun v => v.planner.run) = some .stopped ∧
      (sent (.readyFalling 0 ready) s).map (fun f => (f.kind, f.tag)) = [(0xB8, 9), (0x64, 0)] := by decide +kernel
/-- The other cuts of R42: a capture, a capture after winding, and an order held behind a RECAL; and no volume mounted. -/
theorem witness_FaultTaken_cuts :
    let taping (w : Bool) := withChannel 2 (capturing tape { passOf 3 .forward with windingBegun := w }) armedTape
    let held := withChannel 0 (fun c => { c with heldOrder := some (order 37 .forward) }) recalAndFetches
    lastReport ((after (.readyFalling 0 ready) (counting 0)).channel 0) = some (true, 1, .fault .notReady) ∧
      lastReport ((after (.markerWatchExpiry 2 ready) (taping false)).channel 2) = some (true, 1, .fault .markerLost) ∧
      lastReport ((after (.markerWatchExpiry 2 ready) (taping true)).channel 2) = some (true, 2, .fault .markerLost) ∧
      lastReport ((after (.readyFalling 0 ready) held).channel 0) = some (false, 0, .fault .notReady) ∧
      (recalibrating 100).volume 0 = none ∧ ((recalibrating 100).channel 0).pass = none := by decide +kernel
/-- R45, R48: a media change under a RECAL with a volume mounted, under a capture, and under a held order. -/
theorem witness_MediaChangeTaken_recal :
    let s := recalAndFetches
    let held := withChannel 0 (fun c => { c with heldOrder := some (order 37 .forward) }) s
    (s.channel 0).recal = some flight ∧ (s.volume 0).isSome = true ∧ (s.channel 0).completing = false ∧
      (sent (.mediaChange 0 ready) s).map (fun f => (f.kind, f.tag)) = [(0xB8, 9), (0x65, 0)] ∧
      lastReport ((after (.mediaChange 0 ready) held).channel 0) = some (false, 0, .media) ∧
      ((counting 0).channel 0).state = .capturing ∧ ((counting 0).channel 0).completing = false ∧
      lastReport ((after (.mediaChange 0 ready) (counting 0)).channel 0) = some (true, 1, .media) ∧
      ((handing [] (runningOn 0)).channel 0).pass = none ∧
      ((handing [] (runningOn 0)).volume 0).map (fun v => v.planner.run) = some .running := by decide +kernel
/-- R99: an identical reading raises the confidences of a SETTLED record's bytes. -/
theorem witness_ReadingTaken_settled :
    (settledPart.channel 0).handed = [.reading (readingOf 0xAA true)] ∧ memoryOk settledPart.image = true ∧
      (settledPart.volume 0).map (fun v => (v.record 337).settled) = some (some settledInfo) ∧
      ((areaOf settledPart.image 337).data.take 1, (areaOf settledPart.image 337).confidences.take 1) = ([0xAA], [2]) ∧
      (areaOf (after (.reading 0) settledPart).image 337).confidences.take 1 = [3] := by decide +kernel
/-- The record of section 6.8 with its three candidates, and a reading of it. -/
def example68Work (held : List Nat) : Work :=
  { record := { SectorRecord.fresh with state := .weak, candidates := held }, pool := example68, image := [] }
/-- What is fixed while a reading of four bytes is taken into it. -/
def example68Env (data : List Byte) (confidences : List Nat) (checkOk : Bool) (p : Profile) : ReadingEnv :=
  { channel := 2, profile := p, serial := 4, recordNumber := 17
    reading := { readingOf 0 checkOk with sector := 0, data := data, confidences := confidences } }
/-- R98 to R101: a merge, a candidate in a free slot, and, with no room, one that ranks above the lowest and one below. -/
theorem witness_ReadingTaken_merge :
    let k := example68Work [37, 38, 52]
    let crowded : Work := { k with pool := { example68 with freeList := [] } }
    let same := example68Env [0x4E, 0x4F, 0x40, 0xFF] [1, 4, 1, 1] false tape
    let other := example68Env [0x4E, 0x4F, 0x41, 0xFF] [4, 4, 4, 4] false tape
    let poor := example68Env [0x4E, 0x4F, 0x41, 0xFF] [1, 1, 1, 1] false tape
    mapOk none k.pool.descriptors = true ∧ memoryOk k.pool.memory = true ∧
      k.pool.sameVersion 38 same.reading.data .data = true ∧
      ([37, 38, 52].filter (fun n => k.pool.sameVersion n other.reading.data .data)) = [] ∧
      ((k.mergeOrForm same).pool.descriptor 38).map (fun c => (c.matchCount, c.score)) = some (2, 11) ∧
      (k.mergeOrForm other).record.candidates = [37, 40, 38, 52] ∧
      (crowded.mergeOrForm other).record.candidates = [37, 52, 38] ∧
      (crowded.mergeOrForm poor).record.candidates = [37, 38, 52] ∧
      (crowded.mergeOrForm poor).record.overflowed = true ∧
      ({ crowded with record := { k.record with candidates := [] } }.mergeOrForm poor).record.candidates = [] := by
  decide +kernel
/-- A work whose candidates 37 and 38 are check_ok. -/
def bothOk (held : List Nat) : Work := { example68Work held with pool := (example68.markOk 37).markOk 38 }
/-- R102, R103: a lead of 2, a lead of 1, one check_ok candidate below the quorum, and none. -/
theorem witness_ReadingTaken_evaluate :
    let e := example68Env [0x4E, 0x4F, 0x00, 0xFE] [1, 1, 1, 1] true tape
    let alone : Work := { example68Work [37, 52] with pool := example68.markOk 37 }
    let lone : Work := { example68Work [38, 52] with pool := example68.markOk 38 }
    mapOk none (bothOk [37, 38]).pool.descriptors = true ∧ memoryOk (bothOk [37, 38]).pool.memory = true ∧
      (alone.evaluate e).record.state = .settled ∧ (alone.evaluate e).pool.freeList = [37, 40, 41, 52] ∧
      ((bothOk [37, 38]).evaluate e).record.state = .contested ∧ (lone.evaluate e).record.state = .weak ∧
      ((example68Work [37, 38]).evaluate e).record.state = .weak ∧
      ({ lone with record := { lone.record with state := .lost } }.evaluate e).record.state = .lost ∧
      (∀ slot ∈ [37, 38, 52], (example68.descriptor slot).isSome = true) := by decide +kernel
/-- R103, R126, R127: the fusion of section 6.8, with the profile's fusion settling and not, into a free slot, into the lowest's,
and onto a candidate of the same version; and a fusion whose check fails. -/
theorem witness_ReadingTaken_fusion :
    let e := example68Env [0x4E, 0x4F, 0x00, 0xFE] [1, 1, 1, 1] false { tape with fusionSettles := false }
    let settling := { e with profile := { tape with fusionSettles := true } }
    let armed (l : List Nat) : Work := { example68Work l with record := { (example68Work l).record with fusionArmed := true } }
    let k := armed [37, 38, 52]
    let crowded : Work := { k with pool := { example68 with freeList := [] } }
    let c : Candidate := { volume := 0, sector := 0, markClass := .data, checkOk := false, origin := .read, matchCount := 1, score := 4
                           serial := 4, markByte := 0xFB, recordedCheck := 5, entered := 4 }
    let four : Work := { armed [37, 38, 52, 40] with
      pool := { example68.write 40 c [0x4E, 0x4F, 0x00, 0xFF] [1, 1, 1, 1] with freeList := [41] } }
    (example68.fuse tape 0 0 4 [37, 38, 52]).result = .good ∧ k.record.fusionArmed = true ∧
      (k.evaluate settling).record.state = .settled ∧ (k.evaluate e).record.candidates = [40, 37, 38, 52] ∧
      (crowded.evaluate e).record.candidates = [52, 37, 38] ∧ (crowded.evaluate e).record.overflowed = true ∧
      (four.evaluate e).record.state = .weak ∧
      ((four.evaluate e).pool.descriptor 40).map (·.checkOk) = some true ∧
      (k.evaluate { e with profile := { e.profile with checkType := .crc16 } }).record.fusionArmed = false := by decide +kernel

/-! ## Witnesses of the clauses on cuts, reports, spin-up, probes and headers -/

/-- What an ABORT leaves on a channel: state, tape end, position known, and the last report as capture, units and cause. -/
def abortLeaves (ch : Chan) (s : State) : ChanState × TapeEnd × Bool × Option (Bool × Nat × Cause) :=
  let c := (after (.abort 5 [chanByte ch]) s).channel ch
  (c.state, c.tapeEnd, c.positionKnown, lastReport c)
/-- R41, R42: an ABORT in SPINUP and CAPTURING on a floppy, and in WINDING, ARMED after a winding, CAPTURING and RECAL on a
cartridge, each with an order outstanding. -/
theorem witness_PauseAndAbort_cut :
    let wound (f : Channel → Channel) := withChannel 2 f armedTape
    let a : Pass := { passOf 3 .forward with windingBegun := true }
    (spinningUp.volume 0).map (fun v => (v.planner.run, v.planner.outstanding)) = some (.running, some 37) ∧
      (winding.volume 2).map (fun v => (v.planner.run, v.planner.outstanding)) = some (.running, some 3) ∧
      requestB winding 0x32 [chanByte 2] = true ∧ (winding.channel 2).completing = false ∧
      abortLeaves 0 spinningUp = (.holding, .none, true, some (false, 0, .abort)) ∧
      abortLeaves 0 (counting 0) = (.holding, .none, true, some (true, 1, .abort)) ∧
      abortLeaves 2 winding = (.holding, .none, true, some (false, 1, .abort)) ∧
      abortLeaves 2 (wound (inPass .armed a)) = (.holding, .none, true, some (false, 1, .abort)) ∧
      abortLeaves 2 (wound (capturing tape a)) = (.holding, .none, true, some (true, 2, .abort)) ∧
      abortLeaves 2 (wound (fun c => { inPass .spinup a c with tapeEnd := .eot })) =
        (.holding, .eot, true, some (false, 0, .abort)) ∧
      abortLeaves 2 rewinding = (.holding, .none, false, some (false, 0, .abort)) := by
  and_intros <;> decide +kernel
/-- A RECAL request in flight that holds an order of the RUNNING volume on channel 0. -/
def heldRecal : State := withChannel 0 (fun c => { c with
  state := .recal, recal := some flight, recalStage := some { rewinding := false, pulses := 3 }
  heldOrder := some (order 37 .forward) }) (recalWaits (floppyPart (runningOn 37)))
/-- R41: the held order is dropped and reported, and the recalibration goes on; a pass that has ended on its last pulse is not
cut; with no pass there is no report. -/
theorem witness_PauseAndAbort_no_pass :
    let t := after (.abort 5 [0]) heldRecal
    let ended := withChannel 0 (fun c => { c with completing := true, handed := [.reading (readingOf 0 false)] }) (counting 0)
    let quiet := withChannel 0 Channel.enterHolding (floppyPart (runningOn 37))
    requestB heldRecal 0x32 [chanByte 0] = true ∧ (heldRecal.channel 0).pass = none ∧
      (t.channel 0).state = .recal ∧ (t.channel 0).recal = some flight ∧ (t.channel 0).heldOrder = none ∧
      lastReport (t.channel 0) = some (false, 0, .abort) ∧
      (ended.channel 0).completing = true ∧ (ended.channel 0).heldOrder = none ∧
      abortLeaves 0 ended = (.holding, .none, true, none) ∧ (quiet.channel 0).pass = none ∧
      abortLeaves 0 quiet = (.holding, .none, false, none) := by
  and_intros <;> decide +kernel
/-- Two fetches of the RUNNING volume on channel 0, and one of another volume between them. -/
def twoFetches : State :=
  let s := floppyPart (runningOn 37)
  (s.setLink { s.link with
    requests := [{ id := 1, kind := 0x40, tag := 5 }, { id := 2, kind := 0x40, tag := 6 }, { id := 3, kind := 0x40, tag := 7 }]
    nextId := 4 }).setFetches [fetchEntry 1 5 0 freshVolume 0 4 .best true,
      fetchEntry 2 6 0 { freshVolume with uid := 9 } 7 1 .best true, fetchEntry 3 7 0 freshVolume 7 1 .best true]
theorem witness_PauseAndAbort_two_fetches :
    let ended := twoFetches.fetches.filter (fun e => e.volume == 0)
    requestB twoFetches 0x32 [chanByte 0] = true ∧ (∀ k, qget twoFetches.link.pendingSets k = .empty) ∧
      ended.map (fun e => (e.id, e.tag)) = [(1, 5), (3, 7)] ∧ (ended.map (·.id)).Nodup ∧
      ended.all (fun e => decide (twoFetches.link.requests.find? (fun r => r.id == e.id) =
        some { id := e.id, kind := 0x40, tag := e.tag })) = true := by decide +kernel

/-- The notices of a report, as kinds and as the payload's first bytes after channel and tag. -/
def noticesOf (i : Instr) (s : State) : List (Byte × List Byte) := (sent i s).map (fun f => (f.kind, (f.payload.drop 5).take 4))
/-- A cut of track 1, which has no open record left, by a fault on a verbose RUNNING volume. -/
def cutDone : State := handing [.report { reportOf false (.fault .indexLost) with track := 1 }] (fun _ =>
  { runningOn 1 nearlyDone with verbose := true })
/-- R138 steps 2 to 4, R141: TRACK with DONE, PASS with CUT, VOLUME with HALTED and the fault's code. -/
theorem witness_ReportsTaken_cut :
    (cutDone.channel 0).handed = [.report { reportOf false (.fault .indexLost) with track := 1 }] ∧
      (cutDone.volume 0).map (fun v => (v.planner.run, v.planner.outstanding, (v.summary 1).opn)) =
        some (.running, some 1, 0) ∧
      noticesOf (.cutReport 0) cutDone = [(0x62, [1, 0, BitVec.ofNat 8 (trackStateByte .done), 1]), (0x61, [1, 0, 1, 0]),
        (0x63, [BitVec.ofNat 8 (runByte .halted), BitVec.ofNat 8 (haltByte (.fault .indexLost)), 0, 1])] := by decide +kernel
/-- Track 0 with one pass left of its budget, and the pass reported on a PAUSING verbose volume. -/
def lastPass (v : Volume) : Volume :=
  ((runningOn 0 v).setPlan 0 (fun e => { e with passesUsed := 7 })).setPlanner (fun a => { a with run := .pausing })
/-- R104, R137 steps 5 to 7: the track is EXHAUSTED, its nine records LOST; TRACK, then PASS; then the volume is PAUSED. -/
theorem witness_ReportsTaken_exhausted :
    let s := handing [.report (reportOf true .none)] lastPass
    ((lastPass freshVolume).summary 0).opn ≠ 0 ∧ (lastPass freshVolume).mapsOk ∧
      (lastPass freshVolume).planner.passBudget ≤ ((lastPass freshVolume).plan 0).passesUsed + 1 ∧
      ((after (.passEndReport 0) s).volume 0).map (fun w => ((w.plan 0).state, w.summary 0, (w.record 8).state,
        (w.record 9).state)) = some (.exhausted, { opn := 0, settled := 0, lost := 9, excluded := 0 }, .lost, .unseen) ∧
      ((after (.passEndReport 0) s).volume 0).map (·.planner.run) = some .paused ∧
      (noticesOf (.passEndReport 0) s).map (·.1) = [0x62, 0x61] := by
  exact ⟨by decide +kernel, mapsOk_of (by decide +kernel) (by decide +kernel), by and_intros <;> decide +kernel⟩

/-- The tape in SPINUP with an order for lane 3, its channel and lines changed. -/
def tapeSpins (f : Channel → Channel) : State := withChannel 2 (fun c => f (inPass .spinup (passOf 3 .forward) c))
  (tapePart (runningOn 3))
/-- Where a spin-up ends: state, position, tape end, pulses and the direction the tape then runs in. -/
def spunUp (ch : Chan) (lines : Lines) (s : State) : ChanState × Nat × TapeEnd × Nat × Bool × Bool :=
  let c := (after (.spinupTimerExpiry ch lines) s).channel ch
  (c.state, c.position, c.tapeEnd, c.pulses, c.outputs.runFwd, c.outputs.runRev)
/-- R26, R29, R30, R32, R38: what follows a cartridge's spin-up: a seek, WINDING, a winding over at once, ARMED at BOT, CAPTURING
with BOT released, a rewind, the first lane pulse at BOT, and a recalibration over at once. -/
theorem witness_SpinupEnds_tape :
    let atBot : Lines := { ready with bot := true }
    let home : Lines := { atBot with lane0 := true }
    let onLane (e : TapeEnd) := tapeSpins (fun c => { c with position := 3, tapeEnd := e })
    let lost := tapeSpins (fun c => { c with positionKnown := false })
    ((onLane .bot).channel 2).state = .spinup ∧ ((onLane .bot).channel 2).kind = .cartridge ∧
      ((onLane .bot).channel 2).recal = none ∧ ((onLane .bot).channel 2).pass = some (passOf 3 .forward) ∧
      spunUp 2 ready (tapeSpins id) = (.seeking, 1, .none, 1, false, false) ∧
      spunUp 2 ready (onLane .none) = (.winding, 3, .none, 0, false, true) ∧
      spunUp 2 atBot (onLane .eot) = (.armed, 3, .none, 0, true, false) ∧
      spunUp 2 atBot (onLane .bot) = (.armed, 3, .none, 0, true, false) ∧
      spunUp 2 ready (onLane .bot) = (.capturing, 3, .none, 0, true, false) ∧
      spunUp 2 ready lost = (.recal, 0, .none, 0, false, true) ∧
      spunUp 2 atBot lost = (.recal, 0, .bot, 1, false, false) ∧
      spunUp 2 home lost = (.seeking, 1, .bot, 1, false, false) := by
  and_intros <;> decide +kernel
/-- R28, R48, R49: a floppy at TRACK0 is recalibrated at once, for a pass to cylinder 18 and for a RECAL request with and without
a held order; a cartridge at BOT and LANE0 for a request. -/
theorem witness_SpinupEnds_home :
    let atZero : Lines := { ready with track0 := true }
    let asked (ch : Chan) (o : Option PassOrder) (s : State) := withChannel ch (fun c => { c with
      state := .spinup, recal := some flight, heldOrder := o }) (recalWaits s)
    spunUp 0 atZero (spinningAt 5 false) = (.seeking, 1, .none, 1, false, false) ∧
      (asked 0 none part).channel 0 = Channel.drive { part.channel 0 with state := .spinup, recal := some flight } ∧
      spunUp 0 atZero (asked 0 none part) = (.holding, 0, .none, 0, false, false) ∧
      sent (.spinupTimerExpiry 0 atZero) (asked 0 none part) = [⟨0xB8, 9, [0]⟩] ∧
      spunUp 0 atZero (asked 0 (some (order 37 .forward)) part) = (.seeking, 1, .none, 1, false, false) ∧
      spunUp 2 { ready with bot := true, lane0 := true } (asked 2 none part) = (.holding, 0, .bot, 0, false, false) := by
  and_intros <;> decide +kernel

/-- R39, R40: the last reading of a completed pass acknowledged, its report behind it; and one that another reading follows. -/
theorem witness_ReadingTaken_completing :
    let ended (more : List Handed) := withChannel 0 (fun c => { c with
      completing := true, handed := .reading (readingOf 0xAA false) :: more }) (counting 0)
    let t (more : List Handed) := (after (.reading 0) (ended more)).channel 0
    ((ended []).channel 0).completing = true ∧ ((ended []).channel 0).state = .capturing ∧
      ((ended []).volume 0).map (·.uid) = some (readingOf 0xAA false).volume ∧
      ((t [.report (reportOf true .none)]).state, (t [.report (reportOf true .none)]).holdTimer) = (.holding, some 2000) ∧
      (t [.report (reportOf true .none)]).pass = none ∧
      (t [.reading (readingOf 0xAB false)]).state = .capturing ∧
      (t [.reading (readingOf 0xAB false)]).completing = true := by decide +kernel

/-- The part being probed for a MOUNT of a slot's profile. -/
def probingFor (slot : Nat) (s : State) : State := withChannel 0 (fun c => { c with inputs := .quiet }.startProbe
  { id := 0, slot := slot, volumeTag := 7, verbose := false }) (s.setLink { s.link with
    requests := [{ id := 0, kind := 0x20, tag := 4 }], nextId := 1 })
/-- R23, R106: a tape's profile is refused with WRONG_MEDIUM and a full store with NO_ROOM; what comes during the probe waits. -/
theorem witness_PresenceProbed_refused :
    ((probingFor 1 part).channel 0).probe.map (·.mount.slot) = some 1 ∧ ((probingFor 1 part).slot 1).held = some tape ∧
      tape.medium = .cartridge ∧
      sent (.presenceProbeEnd 0 ready) (probingFor 1 part) = [⟨0xA0, 4, b1 (statusCode .wrongMedium)⟩] ∧
      firstFit (probingFor 0 storeFull).runs (trackCountOf floppy * floppy.sectors) = none ∧
      sent (.presenceProbeEnd 0 ready) (probingFor 0 storeFull) = [⟨0xA0, 4, b1 (statusCode .noRoom)⟩] ∧
      acceptsB probing 0x38 [chanByte 0] = true ∧ acceptsB probing 0x20 [chanByte 0, 0, 1, 2, 3, 4, 1] = true ∧
      ((after (.recal 9 [0]) probing).channel 0).probe.map (·.deferred) = some [.recal 1 9] ∧
      ((after (.mediaChange 0 ready) probing).channel 0).probe.map (·.deferred) = some [.media] ∧
      ((after (.mount 9 [0, 0, 1, 0, 0, 0, 1]) probing).channel 0).probe.map (·.deferred) =
        some [.mount { id := 1, slot := 0, volumeTag := 1, verbose := true }] ∧
      (part.channel 0).probe = none ∧ acceptsB part 0x38 [chanByte 0] = true := by decide +kernel

/-- R72: the header 12 01 09 02 of the example profile with its check, taken cell by cell after its mark, is held as sector 8. -/
theorem witness_HeaderTested_cells :
    let d : Decoder := { Decoder.reset with state := .header, track := 37, block := [⟨0xFE, 3⟩], cursor := 1 }
    let check := crc16 0xFFFF [0xFE, 18, 1, 9, 2]
    let cells := [18, 1, 9, 2, BitVec.ofNat 8 (check / 256), BitVec.ofNat 8 check].flatMap byteCells
    let t := cells.foldl (fun x c => (x.takeCell (surroundings floppy 0) c).decoder) d
    cells.length = 6 * 16 ∧ d.block.length + 6 = 1 + floppy.headerLength + 2 ∧ floppy.headerCheck = true ∧
      (d.takeCell (surroundings floppy 0) (cellAt cells 0)).decoder.assembly = cells.take 1 ∧
      ((cells.take 16).foldl (fun x c => (x.takeCell (surroundings floppy 0) c).decoder) d).block =
        [⟨18, 3⟩, ⟨0xFE, 3⟩] ∧
      t.state = .gap ∧ t.heldIdentity = some { sector := some 8, cyl := some 18, head := some 1 } := by decide +kernel

/-! ## Witnesses of the choice in RECOVERY, truncated fields, queues around a RESTART, cut captures and hard sectors -/

/-- The planner after START on a volume: run state, phase, order outstanding, current track, sweep. -/
def startLeaves (v : Volume) : Option (RunState × Phase × Option Nat × Nat × Sweep) :=
  ((after (.start 1 [chanByte 0]) (floppyPart (fun _ => v))).volume 0).map (fun w =>
    (w.planner.run, w.planner.phase, w.planner.outstanding, w.planner.currentTrack, w.planner.sweep))
/-- A volume in SURVEY past every PENDING track: 2 and 5 lie below its cursor. -/
def surveyOver : Volume := (recovering [2, 5] .up false).setPlanner (fun a => { a with phase := .survey, surveyCursor := 6 })
theorem witness_StartRuns_survey_over (j : Nat) (h : 6 ≤ j) : surveyOver.isPending j = false := by
  rcases Nat.lt_or_ge j 160 with hj | hj
  · exact (by decide +kernel : ∀ j, j < 160 → 6 ≤ j → surveyOver.isPending j = false) j hj h
  · exact recovering_bounded [2, 5] .up false j hj
/-- R133, R134: the choice of RECOVERY at START: onward, in reverse with the sweep turned, again, and from SURVEY with the sweep
DOWN; each chosen track fits its budgets. -/
theorem witness_StartRuns_recovery :
    (∀ v ∈ [recovering [2, 9] .up false, recovering [2] .up false, recovering [2, 5] .up true, surveyOver],
      requestB (floppyPart (fun _ => v)) 0x30 [chanByte 0] = true ∧ v.planner.outstanding = none ∧
      v.planner.run = .stopped ∧ v.planner.wearUsed + 1 ≤ v.planner.wearBudget ∧
      (v.recoveryChoice.1.any (fun k => decide ((v.plan k).passesUsed < v.planner.passBudget))) = true) ∧
    startLeaves (recovering [2, 9] .up false) = some (.running, .recovery, some 9, 9, .up) ∧
    startLeaves (recovering [2] .up false) = some (.running, .recovery, some 2, 2, .down) ∧
    startLeaves (recovering [2, 5] .up true) = some (.running, .recovery, some 5, 5, .up) ∧
    startLeaves surveyOver = some (.running, .recovery, some 2, 2, .down) := by
  and_intros <;> decide +kernel
/-- R135 in RECOVERY: track 9 at its pass budget is EXHAUSTED and track 2 chosen, the sweep turned; with the wear spent the volume
ends, its sweep as the choice left it. -/
theorem witness_StartRuns_recovery_spent :
    let v := (recovering [2, 9] .up false).setPlan 9 (fun e => { e with passesUsed := 8 })
    let worn := spentWear.setPlanner (fun a => { a with phase := .recovery, currentTrack := 3, sweep := .up })
    v.recoveryChoice = (some 9, .up) ∧ v.planner.passBudget ≤ (v.plan 9).passesUsed ∧ v.planner.pendingMap.length = 160 ∧
      startLeaves v = some (.running, .recovery, some 2, 2, .down) ∧ worn.recoveryChoice = (some 2, .down) ∧
      startLeaves worn = some (.endedPartial, .recovery, none, 3, .down) := by
  and_intros <;> decide +kernel

/-- R79, R84: what the capture end leaves of a truncated field by its identity: whether there is a reading, and the two tallies. -/
theorem witness_TruncatedFieldRead_orphan :
    let left (id : FieldIdentity) (n : Nat) : Bool × Nat × Nat :=
      let a := { fieldCut with identity := id, tallies := { Tallies.zero with orphans := n, misplaced := 1 } }.cutShort
        (surroundings tape 0)
      (a.2.isSome, a.1.tallies.orphans, a.1.tallies.misplaced)
    left .orphan 4 = (false, 5, 1) ∧ left .orphan 65535 = (false, 65535, 1) ∧ left .misplaced 4 = (false, 4, 1) ∧
      left (.sector 17) 4 = (true, 4, 1) := by decide +kernel

/-- Section 9.7: a kind of the table with the lengths it takes, and one outside the table. -/
theorem witness_AcceptanceTests_lengths :
    acceptsB part 0x10 (List.replicate 2048 0) = true ∧ acceptsB part 0x10 [] = false ∧ acceptsB part 0x33 [0, 0, 0, 0] = true ∧
      sent (.unknownKind 0x25 3 [0]) part = [⟨0xFF, 3, [1]⟩] := by decide +kernel

/-- Two entries wait and a RECAL is unanswered. -/
def beforeRestart : State := let s := recalWaits part
  s.setLink { s.link with outbound := [⟨0x81, 7, [0]⟩, ⟨0x62, 0, []⟩] }
/-- R168: the entries before the reply leave first; a reply enqueued behind it stays behind. -/
theorem witness_RestartTaken_queue :
    let t := after (.restart 5 []) beforeRestart
    let behind := t.reply 0 .aborted []
    let left (n : Nat) (s : State) : State := (List.range n).foldl (fun u _ => after .outboundEntryLeft u) s
    requestB beforeRestart 0x03 [] = true ∧ beforeRestart.link.enumerated = true ∧
      beforeRestart.link.outbound.all (fun f => decide (f.kind ≠ 0x83)) = true ∧
      t.link.requests.find? (fun x => x.id == 0) = some { id := 0, kind := 0x38, tag := 9 } ∧
      behind.link.outbound.map (·.kind) = [0x81, 0x62, 0x83, 0xB8] ∧
      (left 2 behind).link.restart = .replyQueued ∧ (left 2 behind).link.outbound.map (·.kind) = [0x83, 0xB8] ∧
      (left 3 behind).link.restart = .due ∧ (left 4 behind).link.outbound = [⟨0xB8, 9, [20]⟩] := by decide +kernel

/-- A capture on the cartridge with a field of sector 17 in progress. -/
def cutting : State := withChannel 2 (fun c => { capturing tape (passOf 3 .forward) c with decoder := fieldCut }) armedTape
/-- R52, R84: a fault and a media change in CAPTURING close the field in progress, and its reading stands before the report. -/
theorem witness_FaultTaken_reading :
    let handedBy (i : Instr) : List Bool := ((after i cutting).channel 2).handed.map (fun h => match h with
      | .reading x => x.truncated
      | .report _ => false)
    (cutting.channel 2).state = .capturing ∧ (cutting.channel 2).heldOrder = none ∧ (cutting.channel 2).completing = false ∧
      (cutting.channel 2).handed = [] ∧ handedBy (.markerWatchExpiry 2 ready) = [true, false] ∧
      handedBy (.mediaChange 2 ready) = [true, false] ∧
      ((after (.mediaChange 2 ready) cutting).channel 2).separator.running = false := by decide +kernel

/-- The hard-sectored volume in CAPTURING, with a pulse just past, its decoder and the ordered revolutions as given. -/
def hardCounting (d : Decoder → Decoder) (revolutions : Nat) : State :=
  withChannel 1 (fun c =>
    let a : Pass := { passOf 0 .forward with order := { order 0 .forward with revolutions := revolutions } }
    let c := capturing hard a c
    { c with sincePulse := some 0, sectorCounter := 9, decoder := d c.decoder }) (hardPart (runningOn 0))
/-- R35, R37, R39: an index pulse in CAPTURING on hard-sectored media: one of three revolutions, and the last with and without a
field in progress; a sector pulse counts none. -/
theorem witness_CaptureRuns_hard_index :
    let pulsed (ticks : Nat) (s : State) :=
      let c := (after (.indexPulse 1 ticks) s).channel 1
      (c.state, c.completing, c.sectorCounter, c.pass.map (·.revolutionsDone), c.handed.length)
    let field (d : Decoder) : Decoder := { d with state := .data, identity := .sector 4, block := [⟨0xFB, 3⟩], cursor := 1 }
    let whole := hardCounting id 1
    whole.mountedProfile 1 = some hard ∧ (whole.channel 1).kind = .floppy ∧ (whole.channel 1).state = .capturing ∧
      pulsed 399999 (hardCounting id 3) = (.capturing, false, 0, some 1, 0) ∧
      pulsed 399999 whole = (.holding, false, 0, none, 1) ∧
      pulsed 399999 (hardCounting field 1) = (.capturing, true, 0, some 1, 2) ∧
      pulsed 400000 whole = (.capturing, false, 9, some 0, 0) := by
  and_intros <;> decide +kernel
/-- R38, R39: the far marker that cuts a field short: its reading and the report wait, and HOLDING follows the reading. -/
theorem witness_CaptureRuns_tape_field :
    let c := (after (.farMarkerAsserted 2 ready) cutting).channel 2
    (c.state, c.completing, c.tapeEnd, c.handed.length, c.outputs.readEn) = (.capturing, true, .eot, 2, false) := by
  decide +kernel

/-- R100, R150: a FUSED candidate that readings have merged into is delivered with matches 0, a READ one with its own. -/
theorem test_fetchFrameOffer_fused :
    let v := mixedVolume
    let r := v.record 338
    let held (o : Origin) : State := { part with pool := { example68 with
      descriptors := example68.descriptors.map (fun e => (e.1, e.2.map (fun c => { c with origin := o, matchCount := 2 }))) } }
    ((held .fused).pool.descriptor 37).map (·.matchCount) = some 2 ∧
      (((held .fused).deliverBest v r).matchCount, ((held .fused).deliverBest v r).checkOk) = (0, true) ∧
      ((held .read).deliverBest v r).matchCount = 2 := by decide +kernel

end Sys2Proof.Tests
end

/-! # Profile slots dropped and listed (R19, R20) -/

section
/-! SUPPORT. What PROFILE_DROP and PROFILE_LIST do to an accepted request, one equation per answer of R19 and R20. -/

namespace Sys2Proof.Machine

/-! ## Slots and requests -/

@[simp] theorem State.setLink_slot (s : State) (l : Link) (n : Nat) : (s.setLink l).slot n = s.slot n := rfl

@[simp] theorem byteAt_singleton (n : Byte) : byteAt [n] 0 = n.toNat := rfl

/-- The answer to the request just accepted, where its owner changed nothing. -/
theorem State.setLink_accepted_reply {s : State} (h : s.link.idsFresh) (kind tag : Byte) (status : Status)
    (fields : List Byte) :
    (s.setLink (s.link.accepted kind tag)).reply s.link.nextId status fields = s.answered kind tag status fields :=
  State.accepted_reply h kind tag status fields rfl

/-- The answer to the request just accepted, where its owner wrote the profile slots. -/
theorem State.setSlots_accepted_reply {s : State} (h : s.link.idsFresh) (kind tag : Byte) (status : Status)
    (fields : List Byte) (slots : List ProfileSlot) :
    ((s.setLink (s.link.accepted kind tag)).setSlots slots).reply s.link.nextId status fields =
      (s.setSlots slots).answered kind tag status fields :=
  State.accepted_reply h kind tag status fields rfl

/-! ## PROFILE_DROP (R19) -/

theorem exec_profileDrop_accepted {s : State} {tag : Byte} {payload : List Byte} (h : Accepts s 0x11 payload) :
    exec (.profileDrop tag payload) s =
      .next ((s.setLink (s.link.accepted 0x11 tag)).serveProfileDrop s.link.nextId payload) :=
  congrArg Host.Outcome.next (State.withRequest_accepted h)

theorem State.serveProfileDrop_range (s : State) (id : Nat) {n : Byte} (hn : 8 ≤ n.toNat) :
    s.serveProfileDrop id [n] = s.reply id .range [] :=
  if_pos (c := 7 < byteAt [n] 0) hn

/-- A slot number in range passes the first test. -/
theorem State.serveProfileDrop_inRange (s : State) (id : Nat) {n : Byte} (hn : n.toNat < 8) :
    s.serveProfileDrop id [n] =
      if (s.slot n.toNat).held = none then s.reply id .profileEmpty []
      else if 0 < (s.slot n.toNat).useCount then s.reply id .profileInUse []
      else (s.setSlots (s.slots.set n.toNat .empty)).reply id .ok [] :=
  if_neg (c := 7 < byteAt [n] 0) (Nat.not_lt.mpr (Nat.le_of_lt_succ hn))

/-- R19's tests after the slot number's, by the slot as it stood when the request was received. -/
theorem exec_profileDrop_inRange {s : State} {tag n : Byte} (hids : s.link.idsFresh) (h : Accepts s 0x11 [n])
    (hn : n.toNat < 8) :
    exec (.profileDrop tag [n]) s = .next
      (if (s.slot n.toNat).held = none then s.answered 0x11 tag .profileEmpty []
      else if 0 < (s.slot n.toNat).useCount then s.answered 0x11 tag .profileInUse []
      else (s.setSlots (s.slots.set n.toNat .empty)).answered 0x11 tag .ok []) := by
  rw [exec_profileDrop_accepted h, State.serveProfileDrop_inRange _ _ hn]
  simp only [State.setLink_slot, State.setLink_slots, State.setLink_accepted_reply hids,
    State.setSlots_accepted_reply hids]

/-! ## PROFILE_LIST (R20, R173) -/

theorem exec_profileList_accepted {s : State} {tag : Byte} {payload : List Byte} (h : Accepts s 0x12 payload) :
    exec (.profileList tag payload) s =
      .next ((s.setLink (s.link.accepted 0x12 tag)).serveProfileList s.link.nextId payload) :=
  congrArg Host.Outcome.next (State.withRequest_accepted h)

theorem State.serveProfileList_all (s : State) (id : Nat) {n : Byte} (hn : n.toNat = 255) :
    s.serveProfileList id [n] = s.reply id .ok ((List.range 8).flatMap (fun k => slotEntry (s.slot k))) :=
  if_pos (c := byteAt [n] 0 = 0xFF) hn

theorem State.serveProfileList_range (s : State) (id : Nat) {n : Byte} (hn : 8 ≤ n.toNat) (hall : n.toNat < 255) :
    s.serveProfileList id [n] = s.reply id .range [] :=
  (if_neg (c := byteAt [n] 0 = 0xFF) hall.ne).trans (if_pos (c := 7 < byteAt [n] 0) hn)

theorem State.serveProfileList_one (s : State) (id : Nat) {n : Byte} (hn : n.toNat < 8) :
    s.serveProfileList id [n] = s.reply id .ok (slotWhole (s.slot n.toNat)) := by
  have hall : byteAt [n] 0 ≠ 0xFF := by rw [byteAt_singleton]; omega
  have hrange : ¬ 7 < byteAt [n] 0 := by rw [byteAt_singleton]; omega
  exact (if_neg hall).trans (if_neg hrange)

/-- One slot reported, its number in range. -/
theorem exec_profileList_one {s : State} {tag n : Byte} (hids : s.link.idsFresh) (h : Accepts s 0x12 [n])
    (hn : n.toNat < 8) :
    exec (.profileList tag [n]) s = .next (s.answered 0x12 tag .ok (slotWhole (s.slot n.toNat))) := by
  rw [exec_profileList_accepted h, State.serveProfileList_one _ _ hn, State.setLink_accepted_reply hids,
    State.setLink_slot]

theorem slotWhole_empty {q : ProfileSlot} (h : q.held = none) : slotWhole q = b1 0 ++ b1 q.useCount := by
  simp [slotWhole, slotHead, h, yesNo, b1]

theorem slotWhole_holds {q : ProfileSlot} {p : Profile} (h : q.held = some p) :
    slotWhole q = b1 1 ++ b1 q.useCount ++ imageOfProfile p := by
  simp [slotWhole, slotHead, h, yesNo, b1]

theorem slotEntry_empty {q : ProfileSlot} (h : q.held = none) :
    slotEntry q = b1 0 ++ b1 q.useCount ++ List.replicate 20 0 := by
  simp [slotEntry, slotHead, h, yesNo, b1]

theorem slotEntry_holds {q : ProfileSlot} {p : Profile} (h : q.held = some p) :
    slotEntry q = b1 1 ++ b1 q.useCount ++ p.name ++ b1 (mediumByte p.medium) ++ b1 (encodingByte p.encoding) ++
      le2 (p.cylinders * p.heads) ++ le2 p.sectors ++ le2 p.dataLength := by
  simp [slotEntry, slotHead, h, yesNo, b1, trackCountOf]

/-- Settles O37: PROFILE_DROP by R19's tests in their order, PROFILE_LIST by the three ranges of the slot number (R20). -/
theorem profileDropAndList : Obligations.ProfileDropAndList := by
  intro s tag n hids
  refine ⟨fun hacc => ?drop, fun hacc => ?list⟩
  case drop =>
    refine ⟨fun hn => ?range, fun hn hheld => ?empty, fun hn hheld huse => ?inUse, fun hn hheld huse => ?unused⟩
    case range =>
      rw [exec_profileDrop_accepted hacc, State.serveProfileDrop_range _ _ hn, State.setLink_accepted_reply hids]
    case empty => rw [exec_profileDrop_inRange hids hacc hn, if_pos hheld]
    case inUse => rw [exec_profileDrop_inRange hids hacc hn, if_neg hheld, if_pos huse]
    case unused => rw [exec_profileDrop_inRange hids hacc hn, if_neg hheld, if_neg huse.not_gt]
  case list =>
    refine ⟨fun hn hheld => ?empty, fun p hn hheld => ?holds, fun hn => ?all, fun hn hall => ?range⟩
    case empty => rw [exec_profileList_one hids hacc hn, slotWhole_empty hheld]
    case holds => rw [exec_profileList_one hids hacc hn, slotWhole_holds hheld]
    case all =>
      refine ⟨fun k => slotEntry (s.slot k), ?_, fun k _ => ⟨slotEntry_empty, fun p => slotEntry_holds⟩⟩
      rw [exec_profileList_accepted hacc, State.serveProfileList_all _ _ hn, State.setLink_accepted_reply hids]
      simp only [State.setLink_slot]
    case range =>
      rw [exec_profileList_accepted hacc, State.serveProfileList_range _ _ hn hall, State.setLink_accepted_reply hids]

end Sys2Proof.Machine
end

/-! # The intervals of the Cell Separator (R53 to R61) -/

section
/-! SUPPORT. What one interval comes to, one equation per step of section 3.2, and the arithmetic of a normal interval. -/

namespace Sys2Proof.Machine

/-! ## The carry and the count (R53, R55) -/

theorem carriedInterval_of_lt {sp : Separator} {ticks : Nat} (h : ticks + sp.runtCarry < 65535) :
    carriedInterval sp ticks = ticks + sp.runtCarry :=
  min_eq_left h.le

theorem carriedInterval_of_le {sp : Separator} {ticks : Nat} (h : 65535 ≤ ticks + sp.runtCarry) :
    carriedInterval sp ticks = 65535 :=
  min_eq_right h

/-- The raw count is the interval in periods, rounded to the nearest. -/
theorem rawCount_bounds {period : Nat} (hpos : 0 < period) (j : Nat) :
    rawCount period j * period ≤ j + period / 2 ∧ j + period / 2 < rawCount period j * period + period :=
  ⟨Nat.div_mul_le_self _ _, Nat.lt_div_mul_add hpos⟩

/-- An interval that counts no cell is shorter than half a period. -/
theorem two_mul_lt_of_rawCount_eq_zero {period j : Nat} (hpos : 0 < period) (h : rawCount period j = 0) :
    2 * j < period := by
  have hround := (rawCount_bounds hpos j).2
  rw [h] at hround
  omega

/-! ## The steps of an interval (R54, R56 to R60) -/

section
variable {sp : Separator} {ticks period n : Nat}

theorem Separator.takeInterval_runt (hp : sp.period = some period) (hlt : ticks + sp.runtCarry < 65535)
    (hn : rawCount period (16 * (ticks + sp.runtCarry)) = 0) :
    sp.takeInterval ticks = ({ sp with runtCarry := ticks + sp.runtCarry }, .runt) := by
  simp only [Separator.takeInterval, carriedInterval_of_lt hlt, hp, Option.getD_some]
  rw [if_neg hlt.ne, if_pos hn]

theorem Separator.takeInterval_longest (h : 65535 ≤ ticks + sp.runtCarry) :
    sp.takeInterval ticks = ({ sp with runtCarry := 0 }, .dropout) :=
  if_pos (carriedInterval_of_le h)

theorem Separator.takeInterval_tooMany (hp : sp.period = some period) (hlt : ticks + sp.runtCarry < 65535)
    (hn : 16 < rawCount period (16 * (ticks + sp.runtCarry))) :
    sp.takeInterval ticks = ({ sp with runtCarry := 0 }, .dropout) := by
  simp only [Separator.takeInterval, carriedInterval_of_lt hlt, hp, Option.getD_some]
  rw [if_neg hlt.ne, if_neg (Nat.ne_zero_of_lt hn), if_pos hn]

theorem Separator.takeInterval_violation (hp : sp.period = some period) (hlt : ticks + sp.runtCarry < 65535)
    (hn : n = rawCount period (16 * (ticks + sp.runtCarry))) (hone : 1 ≤ n) (hmost : n ≤ 16)
    (hout : n < sp.cellsMin ∨ sp.cellsMax < n) :
    sp.takeInterval ticks = ({ sp with runtCarry := 0 }, .cells n 0 .violation) := by
  simp only [Separator.takeInterval, carriedInterval_of_lt hlt, hp, Option.getD_some, ← hn]
  rw [if_neg hlt.ne, if_neg (Nat.ne_zero_of_lt hone), if_neg hmost.not_gt, if_pos hout]

/-- A normal interval, its correction outside the bounds or not. -/
theorem Separator.takeInterval_normal {e moved : Int} (hp : sp.period = some period) (hlt : ticks + sp.runtCarry < 65535)
    (hn : n = rawCount period (16 * (ticks + sp.runtCarry))) (hone : 1 ≤ n) (hmost : n ≤ 16)
    (hmin : sp.cellsMin ≤ n) (hmax : n ≤ sp.cellsMax) (he : e = phaseError period (16 * (ticks + sp.runtCarry)) n)
    (hm : moved = (period : Int) + correction e sp.gain n) :
    sp.takeInterval ticks =
      ({ sp with
          runtCarry := 0, period := some (boundPeriod sp moved), windowHit := sp.windowHit || outOfWindow sp moved },
        .cells n (intervalQuality e period (outOfWindow sp moved)) (if outOfWindow sp moved then .clamped else .normal)) := by
  have hlegal : ¬ (n < sp.cellsMin ∨ sp.cellsMax < n) := by omega
  simp only [Separator.takeInterval, carriedInterval_of_lt hlt, hp, Option.getD_some, ← hn, ← he, ← hm]
  rw [if_neg hlt.ne, if_neg (Nat.ne_zero_of_lt hone), if_neg hmost.not_gt, if_neg hlegal]

end

/-! ## The arithmetic of a normal interval (R58 to R60) -/

/-- The phase error lies within half a period of 0; exactly half of an even period counts as early. -/
theorem phaseError_bounds {period : Nat} (hpos : 0 < period) (j : Nat) :
    -((period / 2 : Nat) : Int) ≤ phaseError period j (rawCount period j) ∧
      phaseError period j (rawCount period j) ≤ (period : Int) - ((period / 2 : Nat) : Int) - 1 := by
  obtain ⟨hle, hlt⟩ := rawCount_bounds hpos j
  rw [phaseError, ← Nat.cast_mul]
  omega

theorem boundPeriod_eq_max_min {sp : Separator} (h : sp.periodMin ≤ sp.periodMax) (x : Int) :
    (boundPeriod sp x : Int) = max (sp.periodMin : Int) (min (sp.periodMax : Int) x) := by
  unfold boundPeriod
  split
  · omega
  · split <;> omega

/-- The bounds move exactly the periods outside them. -/
theorem outOfWindow_iff {sp : Separator} {x : Int} : outOfWindow sp x = true ↔ (boundPeriod sp x : Int) ≠ x := by
  simp only [outOfWindow, Bool.or_eq_true, decide_eq_true_eq]
  unfold boundPeriod
  split
  · omega
  · split <;> omega

theorem intervalQuality_held (e : Int) (period : Nat) : intervalQuality e period false = 4 - e.natAbs * 8 / period := rfl

theorem intervalQuality_clamped (e : Int) (period : Nat) :
    intervalQuality e period true = min 1 (4 - e.natAbs * 8 / period) :=
  min_comm _ _

/-! ## What the decoder is handed (R54, R61) -/

theorem outcomeCells_values (k n quality : Nat) (kind : CellKind) :
    (outcomeCells k n quality kind).map (·.value) = List.replicate (n - 1) false ++ [true] := by
  simp [outcomeCells]

/-- All cells of an interval share its quality and kind. -/
theorem outcomeCells_uniform {k n quality : Nat} {kind : CellKind} {c : Cell} (hc : c ∈ outcomeCells k n quality kind) :
    c.quality = quality ∧ c.kind = kind := by
  rcases List.mem_append.mp hc with hzero | hone
  · rw [List.eq_of_mem_replicate hzero]
    exact ⟨rfl, rfl⟩
  · rw [List.mem_singleton.mp hone]
    exact ⟨rfl, rfl⟩

theorem Decoder.closeField_state (d : Decoder) (e : DecoderEnv) (deposits : List Deposit) (truncated : Bool) :
    (d.closeField e deposits truncated).1.state = .hunt := by
  unfold Decoder.closeField
  split <;> rfl

theorem Decoder.cutShort_state (d : Decoder) (e : DecoderEnv) : (d.cutShort e).1.state = .hunt := by
  cases h : d.state <;> simp only [Decoder.cutShort, h]
  case data => exact d.closeField_state e _ _
  all_goals rfl

/-- Only a field in progress leaves a reading when it is cut short. -/
theorem Decoder.cutShort_reading {d : Decoder} (e : DecoderEnv) (hd : d.state ≠ .data) : (d.cutShort e).2 = none := by
  cases h : d.state <;> simp only [Decoder.cutShort, h]
  case data => exact absurd h hd

theorem Decoder.takeOutcome_dropout (d : Decoder) (e : DecoderEnv) :
    d.takeOutcome e .dropout = ({ (d.cutShort e).1 with recent := [], syncRun := 0 }, (d.cutShort e).2.toList) := rfl

/-! ## The obligations -/

/-- Settles O15: a count of 0 means less than half a period, and R53 adds the ticks kept to the next interval. -/
theorem runtBecomesCarry : Obligations.RuntBecomesCarry := by
  intro sp ticks period hp hlt hn
  rw [Separator.takeInterval_runt hp hlt hn]
  refine ⟨rfl, fun next => rfl, fun d e => rfl, fun hpos => ?_, rfl⟩
  have hshort := two_mul_lt_of_rawCount_eq_zero hpos hn
  omega

/-- Settles O16: R57's violation for a count outside the legal range, and R54's dropout from either of its tests. -/
theorem violationLeavesPeriod : Obligations.ViolationLeavesPeriod := by
  refine ⟨fun sp ticks period n k hp hlt hn hone hmost hout => ?violation, fun sp ticks period hp hdrop => ?dropout⟩
  case violation =>
    exact ⟨Separator.takeInterval_violation hp hlt hn hone hmost hout, outcomeCells_values k n 0 .violation,
      fun c hc => outcomeCells_uniform hc, rfl, rfl, rfl⟩
  case dropout =>
    have hlost : sp.takeInterval ticks = ({ sp with runtCarry := 0 }, .dropout) := by
      rcases Nat.lt_or_ge (ticks + sp.runtCarry) 65535 with hlt | hlong
      · exact Separator.takeInterval_tooMany hp hlt (hdrop.resolve_left hlt.not_ge)
      · exact Separator.takeInterval_longest hlong
    refine ⟨hlost, fun d e => ?_⟩
    rw [Decoder.takeOutcome_dropout]
    refine ⟨d.cutShort_state e, rfl, rfl, fun hd => ?_⟩
    rw [Decoder.cutShort_reading e hd, Option.toList_none]

/-- Settles O17: the correction of R58 held by R59's bounds, the quality of R60 by whether they moved it. -/
theorem normalIntervalCorrects : Obligations.NormalIntervalCorrects := by
  intro sp ticks period n e hp hpos hlt hn hone hmost hmin hmax he hbounds
  have hphase : e = phaseError period (16 * (ticks + sp.runtCarry)) n := by rw [he, phaseError, Nat.cast_mul n]
  obtain ⟨hlow, hhigh⟩ := phaseError_bounds hpos (16 * (ticks + sp.runtCarry))
  rw [← rawCount] at hn
  rw [← hn, ← hphase] at hlow hhigh
  rw [← correction]
  generalize hmoved : (period : Int) + correction e sp.gain n = moved
  rw [Separator.takeInterval_normal hp hlt hn hone hmost hmin hmax hphase hmoved.symm]
  have hhalf : 2 * e.natAbs ≤ period := by omega
  have hheld := boundPeriod_eq_max_min hbounds moved
  cases hw : outOfWindow sp moved with
  | false =>
    have hsame : (boundPeriod sp moved : Int) = moved := by simpa [hw] using outOfWindow_iff (sp := sp) (x := moved)
    exact ⟨_, .normal, _, rfl, rfl, hhalf, hlow, hhigh, hheld, .inl rfl, ⟨nofun, fun hne => absurd hsame hne⟩,
      fun _ => intervalQuality_held e period, nofun⟩
  | true =>
    exact ⟨_, .clamped, _, rfl, rfl, hhalf, hlow, hhigh, hheld, .inr rfl, ⟨fun _ => outOfWindow_iff.mp hw, fun _ => rfl⟩,
      nofun, fun _ => intervalQuality_clamped e period⟩

end Sys2Proof.Machine
end

/-! # Records scanned and reported (R110, R111, R146) -/

section
/-! SUPPORT. What SCAN, SECTOR_INFO and TRACK_INFO answer for a mounted volume, and where SCAN's search ends. -/

namespace Sys2Proof.Machine

/-! ## Requests that name a mounted volume -/

@[simp] theorem payloadChan_chanByte (ch : Chan) (rest : List Byte) : payloadChan (chanByte ch :: rest) = some ch := by
  match ch with
  | 0 => rfl
  | 1 => rfl
  | 2 => rfl
  | 3 => rfl

theorem State.withVolume_mounted {s : State} {ch : Chan} {v : Volume} (hv : s.volume ch = some v) (id : Nat)
    (rest : List Byte) (serve : Chan → Volume → State) :
    s.withVolume id (chanByte ch :: rest) serve = serve ch v := by
  simp [State.withVolume, hv]

/-- An accepted request that names a mounted volume reaches its owner's own tests. -/
theorem State.withRequest_mounted {s : State} {kind tag : Byte} {ch : Chan} {v : Volume} {rest : List Byte}
    (h : Accepts s kind (chanByte ch :: rest)) (hv : s.volume ch = some v) (serve : State → Nat → Chan → Volume → State) :
    s.withRequest kind tag (chanByte ch :: rest)
        (fun t id => t.withVolume id (chanByte ch :: rest) (serve t id)) =
      serve (s.setLink (s.link.accepted kind tag)) s.link.nextId ch v := by
  rw [State.withRequest_accepted h]
  exact State.withVolume_mounted (s := s.setLink (s.link.accepted kind tag)) hv _ _ _

/-! ## SCAN's search (R110) -/

theorem scanDirOf_eq_none {n : Nat} (h : 1 < n) : scanDirOf n = none := by
  match n, h with
  | _ + 2, _ => rfl

theorem scanClassOf_eq_none {n : Nat} (h : 3 < n) : scanClassOf n = none := by
  match n, h with
  | _ + 4, _ => rfl

theorem Volume.inClass_settled (v : Volume) (i : Nat) : v.inClass .settled i = true ↔ i ∈ v.settledMap :=
  List.contains_iff_mem

theorem Volume.inClass_excluded (v : Volume) (i : Nat) : v.inClass .excluded i = true ↔ i ∈ v.exclusionMap :=
  List.contains_iff_mem

theorem Volume.inClass_opn (v : Volume) (i : Nat) : v.inClass .opn i = true ↔
    (v.record i).state = .unseen ∨ (v.record i).state = .weak ∨ (v.record i).state = .contested := by
  unfold Volume.inClass
  cases (v.record i).state <;> simp [classOf]

theorem Volume.inClass_lost (v : Volume) (i : Nat) : v.inClass .lost i = true ↔ (v.record i).state = .lost := by
  unfold Volume.inClass
  cases (v.record i).state <;> simp [classOf]

theorem mem_scanOrder_up {size start i : Nat} : i ∈ scanOrder size start .up ↔ start ≤ i ∧ i < size := by
  simp only [scanOrder, List.mem_map, List.mem_range]
  exact ⟨fun ⟨k, hk, hi⟩ => by omega, fun ⟨hlow, hhigh⟩ => ⟨i - start, by omega, by omega⟩⟩

theorem mem_scanOrder_down {size start i : Nat} : i ∈ scanOrder size start .down ↔ i ≤ start := by
  simp only [scanOrder, List.mem_map, List.mem_range]
  exact ⟨fun ⟨k, hk, hi⟩ => by omega, fun hi => ⟨start - i, by omega, by omega⟩⟩

/-- A search of numbered places ends at the first that passes. -/
theorem find?_map_range_eq_some {f : Nat → Nat} {p : Nat → Bool} {n k : Nat} (hk : k < n) (hp : p (f k) = true)
    (hbefore : ∀ j < k, ¬ p (f j) = true) : ((List.range n).map f).find? p = some (f k) := by
  rw [List.find?_eq_some_iff_getElem]
  exact ⟨hp, k, by simpa using hk, by simp, fun j hj => by simpa using hbefore j hj⟩

theorem Volume.scan_up_eq_some {v : Volume} {start r : Nat} {cls : RecordClass} (hr : r < v.size)
    (hin : v.inClass cls r = true) (hstart : start ≤ r) (hbefore : ∀ i, start ≤ i → i < r → ¬ v.inClass cls i = true) :
    v.scan start .up cls = some r := by
  have hfound := find?_map_range_eq_some (f := fun k => start + k) (p := v.inClass cls) (n := v.size - start)
    (k := r - start) (by omega) (by rwa [Nat.add_sub_cancel' hstart]) (fun j hj => hbefore _ (by omega) (by omega))
  rwa [Nat.add_sub_cancel' hstart] at hfound

theorem Volume.scan_down_eq_some {v : Volume} {start r : Nat} {cls : RecordClass} (hin : v.inClass cls r = true)
    (hstart : r ≤ start) (hbefore : ∀ i, r < i → i ≤ start → ¬ v.inClass cls i = true) :
    v.scan start .down cls = some r := by
  have hfound := find?_map_range_eq_some (f := fun k => start - k) (p := v.inClass cls) (n := start + 1)
    (k := start - r) (by omega) (by rwa [Nat.sub_sub_self hstart]) (fun j hj => hbefore _ (by omega) (by omega))
  rwa [Nat.sub_sub_self hstart] at hfound

theorem Volume.scan_eq_none {v : Volume} {start : Nat} {dir : Sweep} {cls : RecordClass}
    (h : ∀ i ∈ scanOrder v.size start dir, ¬ v.inClass cls i = true) : v.scan start dir cls = none :=
  List.find?_eq_none.mpr h

/-! ## SCAN's answer (R110) -/

section
variable {s : State} {ch : Chan} {v : Volume} {tag s0 s1 dirByte clsByte : Byte}

/-- A request outside the ranges of section 9.7 is refused. -/
theorem exec_scan_range (hids : s.link.idsFresh) (hacc : Accepts s 0x23 [chanByte ch, s0, s1, dirByte, clsByte])
    (hv : s.volume ch = some v)
    (h : v.size ≤ s0.toNat + 256 * s1.toNat ∨ 1 < dirByte.toNat ∨ 3 < clsByte.toNat) :
    exec (.scan tag [chanByte ch, s0, s1, dirByte, clsByte]) s = .next (s.answered 0x23 tag .range []) := by
  refine congrArg Host.Outcome.next ((State.withRequest_mounted hacc hv _).trans ?_)
  rw [← State.setLink_accepted_reply hids]
  dsimp only
  split
  · next dir cls hdir hcls =>
    refine if_pos (h.resolve_right ?_)
    rintro (hlarge | hlarge)
    · exact nomatch (scanDirOf_eq_none hlarge).symm.trans hdir
    · exact nomatch (scanClassOf_eq_none hlarge).symm.trans hcls
  · rfl

/-- A request in range is answered with what the search finds, 0xFFFF standing for NONE. -/
theorem exec_scan_ok {dir : Sweep} {cls : RecordClass} (hids : s.link.idsFresh)
    (hacc : Accepts s 0x23 [chanByte ch, s0, s1, dirByte, clsByte]) (hv : s.volume ch = some v)
    (hstart : s0.toNat + 256 * s1.toNat < v.size) (hdir : scanDirOf dirByte.toNat = some dir)
    (hcls : scanClassOf clsByte.toNat = some cls) :
    exec (.scan tag [chanByte ch, s0, s1, dirByte, clsByte]) s = .next (s.answered 0x23 tag .ok
      (le2 ((v.scan (s0.toNat + 256 * s1.toNat) dir cls).getD 0xFFFF))) := by
  refine congrArg Host.Outcome.next ((State.withRequest_mounted hacc hv _).trans ?_)
  rw [← State.setLink_accepted_reply hids]
  dsimp only
  split
  · next dir' cls' hdir' hcls' =>
    obtain rfl : dir' = dir := Option.some.inj (hdir'.symm.trans hdir)
    obtain rfl : cls' = cls := Option.some.inj (hcls'.symm.trans hcls)
    exact if_neg hstart.not_ge
  · next hnone => exact absurd hcls (hnone _ _ hdir)

end

/-- Settles O43: the tests of the three ranges, then the search by its direction. -/
theorem scanFindsFirst : Obligations.ScanFindsFirst := by
  intro s tag s0 s1 dir cls ch v hids hacc hv start inClass
  refine ⟨fun hrange => exec_scan_range hids hacc hv hrange, fun hstart hdir hcls => ?_⟩
  obtain ⟨c, hc, hin⟩ : ∃ c, scanClassOf cls.toNat = some c ∧ ∀ i, v.inClass c i = true ↔ inClass i := by
    dsimp only [inClass]
    generalize cls.toNat = n at hcls ⊢
    match n, hcls with
    | 0, _ => exact ⟨.settled, rfl, v.inClass_settled⟩
    | 1, _ => exact ⟨.opn, rfl, v.inClass_opn⟩
    | 2, _ => exact ⟨.lost, rfl, v.inClass_lost⟩
    | 3, _ => exact ⟨.excluded, rfl, v.inClass_excluded⟩
  simp only [← hin]
  have answer (d : Sweep) (hd : scanDirOf dir.toNat = some d) := exec_scan_ok (tag := tag) hids hacc hv hstart hd hc
  refine ⟨fun r hr hrin hfirst => ?found, fun hnone => ?none⟩
  case found =>
    rcases hfirst with ⟨hup, hle, hbefore⟩ | ⟨hdown, hle, hbefore⟩
    · rw [answer .up (by rw [hup]; rfl), Volume.scan_up_eq_some hr hrin hle hbefore]
      rfl
    · rw [answer .down (by rw [hdown]; rfl), Volume.scan_down_eq_some hrin hle hbefore]
      rfl
  case none =>
    obtain hup | hdown : dir.toNat = 0 ∨ dir.toNat = 1 := by omega
    · rw [answer .up (by rw [hup]; rfl), Volume.scan_eq_none fun i hi => ?_]
      · rfl
      · obtain ⟨hlow, hhigh⟩ := mem_scanOrder_up.mp hi
        exact hnone i hhigh (.inl ⟨hup, hlow⟩)
    · rw [answer .down (by rw [hdown]; rfl), Volume.scan_eq_none fun i hi => ?_]
      · rfl
      · have hhigh := mem_scanOrder_down.mp hi
        exact hnone i (hhigh.trans_lt hstart) (.inr ⟨hdown, hhigh⟩)

/-! ## SECTOR_INFO and TRACK_INFO (R111, R146, R173) -/

theorem flagBit_eq (k : Nat) (b : Bool) : flagBit k b = 2 ^ k * b.toNat := by
  cases b <;> simp [flagBit]

theorem recordFlags_eq (r : SectorRecord) : recordFlags r =
    r.deletedSeen.toNat + 2 * r.overflowed.toNat + 4 * r.dissent.toNat + 8 * r.truncatedSeen.toNat := by
  simp [recordFlags, flagBit_eq]

theorem settledBytes_eq (r : SectorRecord) : settledBytes r =
    (r.settled.map (fun x => b1 (settledByByte x.by_) ++ b1 (markClassByte x.markClass) ++ b1 x.pass ++
      b1 x.matchCount)).getD [0, 0, 0, 0] := by
  unfold settledBytes
  cases r.settled with
  | none => rfl
  | some x => rfl

theorem candidateEntries_cons {p : Pool} {slot : Nat} {c : Candidate} (h : p.descriptor slot = some c) (rank : Nat)
    (rest : List Nat) : candidateEntries p rank (slot :: rest) =
      b1 rank ++ b1 (originByte c.origin) ++ yesNo c.checkOk ++ b1 c.matchCount ++ le2 c.score ++
        b1 (markClassByte c.markClass) ++ candidateEntries p (rank + 1) rest := by
  simp only [candidateEntries, candidateEntry, h]

section
variable {s : State} {ch : Chan} {v : Volume} {tag n0 n1 : Byte}

theorem exec_sectorInfo_mounted (hids : s.link.idsFresh) (hacc : Accepts s 0x24 [chanByte ch, n0, n1])
    (hv : s.volume ch = some v) :
    exec (.sectorInfo tag [chanByte ch, n0, n1]) s = .next
      (if v.size ≤ n0.toNat + 256 * n1.toNat then s.answered 0x24 tag .range []
      else s.answered 0x24 tag .ok (sectorInfoFields s.pool (v.record (n0.toNat + 256 * n1.toNat)))) := by
  simp only [← State.setLink_accepted_reply hids]
  exact congrArg Host.Outcome.next (State.withRequest_mounted hacc hv _)

theorem exec_trackInfo_mounted (hids : s.link.idsFresh) (hacc : Accepts s 0x34 [chanByte ch, n0, n1])
    (hv : s.volume ch = some v) :
    exec (.trackInfo tag [chanByte ch, n0, n1]) s = .next
      (if v.trackCount ≤ n0.toNat + 256 * n1.toNat then s.answered 0x34 tag .range []
      else s.answered 0x34 tag .ok (v.trackInfo (n0.toNat + 256 * n1.toNat))) := by
  simp only [← State.setLink_accepted_reply hids]
  exact congrArg Host.Outcome.next (State.withRequest_mounted hacc hv _)

end

/-- Settles O44: the range test of each request, and the fields it reports in the order of R173. -/
theorem sectorAndTrackInfo : Obligations.SectorAndTrackInfo := by
  intro s tag n0 n1 ch v hids hv n
  refine ⟨fun hacc => ⟨fun hlarge => ?sectorRange, fun hn r hr => ?sector⟩, fun _ => rfl,
    fun k slot rest c h => candidateEntries_cons h k rest,
    fun hacc => ⟨fun hlarge => ?trackRange, fun hn e c he hc => ?track⟩⟩
  case sectorRange => exact (exec_sectorInfo_mounted hids hacc hv).trans (congrArg _ (if_pos hlarge))
  case sector =>
    rw [exec_sectorInfo_mounted hids hacc hv, if_neg (show ¬ v.size ≤ n from hn.not_ge), hr, ← settledBytes_eq,
      ← recordFlags_eq]
    rfl
  case trackRange => exact (exec_trackInfo_mounted hids hacc hv).trans (congrArg _ (if_pos hlarge))
  case track =>
    rw [exec_trackInfo_mounted hids hacc hv, if_neg hn.not_ge, he, hc]
    rfl

end Sys2Proof.Machine
end


/-! # The vote of a fusion (R121 to R125) -/

section
/-! SUPPORT. The weights cast on a bit, what the fused bits, bytes and confidences come to, and what a fusion answers of the
candidates that take part. -/

namespace Sys2Proof.Machine

/-! ## The vote on a bit (R122, R123) -/

/-- The weight cast for one value of a bit. -/
def weightFor (votes : List Vote) (bit : Nat) (value : Bool) : Nat :=
  ((votes.filter (fun v => v.byte.getLsbD bit == value)).map (·.weight)).sum

theorem weightFor_true (votes : List Vote) (bit : Nat) :
    weightFor votes bit true = ((votes.filter (fun v => v.byte.getLsbD bit)).map (·.weight)).sum := by
  simp [weightFor]

theorem weightFor_false (votes : List Vote) (bit : Nat) :
    weightFor votes bit false = ((votes.filter (fun v => !v.byte.getLsbD bit)).map (·.weight)).sum := by
  simp [weightFor]

theorem foldl_bitVotes (votes : List Vote) (bit ones zeros : Nat) :
    votes.foldl (fun a v => if v.byte.getLsbD bit then (a.1 + v.weight, a.2) else (a.1, a.2 + v.weight)) (ones, zeros) =
      (ones + weightFor votes bit true, zeros + weightFor votes bit false) := by
  induction votes generalizing ones zeros with
  | nil => rfl
  | cons v votes ih =>
    cases hv : v.byte.getLsbD bit <;> simp [ih, hv, weightFor, Nat.add_assoc]

theorem bitVotes_eq (votes : List Vote) (bit : Nat) :
    bitVotes votes bit = (weightFor votes bit true, weightFor votes bit false) := by
  simp [bitVotes, foldl_bitVotes]

theorem fusedBit_of_ones {votes : List Vote} {bit : Nat} (h : weightFor votes bit false < weightFor votes bit true) :
    fusedBit votes bit = true := by
  simp [fusedBit, bitVotes_eq, h]

theorem fusedBit_of_zeros {votes : List Vote} {bit : Nat} (h : weightFor votes bit true < weightFor votes bit false) :
    fusedBit votes bit = false := by
  simp [fusedBit, bitVotes_eq, h, h.not_gt]

theorem fusedBit_of_tie {top : Vote} {rest : List Vote} {bit : Nat}
    (h : weightFor (top :: rest) bit true = weightFor (top :: rest) bit false) :
    fusedBit (top :: rest) bit = top.byte.getLsbD bit := by
  simp [fusedBit, bitVotes_eq, h]

theorem voteWeight_le {confidence : Nat} (h : confidence ≤ 4) (matchCount : Nat) : voteWeight confidence matchCount ≤ 28 :=
  Nat.mul_le_mul h (Nat.min_le_right matchCount 7)

/-! ## The fused byte (R123) -/

theorem sum_bits_lt (f : Nat → Bool) (n : Nat) : ((List.range n).map (fun k => (f k).toNat * 2 ^ k)).sum < 2 ^ n := by
  induction n with
  | zero => simp
  | succ n ih =>
    have hbit : (f n).toNat * 2 ^ n ≤ 1 * 2 ^ n := Nat.mul_le_mul_right _ (Bool.toNat_le (f n))
    simp only [List.range_succ, List.map_append, List.sum_append, List.map_singleton, List.sum_singleton, Nat.pow_succ]
    omega

theorem testBit_sum_bits (f : Nat → Bool) {n i : Nat} (hi : i < n) :
    (((List.range n).map (fun k => (f k).toNat * 2 ^ k)).sum).testBit i = f i := by
  induction n with
  | zero => omega
  | succ n ih =>
    simp only [List.range_succ, List.map_append, List.sum_append, List.map_singleton, List.sum_singleton]
    rw [Nat.add_comm, Nat.mul_comm, Nat.testBit_two_pow_mul_add _ (sum_bits_lt f n)]
    split
    next hlt => exact ih hlt
    next hge =>
      obtain rfl : i = n := by omega
      cases f i <;> simp

theorem getLsbD_fusedByte (votes : List Vote) {bit : Nat} (h : bit < 8) :
    (fusedByte votes).getLsbD bit = fusedBit votes bit := by
  rw [fusedByte, BitVec.getLsbD_ofNat, testBit_sum_bits _ h, decide_eq_true h, Bool.true_and]

/-! ## Margins and the fused confidence (R124) -/

theorem bitMargin_unvoted {votes : List Vote} {bit : Nat}
    (h : weightFor votes bit true + weightFor votes bit false = 0) : bitMargin votes bit = 0 := by
  simp only [bitMargin, bitVotes_eq, if_pos h]

theorem bitMargin_voted {votes : List Vote} {bit : Nat}
    (h : weightFor votes bit true + weightFor votes bit false ≠ 0) :
    bitMargin votes bit = 4 * (max (weightFor votes bit true) (weightFor votes bit false) -
      min (weightFor votes bit true) (weightFor votes bit false)) /
        (weightFor votes bit true + weightFor votes bit false) := by
  simp only [bitMargin, bitVotes_eq, if_neg h]

theorem bitMargin_le_four (votes : List Vote) (bit : Nat) : bitMargin votes bit ≤ 4 := by
  by_cases h : weightFor votes bit true + weightFor votes bit false = 0
  · simp [bitMargin_unvoted h]
  · rw [bitMargin_voted h]
    exact Nat.div_le_of_le_mul (by rw [Nat.mul_comm]; exact Nat.mul_le_mul_right 4 (by omega))

/-- The fold of R124 starts at 4, the greatest margin there is. -/
theorem fusedConfidence_isLeast (votes : List Vote) :
    fusedConfidence votes ∈ 4 :: (List.range 8).map (bitMargin votes) ∧
      ∀ m ∈ 4 :: (List.range 8).map (bitMargin votes), fusedConfidence votes ≤ m :=
  List.min?_eq_some_iff.mp List.min?_cons'

theorem fusedConfidence_le_bitMargin (votes : List Vote) {bit : Nat} (h : bit < 8) :
    fusedConfidence votes ≤ bitMargin votes bit :=
  (fusedConfidence_isLeast votes).2 _ (List.mem_cons_of_mem _ (List.mem_map_of_mem (List.mem_range.mpr h)))

theorem exists_fusedConfidence_eq_bitMargin (votes : List Vote) :
    ∃ k, k < 8 ∧ fusedConfidence votes = bitMargin votes k := by
  rcases List.mem_cons.mp (fusedConfidence_isLeast votes).1 with hfour | hmargin
  · have hle := fusedConfidence_le_bitMargin votes (bit := 0) (by decide)
    exact ⟨0, by decide, hle.antisymm (hfour ▸ bitMargin_le_four votes 0)⟩
  · obtain ⟨k, hk, heq⟩ := List.mem_map.mp hmargin
    exact ⟨k, List.mem_range.mp hk, heq.symm⟩

/-! ## The participants (R121) -/

/-- The slots of a list whose candidates have a mark class. -/
def Pool.ofClass (p : Pool) (slots : List Nat) (cls : MarkClass) : List Nat :=
  slots.filter (fun k => decide ((p.descriptor k).map (·.markClass) = some cls))

/-- What fusion takes of the candidate in a slot. -/
def Pool.participant (p : Pool) (slot length : Nat) (c : Candidate) : Participant :=
  { slot := slot, data := p.data slot length, confidences := p.confidences slot length
    matchCount := c.matchCount, markByte := c.markByte, recordedCheck := c.recordedCheck }

/-- The vote that the candidate in a slot casts at byte `j`. -/
def Pool.slotVote (p : Pool) (length j slot : Nat) : Vote :=
  { byte := (p.data slot length).getD j 0
    weight := voteWeight ((p.confidences slot length).getD j 0) (p.slotMatches slot) }

section
variable {p : Pool} {slots : List Nat} {cls : MarkClass} {length : Nat}

theorem Pool.participants_cons_of_class {slot : Nat} {c : Candidate} (hc : p.descriptor slot = some c)
    (hcls : c.markClass = cls) :
    p.participants (slot :: slots) cls length = p.participant slot length c :: p.participants slots cls length := by
  simp [Pool.participants, Pool.participant, hc, hcls]

theorem Pool.participants_cons_of_not_class {slot : Nat} (h : (p.descriptor slot).map (·.markClass) ≠ some cls) :
    p.participants (slot :: slots) cls length = p.participants slots cls length := by
  cases hc : p.descriptor slot with
  | none => simp [Pool.participants, hc]
  | some c =>
    have hcls : c.markClass ≠ cls := by simpa [hc] using h
    simp [Pool.participants, hc, hcls]

/-- What is read of the participants can be read of their slots. -/
theorem Pool.map_participants {α : Type} {g : Participant → α} {h : Nat → α}
    (hg : ∀ slot c, p.descriptor slot = some c → g (p.participant slot length c) = h slot) :
    (p.participants slots cls length).map g = (p.ofClass slots cls).map h := by
  induction slots with
  | nil => rfl
  | cons slot slots ih =>
    rw [Pool.ofClass] at ih ⊢
    by_cases hslot : (p.descriptor slot).map (·.markClass) = some cls
    · obtain ⟨c, hc, hcls⟩ := Option.map_eq_some_iff.mp hslot
      rw [Pool.participants_cons_of_class hc hcls, List.filter_cons, if_pos (decide_eq_true hslot), List.map_cons,
        List.map_cons, hg slot c hc, ih]
    · rw [Pool.participants_cons_of_not_class hslot, List.filter_cons, if_neg (by simpa only [decide_eq_true_eq] using hslot),
        ih]

theorem Pool.participants_slots : (p.participants slots cls length).map (·.slot) = p.ofClass slots cls := by
  simpa using Pool.map_participants (g := (·.slot)) (h := id) (fun _ _ _ => rfl)

theorem Pool.participants_length : (p.participants slots cls length).length = (p.ofClass slots cls).length := by
  simpa using congrArg List.length (Pool.participants_slots (p := p) (slots := slots) (cls := cls) (length := length))

theorem Pool.votesAt_participants (j : Nat) :
    votesAt (p.participants slots cls length) j = (p.ofClass slots cls).map (p.slotVote length j) :=
  Pool.map_participants (fun slot c hc => by simp [Pool.participant, Pool.slotVote, Pool.slotMatches, hc])

theorem Pool.participants_any_check (check : Nat) :
    (p.participants slots cls length).any (fun k => k.recordedCheck == check) = true ↔
      ∃ k ∈ p.ofClass slots cls, (p.descriptor k).map (·.recordedCheck) = some check := by
  have hchecks : (p.participants slots cls length).map (fun k => some k.recordedCheck) =
      (p.ofClass slots cls).map (fun k => (p.descriptor k).map (·.recordedCheck)) :=
    Pool.map_participants (fun slot c hc => by simp [Pool.participant, hc])
  have hmem : some check ∈ (p.participants slots cls length).map (fun k => some k.recordedCheck) ↔
      some check ∈ (p.ofClass slots cls).map (fun k => (p.descriptor k).map (·.recordedCheck)) := by rw [hchecks]
  simpa only [List.mem_map, List.any_eq_true, beq_iff_eq, Option.some.injEq] using hmem

end

/-! ## The fusion (R121, R123 to R125) -/

section
variable {p : Pool} {prof : Profile} {volume sector length top : Nat} {rest : List Nat} {c : Candidate}

theorem Pool.participants_headD_markByte (h : p.descriptor top = some c) :
    ((p.participants (top :: rest) c.markClass length).map (·.markByte)).headD 0 = c.markByte := by
  simp [Pool.participants_cons_of_class h rfl, Pool.participant]

theorem Pool.topClass_cons (h : p.descriptor top = some c) : p.topClass (top :: rest) = c.markClass := by
  simp [Pool.topClass, h]

theorem Pool.fuse_tooFew (h : p.descriptor top = some c) (hfew : (p.ofClass (top :: rest) c.markClass).length < 3) :
    (p.fuse prof volume sector length (top :: rest)).result = .tooFew := by
  simp [Pool.fuse, Pool.topClass_cons h, Pool.participants_length, hfew]

/-- The bytes that a fusion of the candidates in these slots votes for. -/
def Pool.fusedData (p : Pool) (length : Nat) (slots : List Nat) : List Byte :=
  (List.range length).map (fun j => fusedByte (slots.map (p.slotVote length j)))

/-- A fusion of three candidates or more, in terms of their slots. -/
theorem Pool.fuse_voted (h : p.descriptor top = some c) (hthree : 3 ≤ (p.ofClass (top :: rest) c.markClass).length) :
    p.fuse prof volume sector length (top :: rest) =
      let chosen := p.ofClass (top :: rest) c.markClass
      let check := mediumCheck prof (c.markByte :: p.fusedData length chosen)
      { volume := volume, sector := sector, participants := chosen, data := p.fusedData length chosen
        confidences := (List.range length).map (fun j => fusedConfidence (chosen.map (p.slotVote length j)))
        markClass := c.markClass, markByte := c.markByte, check := check
        result := if ∃ k ∈ chosen, (p.descriptor k).map (·.recordedCheck) = some check then .good else .bad } := by
  simp only [Pool.fuse, Pool.topClass_cons h, Pool.participants_length, hthree.not_gt, if_false, Pool.participants_slots,
    Pool.votesAt_participants, Pool.participants_any_check, Pool.participants_headD_markByte h, Pool.fusedData]
  congr

end

/-! ## The obligation -/

/-- Settles O24: the vote is the fold's two weights, and a fusion of three or more reads of its participants what their slots
hold. -/
theorem fusionVotes : Obligations.FusionVotes := by
  refine ⟨fun votes bit => ?vote, fun p prof volume sector length top rest c hc =>
    ⟨fun hfew => ?few, fun hthree => ?voted⟩⟩
  case vote =>
    simp only [← weightFor_true, ← weightFor_false]
    exact ⟨fusedBit_of_ones, fusedBit_of_zeros, fun h top rest hv => by subst hv; exact fusedBit_of_tie h,
      getLsbD_fusedByte votes, bitMargin_unvoted, bitMargin_voted, fusedConfidence_le_bitMargin votes,
      exists_fusedConfidence_eq_bitMargin votes, fun conf matchCount h => ⟨rfl, voteWeight_le h matchCount⟩⟩
  case few => exact Pool.fuse_tooFew hc hfew
  case voted =>
    rw [Pool.fuse_voted hc hthree]
    refine ⟨rfl, rfl, rfl, ?dataLength, ?confidencesLength, fun j hj => ⟨?byte, ?confidence⟩, rfl,
      fun hgood => if_pos hgood, fun hbad => if_neg fun ⟨k, hk, hcheck⟩ => hbad k hk hcheck⟩
    case dataLength => simp [Pool.fusedData]
    case confidencesLength => simp
    case byte =>
      simp only [Pool.fusedData, List.getElem?_map, List.getElem?_range hj]
      rfl
    case confidence =>
      simp only [List.getElem?_map, List.getElem?_range hj]
      rfl

end Sys2Proof.Machine
end

/-! # The moves of which every command is made -/

section
/-! SUPPORT. What one command can do to the state, said once: a reset, a reading taken, or a run of moves, each a write of one
block that keeps what the invariants need of it.  Every invariant of the part is then one case analysis over the moves. -/

namespace Sys2Proof.Machine

/-! ## The link -/

/-- What every write of the link keeps: the reserve (R160) and the range of the error count (R159). -/
structure Link.Keeps (l m : Link) : Prop where
  ok : l.ok → m.ok
  errors : l.linkErrors ≤ 65535 → m.linkErrors ≤ 65535

theorem Link.Keeps.refl (l : Link) : l.Keeps l := ⟨id, id⟩

theorem Link.Keeps.trans {l m n : Link} (h : l.Keeps m) (k : m.Keeps n) : l.Keeps n :=
  ⟨fun x => k.ok (h.ok x), fun x => k.errors (h.errors x)⟩

theorem Link.reply_linkErrors (l : Link) (b : Bool) (id : Nat) (st : Status) (fs : List Byte) :
    (l.reply b id st fs).linkErrors = l.linkErrors := by
  unfold Link.reply
  split
  · rfl
  · exact (Link.reportRoom_linkErrors _ _).trans rfl

theorem Link.reply_keeps (l : Link) (b : Bool) (id : Nat) (st : Status) (fs : List Byte) : l.Keeps (l.reply b id st fs) :=
  ⟨fun h => Link.reply_ok h _ _ _ _, fun h => (l.reply_linkErrors b id st fs).symm ▸ h⟩

theorem Link.notify_linkErrors (l : Link) (failed : Bool) (ch : Chan) (k : NoticeKind) (p : List Byte) :
    (l.notify failed ch k p).linkErrors = l.linkErrors := by
  unfold Link.notify
  dsimp only
  split
  · rfl
  · split
    · rfl
    · split
      · split <;> rfl
      · simp

theorem Link.notify_keeps (l : Link) (failed : Bool) (ch : Chan) (k : NoticeKind) (p : List Byte) :
    l.Keeps (l.notify failed ch k p) :=
  ⟨fun h => Link.notify_ok h _ _ _ _, fun h => (l.notify_linkErrors failed ch k p).symm ▸ h⟩

theorem satAdd_le (limit a b : Nat) : satAdd limit a b ≤ limit := Nat.min_le_left _ _

theorem Link.refuse_linkErrors_le (l : Link) (b : Bool) (kind tag : Byte) (st : Status) (h : l.linkErrors ≤ 65535) :
    (l.refuse b kind tag st).linkErrors ≤ 65535 := by
  unfold Link.refuse
  split
  · simpa [Link.enqueue] using h
  · exact satAdd_le _ _ _

theorem Link.takeFrame_keeps (l : Link) (failed b : Bool) (kind tag : Byte) (p : List Byte) :
    l.Keeps (l.takeFrame failed b kind tag p).1 := by
  refine ⟨fun h => Link.admit_ok h _ _ _ _ _, fun h => ?_⟩
  have hrefuse := fun kind tag st => Link.refuse_linkErrors_le { l with received := [] } b kind tag st h
  unfold Link.takeFrame
  dsimp only
  split
  · exact h
  · split
    · exact hrefuse _ _ _
    · split
      · exact hrefuse _ _ _
      · split
        · exact hrefuse _ _ _
        · split
          · exact h
          · exact hrefuse _ _ _

theorem Link.entryLeft_linkErrors (l : Link) (b : Bool) : (l.entryLeft b).linkErrors = l.linkErrors := by
  unfold Link.entryLeft
  split
  · rfl
  · split
    · rfl
    · split
      · rfl
      · exact Link.reportRoom_linkErrors _ _

theorem Link.entryLeft_keeps (l : Link) (b : Bool) : l.Keeps (l.entryLeft b) :=
  ⟨fun h => Link.entryLeft_ok h b, fun h => (l.entryLeft_linkErrors b).symm ▸ h⟩

theorem Link.reportRoom_keeps (l : Link) (b : Bool) : l.Keeps (l.reportRoom b) :=
  ⟨fun h => Link.reportRoom_ok h b, fun h => (l.reportRoom_linkErrors b).symm ▸ h⟩

theorem Link.offerSummaries_keeps (l : Link) : l.Keeps l.offerSummaries :=
  ⟨Link.offerSummaries_ok, fun h => l.offerSummaries_linkErrors.symm ▸ h⟩

theorem Link.enqueue_keeps {l : Link} (h : l.outbound.length + l.requests.length < 32) (f : OutFrame) :
    l.Keeps (l.enqueue f) :=
  ⟨fun hl => Link.enqueue_ok hl h f, id⟩

/-! ## The channels -/

/-- What every write of a channel keeps: the period in its window (R59), and the ranges of fault count and hold timer. -/
structure Channel.Keeps (c d : Channel) : Prop where
  period : c.separator.periodOk → d.separator.periodOk
  faults : c.faultCount ≤ 3 → d.faultCount ≤ 3
  hold : (∀ n, c.holdTimer = some n → n ≤ 2000) → ∀ n, d.holdTimer = some n → n ≤ 2000
  probe : d.probe.isSome = true → c.probe.isSome = true

theorem Channel.Keeps.refl (c : Channel) : c.Keeps c := ⟨id, id, id, id⟩

theorem Channel.Keeps.trans {c d e : Channel} (h : c.Keeps d) (k : d.Keeps e) : c.Keeps e :=
  ⟨fun x => k.period (h.period x), fun x => k.faults (h.faults x), fun x => k.hold (h.hold x), fun x => h.probe (k.probe x)⟩

/-- Fields written that none of this depends on, before an operation that keeps it. -/
theorem Channel.Keeps.after {c d e : Channel} (h : d.Keeps e) (hs : d.separator = c.separator)
    (hf : d.faultCount = c.faultCount) (ht : d.holdTimer = c.holdTimer ∨ d.holdTimer = none) (hp : d.probe = c.probe) :
    c.Keeps e := by
  refine .trans ⟨fun x => hs ▸ x, fun x => hf ▸ x, fun x n hn => ?_, fun x => hp ▸ x⟩ h
  rcases ht with ht | ht
  · exact x n (ht ▸ hn)
  · rw [ht] at hn; cases hn

/-! ### The separator -/

theorem Separator.startPass_periodOk (sp : Separator) (p : Profile) (gain window : Nat) :
    (sp.startPass p gain window).periodOk := by
  rintro q h
  obtain rfl : p.cellPeriod = q := Option.some.inj h
  exact ⟨Nat.sub_le _ _, Nat.le_add_right _ _⟩

theorem boundPeriod_within {sp : Separator} (h : sp.periodMin ≤ sp.periodMax) (x : Int) :
    sp.periodMin ≤ boundPeriod sp x ∧ boundPeriod sp x ≤ sp.periodMax := by
  have := boundPeriod_eq_max_min h x
  omega

/-- R59: an interval leaves the period within the bounds of its pass; a separator with no period set finds no cells. -/
theorem Separator.takeInterval_periodOk {sp : Separator} (h : sp.periodOk) (ticks : Nat) :
    (sp.takeInterval ticks).1.periodOk := by
  unfold Separator.takeInterval
  dsimp only
  split
  · exact h
  · split
    · exact h
    · next hn =>
      split
      · exact h
      · split
        · exact h
        · rintro q hq
          obtain rfl := Option.some.inj hq
          cases hp : sp.period with
          | none => simp [hp, rawCount] at hn
          | some p => exact boundPeriod_within (Nat.le_trans (h p hp).1 (h p hp).2) _

/-! ### The operations of a channel -/

theorem Channel.enterHolding_keeps (c : Channel) : c.Keeps c.enterHolding :=
  ⟨id, id, fun _ _ h => (Option.some.inj h) ▸ Nat.le_refl 2000, id⟩

theorem Channel.startCapture_keeps (c : Channel) (p : Profile) (a : Pass) : c.Keeps (c.startCapture p a) :=
  ⟨fun _ => c.separator.startPass_periodOk p _ _, id, id, id⟩

theorem Channel.endCapture_keeps (c : Channel) (p : Profile) (volume : Nat) : c.Keeps (c.endCapture p volume) :=
  ⟨id, id, id, id⟩

theorem Channel.deliver_keeps (c : Channel) (p : Profile) (volume ticks : Nat) : c.Keeps (c.deliver p volume ticks) := by
  unfold Channel.deliver
  split
  · exact ⟨fun h => Separator.takeInterval_periodOk h ticks, id, id, id⟩
  · exact .refl c

theorem Channel.enterArmed_keeps (c : Channel) (p : Profile) (a : Pass) : c.Keeps (c.enterArmed p a) := by
  unfold Channel.enterArmed
  split
  · exact ⟨id, id, id, id⟩
  · dsimp only
    split
    · split
      · exact ⟨id, id, id, id⟩
      · exact .after (startCapture_keeps _ p a) rfl rfl (.inl rfl) rfl
    · split
      · exact ⟨id, id, id, id⟩
      · exact .after (startCapture_keeps _ p a) rfl rfl (.inl rfl) rfl

theorem Channel.enterWinding_keeps (c : Channel) (p : Profile) (a : Pass) : c.Keeps (c.enterWinding p a) := by
  unfold Channel.enterWinding
  dsimp only
  split
  · exact .after (enterArmed_keeps _ p _) rfl rfl (.inl rfl) rfl
  · exact ⟨id, id, id, id⟩

theorem Channel.afterSettling_keeps (c : Channel) (p : Profile) (a : Pass) : c.Keeps (c.afterSettling p a) := by
  unfold Channel.afterSettling
  split
  · exact enterWinding_keeps c p a
  · exact enterArmed_keeps c p a

theorem Channel.afterSeeking_keeps (c : Channel) (p : Profile) (a : Pass) : c.Keeps (c.afterSeeking p a) := by
  unfold Channel.afterSeeking
  split
  · exact ⟨id, id, id, id⟩
  · exact afterSettling_keeps c p a

theorem Channel.seekDone_keeps (c : Channel) (p : Profile) (a : Pass) : c.Keeps (c.seekDone p a) := by
  unfold Channel.seekDone
  split
  · exact afterSeeking_keeps c p a
  · exact .after (afterSeeking_keeps _ p a) rfl rfl (.inl rfl) rfl

theorem Channel.seekPulse_keeps (c : Channel) (p : Profile) (a : Pass) : c.Keeps (c.seekPulse p a) := by
  unfold Channel.seekPulse
  dsimp only
  split
  · exact .after (seekDone_keeps _ p a) rfl rfl (.inl rfl) rfl
  · exact ⟨id, id, id, id⟩

theorem Channel.enterSeeking_keeps (c : Channel) (p : Profile) (a : Pass) : c.Keeps (c.enterSeeking p a) := by
  unfold Channel.enterSeeking
  dsimp only
  split
  · exact .after (seekDone_keeps _ p a) rfl rfl (.inl rfl) rfl
  · exact .after (seekPulse_keeps _ p a) rfl rfl (.inl rfl) rfl

theorem Channel.afterRecal_keeps (c : Channel) (p : Profile) (a : Pass) : c.Keeps (c.afterRecal p a) := by
  unfold Channel.afterRecal
  split
  · exact enterSeeking_keeps c p a
  · exact afterSeeking_keeps c p a

theorem Channel.recalPulse_keeps (c : Channel) (p : Profile) (issued : Nat) : c.Keeps (c.recalPulse p issued) :=
  ⟨id, id, id, id⟩

theorem Channel.recalSteps_keeps (c : Channel) (p : Profile) : c.Keeps (c.recalSteps p).1 := by
  unfold Channel.recalSteps
  split <;> (try dsimp only) <;> split <;> exact ⟨id, id, id, id⟩

theorem Channel.enterRecal_keeps (c : Channel) (p : Profile) : c.Keeps (c.enterRecal p).1 := by
  unfold Channel.enterRecal
  dsimp only
  split
  · exact .after (recalSteps_keeps _ p) rfl rfl (.inr rfl) rfl
  · split
    · exact .after (recalSteps_keeps _ p) rfl rfl (.inr rfl) rfl
    · exact ⟨id, id, fun _ _ h => (nomatch h), id⟩

theorem Channel.recalSucceeded_keeps (c : Channel) : c.Keeps c.recalSucceeded :=
  ⟨id, fun _ => Nat.zero_le 3, id, id⟩

theorem Channel.beginStages_keeps (c : Channel) (p : Profile) (a : Pass) : c.Keeps (c.beginStages p a) := by
  have hrecal : c.Keeps ({ c with pass := some a }.enterRecal p).1 :=
    .after (enterRecal_keeps _ p) rfl rfl (.inl rfl) rfl
  unfold Channel.beginStages
  dsimp only
  split
  · exact afterRecal_keeps c p a
  · split
    · exact (hrecal.trans (recalSucceeded_keeps _)).trans (afterRecal_keeps _ p a)
    · exact hrecal

theorem Channel.enterSpinup_keeps (c : Channel) (p : Profile) : c.Keeps (c.enterSpinup p) :=
  ⟨id, id, fun _ _ h => (nomatch h), id⟩

theorem Channel.selectHead_keeps (c : Channel) (p : Profile) (o : PassOrder) : c.Keeps (c.selectHead p o) := by
  unfold Channel.selectHead
  split <;> exact ⟨id, id, id, id⟩

theorem Channel.takeOrder_keeps (c : Channel) (p : Profile) (o : PassOrder) : c.Keeps (c.takeOrder p o) := by
  unfold Channel.takeOrder
  split
  · next b hb => exact ⟨id, id, id, fun _ => hb ▸ rfl⟩
  · have htaken : c.Keeps { c.selectHead p o with moved := false, holdTimer := none, pass := some (Pass.ofOrder o) } :=
      (selectHead_keeps c p o).trans ⟨id, id, fun _ _ h => (nomatch h), id⟩
    dsimp only
    split
    · exact (selectHead_keeps c p o).trans ⟨id, id, id, id⟩
    · split
      · exact htaken.trans (beginStages_keeps _ p _)
      · exact htaken.trans (enterSpinup_keeps _ p)

theorem Channel.finishCompletion_keeps (c : Channel) : c.Keeps c.finishCompletion := by
  unfold Channel.finishCompletion
  split
  · exact .after (enterHolding_keeps _) rfl rfl (.inl rfl) rfl
  · exact .refl c

theorem Channel.completePass_keeps (c : Channel) (p : Profile) (a : Pass) : c.Keeps (c.completePass p a) := by
  unfold Channel.completePass
  dsimp only
  split
  · exact (endCapture_keeps c p a.order.volume).trans (.after (finishCompletion_keeps _) rfl rfl (.inl rfl) rfl)
  · exact ⟨id, id, id, id⟩

theorem Channel.cutPass_keeps (c : Channel) (p : Profile) (cause : Cause) (tapeEnd : TapeEnd) :
    c.Keeps (c.cutPass p cause tapeEnd) := by
  unfold Channel.cutPass
  split
  · exact .refl c
  · dsimp only
    split <;> exact ⟨id, id, id, id⟩

theorem Channel.dropHeld_keeps (c : Channel) (cause : Cause) (tapeEnd : TapeEnd) : c.Keeps (c.dropHeld cause tapeEnd) := by
  unfold Channel.dropHeld
  split <;> exact ⟨id, id, id, id⟩

theorem Channel.takeCutOrder_keeps (c : Channel) (p : Profile) : c.Keeps (c.takeCutOrder p) := by
  refine (finishCompletion_keeps c).trans ?_
  unfold Channel.takeCutOrder
  dsimp only
  split
  · exact (cutPass_keeps _ p .abort _).trans (.after (enterHolding_keeps _) rfl rfl (.inl rfl) rfl)
  · exact dropHeld_keeps _ _ _

theorem Channel.indexInPass_keeps (c : Channel) (p : Profile) (a : Pass) : c.Keeps (c.indexInPass p a) := by
  unfold Channel.indexInPass
  split
  · exact startCapture_keeps c p a
  · split
    · exact .refl c
    · dsimp only
      split
      · exact completePass_keeps c p _
      · exact ⟨id, id, id, id⟩
  all_goals exact .refl c

theorem Channel.takeIndex_keeps (c : Channel) (mounted : Option Profile) (p : Profile) (ticks : Nat) :
    c.Keeps (c.takeIndex mounted p ticks) := by
  unfold Channel.takeIndex
  dsimp only
  split
  · split
    · exact ⟨id, id, id, id⟩
    · exact .after (indexInPass_keeps _ p _) rfl rfl (.inl rfl) rfl
  · exact ⟨id, id, id, id⟩

theorem Channel.takeTransition_keeps (c : Channel) (p : Profile) (volume ticks : Nat) :
    c.Keeps (c.takeTransition p volume ticks) := by
  unfold Channel.takeTransition
  split
  · exact .refl c
  · exact ⟨id, id, id, id⟩
  · exact ⟨id, id, id, id⟩
  · split
    · exact .refl c
    · exact .after (deliver_keeps _ p _ _) rfl rfl (.inl rfl) rfl

theorem Channel.saturateCounter_keeps (c : Channel) (p : Profile) (volume : Nat) :
    c.Keeps (c.saturateCounter p volume) := by
  unfold Channel.saturateCounter
  split
  · exact .after (deliver_keeps _ p _ _) rfl rfl (.inl rfl) rfl
  all_goals exact .refl c

theorem Channel.afterSense_keeps (c : Channel) (present : Bool) : c.Keeps (c.afterSense present) := ⟨id, id, id, id⟩

theorem Channel.passTime_keeps (c : Channel) : c.Keeps c.passTime := by
  refine ⟨id, id, fun h n hn => ?_, id⟩
  obtain ⟨m, hm, rfl⟩ := Option.map_eq_some_iff.mp hn
  exact Nat.le_trans (Nat.sub_le m 1) (h m hm)

theorem Channel.resume_keeps (c : Channel) (p : Profile) (o : PassOrder) : c.Keeps (c.resume p o) :=
  .after (afterRecal_keeps _ p _) rfl rfl (.inl rfl) rfl

theorem Channel.faulted_keeps (c : Channel) (p : Profile) (code : FaultCode) : c.Keeps (c.faulted p code) :=
  ((cutPass_keeps c p _ _).trans (dropHeld_keeps _ _ _)).trans
    ⟨id, fun _ => satAdd_le 3 _ 1, fun _ _ h => (nomatch h), id⟩

theorem Channel.mediaIdle_keeps (c : Channel) : c.Keeps c.mediaIdle := ⟨id, id, fun _ _ h => (nomatch h), id⟩

theorem Channel.expired_keeps (c : Channel) : c.Keeps c.expired := ⟨id, id, id, id⟩

theorem Channel.acknowledged_keeps (c : Channel) : c.Keeps c.acknowledged := by
  unfold Channel.acknowledged
  split
  · exact finishCompletion_keeps c
  · exact .refl c

end Sys2Proof.Machine
end

/-! # Records, counts and maps (R93 to R95) -/

section
/-! SUPPORT. What a record written changes in its volume: the record, the summary of its track, the totals, the two maps. -/

namespace Sys2Proof.Machine

/-! ## Lists changed at one place -/

theorem modifyAt_eq_modify {α : Type} (f : α → α) (l : List α) (n : Nat) : modifyAt f l n = l.modify n f := by
  induction l generalizing n with
  | nil => cases n <;> rfl
  | cons x l ih =>
    cases n with
    | zero => rfl
    | succ n => simp [modifyAt, ih]

@[simp] theorem length_modifyAt {α : Type} (f : α → α) (l : List α) (n : Nat) : (modifyAt f l n).length = l.length := by
  simp [modifyAt_eq_modify]

theorem getD_modifyAt_ne {α : Type} (f : α → α) (l : List α) {n k : Nat} (d : α) (h : k ≠ n) :
    (modifyAt f l n).getD k d = l.getD k d := by
  simp [modifyAt_eq_modify, List.getD_eq_getElem?_getD, h.symm]

theorem getD_modifyAt_same {α : Type} (f : α → α) (l : List α) {n : Nat} (d : α) (h : n < l.length) :
    (modifyAt f l n).getD n d = f (l.getD n d) := by
  simp [modifyAt_eq_modify, List.getD_eq_getElem?_getD, h]

/-- Beyond the list nothing is changed. -/
theorem getD_modifyAt_beyond {α : Type} (f : α → α) (l : List α) {n : Nat} (d : α) (h : l.length ≤ n) :
    (modifyAt f l n).getD n d = l.getD n d := by
  simp [modifyAt_eq_modify, List.getD_eq_getElem?_getD, h]

theorem map_modifyAt {α β : Type} {f : α → α} {g : α → β} (h : ∀ x, g (f x) = g x) (l : List α) (n : Nat) :
    (modifyAt f l n).map g = l.map g := by
  induction l generalizing n with
  | nil => rfl
  | cons x l ih => cases n <;> simp [modifyAt, h, ih]

theorem mem_modifyAt {α : Type} {f : α → α} {l : List α} {n : Nat} {x : α} (h : x ∈ modifyAt f l n) :
    x ∈ l ∨ ∃ y, l[n]? = some y ∧ x = f y := by
  induction l generalizing n with
  | nil => cases h
  | cons y l ih =>
    cases n with
    | zero =>
      rcases List.mem_cons.mp h with rfl | h
      · exact .inr ⟨y, rfl, rfl⟩
      · exact .inl (List.mem_cons_of_mem _ h)
    | succ n =>
      rcases List.mem_cons.mp h with rfl | h
      · exact .inl (List.mem_cons_self ..)
      · exact (ih h).imp (List.mem_cons_of_mem _) id

/-! ## Ascending lists -/

@[simp] theorem mem_insertAsc {l : List Nat} {k x : Nat} : x ∈ insertAsc l k ↔ x = k ∨ x ∈ l := by
  induction l with
  | nil => simp [insertAsc]
  | cons y l ih =>
    unfold insertAsc
    split
    · simp
    · split
      · next h => subst h; simp
      · simp only [List.mem_cons, ih]; tauto

theorem insertAsc_ascending {l : List Nat} (h : l.Pairwise (· < ·)) (k : Nat) : (insertAsc l k).Pairwise (· < ·) := by
  induction l with
  | nil => simp [insertAsc]
  | cons y l ih =>
    have hy := List.pairwise_cons.mp h
    unfold insertAsc
    split
    · next hlt =>
      exact List.pairwise_cons.mpr ⟨fun x hx => by
        rcases List.mem_cons.mp hx with rfl | hx
        · exact hlt
        · exact Nat.lt_trans hlt (hy.1 x hx), h⟩
    · split
      · exact h
      · next hlt hne =>
        exact List.pairwise_cons.mpr ⟨fun x hx => by
          rcases mem_insertAsc.mp hx with rfl | hx
          · omega
          · exact hy.1 x hx, ih hy.2⟩

theorem length_insertAsc {l : List Nat} {k : Nat} (h : k ∉ l) : (insertAsc l k).length = l.length + 1 := by
  induction l with
  | nil => rfl
  | cons y l ih =>
    have hk : k ≠ y ∧ k ∉ l := by simpa using h
    unfold insertAsc
    split
    · rfl
    · rw [if_neg hk.1, List.length_cons, ih hk.2, List.length_cons]

/-- A map bit after it was set or cleared, and every other bit (R95). -/
theorem mem_setBit {m : List Nat} {i j : Nat} {b : Bool} : j ∈ setBit m i b ↔ if j = i then b = true else j ∈ m := by
  by_cases h : j = i <;> cases b <;> simp [setBit, h]

/-! ## What a canonical map lists -/

section
variable {α : Type} [DecidableEq α] {d : α}

/-- In canonical form a listed entry is what its key holds, and no default. -/
theorem mapGet_of_mem {m : SMap α} {lo k : Nat} {x : α} (h : mapOkFrom d lo m = true) (hm : (k, x) ∈ m) :
    mapGet d m k = x ∧ x ≠ d ∧ lo ≤ k := by
  induction m generalizing lo with
  | nil => cases hm
  | cons e m ih =>
    obtain ⟨a, b⟩ := e
    simp only [mapOkFrom, Bool.and_eq_true, decide_eq_true_eq] at h
    obtain ⟨⟨hlo, hb⟩, hrest⟩ := h
    rcases List.mem_cons.mp hm with he | hm
    · obtain ⟨rfl, rfl⟩ := Prod.mk.inj he
      exact ⟨by simp [mapGet], hb, hlo⟩
    · obtain ⟨hget, hx, hk⟩ := ih hrest hm
      have hne : k ≠ a := by omega
      exact ⟨by simp [mapGet, hne, hget], hx, by omega⟩

omit [DecidableEq α] in
/-- What a key holds beside the default is listed. -/
theorem mem_of_mapGet {m : SMap α} {k : Nat} (h : mapGet d m k ≠ d) : (k, mapGet d m k) ∈ m := by
  induction m with
  | nil => exact absurd rfl h
  | cons e m ih =>
    obtain ⟨a, b⟩ := e
    by_cases hk : k = a
    · subst hk; simp [mapGet]
    · simp only [mapGet, hk, if_false] at h ⊢
      exact List.mem_cons_of_mem _ (ih h)

/-- The keys listed are those that hold something else than the default. -/
theorem forall_listed_iff {m : SMap α} (h : mapOk d m = true) (P : Nat → Prop) :
    (∀ e ∈ m, P e.1) ↔ ∀ k, mapGet d m k ≠ d → P k := by
  constructor
  · exact fun hall k hk => hall _ (mem_of_mapGet hk)
  · rintro hall ⟨k, x⟩ he
    obtain ⟨hget, hx, -⟩ := mapGet_of_mem h he
    exact hall k (hget ▸ hx)

end

/-! ## Records -/

section
variable (v : Volume) (i : Nat) (r : SectorRecord)

@[simp] theorem Volume.putRecord_uid : (v.putRecord i r).uid = v.uid := rfl
@[simp] theorem Volume.putRecord_slot : (v.putRecord i r).slot = v.slot := rfl
@[simp] theorem Volume.putRecord_trackCount : (v.putRecord i r).trackCount = v.trackCount := rfl
@[simp] theorem Volume.putRecord_sectors : (v.putRecord i r).sectors = v.sectors := rfl
@[simp] theorem Volume.putRecord_base : (v.putRecord i r).base = v.base := rfl
@[simp] theorem Volume.putRecord_serial : (v.putRecord i r).serial = v.serial := rfl
@[simp] theorem Volume.putRecord_planner : (v.putRecord i r).planner = v.planner := rfl
@[simp] theorem Volume.putRecord_size : (v.putRecord i r).size = v.size := rfl
@[simp] theorem Volume.putRecord_plan (t : Nat) : (v.putRecord i r).plan t = v.plan t := rfl
@[simp] theorem Volume.putRecord_isPending (t : Nat) : (v.putRecord i r).isPending t = v.isPending t := rfl

variable {v i r}

theorem Volume.putRecord_records_ok (h : mapOk .fresh v.records = true) : mapOk .fresh (v.putRecord i r).records = true :=
  mapOk_mapSet h _ _

theorem Volume.record_putRecord_same (h : mapOk .fresh v.records = true) : (v.putRecord i r).record i = r :=
  mapGet_mapSet_same h _ _

theorem Volume.record_putRecord_ne {j : Nat} (hj : j ≠ i) : (v.putRecord i r).record j = v.record j :=
  mapGet_mapSet_ne _ hj

theorem Volume.record_putRecord (h : mapOk .fresh v.records = true) (j : Nat) :
    (v.putRecord i r).record j = if j = i then r else v.record j := by
  split
  · next hj => subst hj; exact record_putRecord_same h
  · next hj => exact record_putRecord_ne hj

theorem Volume.summary_putRecord_ne {t : Nat} (ht : t ≠ i / v.sectors) : (v.putRecord i r).summary t = v.summary t :=
  getD_modifyAt_ne _ _ _ ht

theorem Volume.summary_putRecord_same (h : i / v.sectors < v.summaries.length) :
    (v.putRecord i r).summary (i / v.sectors) =
      (v.summary (i / v.sectors)).move (classOf (v.record i).state) (classOf r.state) :=
  getD_modifyAt_same _ _ _ h

@[simp] theorem classOf_eq_settled {x : RecordState} : classOf x = .settled ↔ x = .settled := by cases x <;> simp [classOf]
@[simp] theorem classOf_eq_excluded {x : RecordState} : classOf x = .excluded ↔ x = .excluded := by cases x <;> simp [classOf]
@[simp] theorem classOf_eq_lost {x : RecordState} : classOf x = .lost ↔ x = .lost := by cases x <;> simp [classOf]
@[simp] theorem classOf_eq_opn {x : RecordState} : classOf x = .opn ↔ x = .unseen ∨ x = .weak ∨ x = .contested := by
  cases x <;> simp [classOf]

/-- Where a record moves to another class its bits of the maps follow its state; no other bit moves (R95). -/
theorem Volume.mem_settledMap_putRecord (j : Nat) :
    j ∈ (v.putRecord i r).settledMap ↔
      if j = i ∧ classOf (v.record i).state ≠ classOf r.state then r.state = .settled else j ∈ v.settledMap := by
  simp only [Volume.putRecord]
  by_cases h : classOf (v.record i).state = classOf r.state
  · simp [h]
  · simp [h, mem_setBit]

theorem Volume.mem_exclusionMap_putRecord (j : Nat) :
    j ∈ (v.putRecord i r).exclusionMap ↔
      if j = i ∧ classOf (v.record i).state ≠ classOf r.state then r.state = .excluded else j ∈ v.exclusionMap := by
  simp only [Volume.putRecord]
  by_cases h : classOf (v.record i).state = classOf r.state
  · simp [h]
  · simp [h, mem_setBit]

end

/-- Settles O26: a record written, by the laws of the map, of the summaries and of the two bit maps. -/
theorem recordMovesClasses : Obligations.RecordMovesClasses := by
  intro v i r hrecords htrack old new
  refine ⟨Volume.record_putRecord_same hrecords, fun j hj => Volume.record_putRecord_ne hj, fun hsame => ?_, fun hne => ?_,
    fun t ht => Volume.summary_putRecord_ne ht, fun hne => ?_, fun j hj => ?_⟩
  · have hid : (fun c : Counts => c.move old new) = id := funext fun c => if_pos hsame
    refine ⟨if_pos hsame, ?_⟩
    change modifyAt (fun c => c.move old new) v.summaries _ = _
    rw [hid, modifyAt_eq_modify, List.modify_id]
  · exact ⟨if_neg hne, (Volume.summary_putRecord_same htrack).trans (if_neg hne)⟩
  · rw [Volume.mem_settledMap_putRecord, Volume.mem_exclusionMap_putRecord, if_pos ⟨rfl, hne⟩, if_pos ⟨rfl, hne⟩]
    exact ⟨.rfl, .rfl⟩
  · simp [Volume.mem_settledMap_putRecord, Volume.mem_exclusionMap_putRecord, hj]

/-! ## Counts (R94) -/

/-- The count of one class. -/
def Counts.get (c : Counts) : RecordClass → Nat
  | .opn => c.opn
  | .settled => c.settled
  | .lost => c.lost
  | .excluded => c.excluded

/-- Counts tell the states of records exactly when each class counts the states that fall in it. -/
theorem Counts.tell_iff {c : Counts} {states : List RecordState} :
    c.tell states ↔ ∀ cls, c.get cls = states.countP (fun x => decide (classOf x = cls)) := by
  unfold Counts.tell
  constructor
  · rintro ⟨ho, hs, hl, he⟩ cls
    cases cls <;>
      simp only [Counts.get, classOf_eq_opn, classOf_eq_settled, classOf_eq_lost, classOf_eq_excluded] <;> assumption
  · intro h
    have ho := h .opn
    have hs := h .settled
    have hl := h .lost
    have he := h .excluded
    simp only [classOf_eq_opn, classOf_eq_settled, classOf_eq_lost, classOf_eq_excluded] at ho hs hl he
    exact ⟨ho, hs, hl, he⟩

/-- One record moved: the class it leaves loses one, the class it enters gains one. -/
theorem Counts.get_move {c : Counts} {old : RecordClass} (new : RecordClass) (h : 1 ≤ c.get old) (cls : RecordClass) :
    (c.move old new).get cls + (if old = cls then 1 else 0) = c.get cls + (if new = cls then 1 else 0) := by
  unfold Counts.move
  by_cases he : old = new
  · simp [he]
  · rw [if_neg he]
    cases old <;> cases new <;> cases cls <;> simp_all [Counts.get, Counts.lower, Counts.raise]

/-- A list of values changed at one place counts the new value for the old. -/
theorem countP_range_update {α : Type} {n k : Nat} {f g : Nat → α} (P : α → Bool) (hk : k < n)
    (hfg : ∀ j, j ≠ k → g j = f j) :
    ((List.range n).map g).countP P + (if P (f k) then 1 else 0) =
      ((List.range n).map f).countP P + (if P (g k) then 1 else 0) := by
  induction n with
  | zero => omega
  | succ n ih =>
    simp only [List.range_succ, List.map_append, List.map_cons, List.map_nil, List.countP_append, List.countP_singleton]
    by_cases hkn : k = n
    · subst hkn
      have hsame : (List.range k).map g = (List.range k).map f :=
        List.map_congr_left fun j hj => hfg j (List.mem_range.mp hj).ne
      rw [hsame]
      omega
    · have := ih (by omega)
      rw [hfg n (Ne.symm hkn)]
      omega

/-- Counts that told the states of a range of records tell them after one of these moved between classes. -/
theorem Counts.tell_move {c : Counts} {n k : Nat} {f g : Nat → RecordState} (h : c.tell ((List.range n).map f))
    (hk : k < n) (hfg : ∀ j, j ≠ k → g j = f j) :
    (c.move (classOf (f k)) (classOf (g k))).tell ((List.range n).map g) := by
  rw [Counts.tell_iff] at h ⊢
  intro cls
  have hpos : 1 ≤ c.get (classOf (f k)) := by
    rw [h, Nat.one_le_iff_ne_zero, ← Nat.pos_iff_ne_zero, List.countP_pos_iff]
    exact ⟨f k, List.mem_map_of_mem (List.mem_range.mpr hk), by simp⟩
  have hmove := Counts.get_move (classOf (g k)) hpos cls
  have hcount := countP_range_update (fun x => decide (classOf x = cls)) hk hfg
  simp only [decide_eq_true_eq] at hcount
  have := h cls
  omega

end Sys2Proof.Machine
end

/-! # What the writes of a volume keep -/

section
/-! SUPPORT. Summaries, totals and maps after a record is written, budgets after the planner's fields are, and what every write
of a mounted volume keeps. -/

namespace Sys2Proof.Machine

/-! ## Maps and counts (R94, R95) -/

/-- The sector indices of a track are those that divide to it. -/
theorem div_eq_track_iff {S t i : Nat} (hS : 1 ≤ S) : i / S = t ↔ ∃ k, k < S ∧ i = t * S + k := by
  constructor
  · rintro rfl
    exact ⟨i % S, Nat.mod_lt _ hS, by rw [Nat.mul_comm]; exact (Nat.div_add_mod i S).symm⟩
  · rintro ⟨k, hk, rfl⟩
    rw [Nat.mul_comm, Nat.mul_add_div hS, Nat.div_eq_of_lt hk, Nat.add_zero]

theorem index_lt_size {S T t k : Nat} (ht : t < T) (hk : k < S) : t * S + k < T * S :=
  calc t * S + k < t * S + S := Nat.add_lt_add_left hk _
    _ = (t + 1) * S := (Nat.succ_mul t S).symm
    _ ≤ T * S := Nat.mul_le_mul_right S ht

/-- In canonical form, no record is listed beyond the volume exactly when every record beyond it is as MOUNT set it. -/
theorem Volume.listed_within_iff {v : Volume} (h : mapOk .fresh v.records = true) :
    (∀ e ∈ v.records, e.1 < v.trackCount * v.sectors) ↔ ∀ i, v.record i ≠ .fresh → i < v.trackCount * v.sectors :=
  forall_listed_iff h (fun i => i < v.trackCount * v.sectors)

section
variable {v : Volume} {i : Nat} {r : SectorRecord}

/-- The summary of a track whose record was written tells its records as it did before (R94). -/
theorem Volume.summaries_putRecord (h : v.mapsOk) {t : Nat} (ht : t < v.trackCount) :
    ((v.putRecord i r).summary t).tell ((List.range v.sectors).map (fun k => ((v.putRecord i r).record (t * v.sectors + k)).state)) := by
  obtain ⟨hform, hS, hlen⟩ := h.form
  have htell := h.summaries t ht
  by_cases hti : i / v.sectors = t
  · obtain ⟨k, hk, rfl⟩ := (div_eq_track_iff hS).mp hti
    have hsum := Volume.summary_putRecord_same (v := v) (r := r) (i := t * v.sectors + k) (by omega)
    rw [hti] at hsum
    rw [hsum]
    have := Counts.tell_move (g := fun k' => ((v.putRecord (t * v.sectors + k) r).record (t * v.sectors + k')).state) htell hk
      (fun j hj => by rw [Volume.record_putRecord_ne (by omega)])
    rwa [Volume.record_putRecord_same hform] at this
  · rw [Volume.summary_putRecord_ne (Ne.symm hti)]
    have hsame : ∀ k ∈ List.range v.sectors,
        ((v.putRecord i r).record (t * v.sectors + k)).state = (v.record (t * v.sectors + k)).state := fun k hk => by
      rw [Volume.record_putRecord_ne fun he => hti ((div_eq_track_iff hS).mpr ⟨k, List.mem_range.mp hk, he.symm⟩)]
    rwa [List.map_congr_left hsame]

/-- A record written within the volume, or one that stays listed, keeps the agreement of counts and maps. -/
theorem Volume.mapsOk_putRecord (h : v.mapsOk) (hi : i < v.trackCount * v.sectors ∨ r ≠ .fresh) :
    (v.putRecord i r).mapsOk := by
  obtain ⟨hform, hS, hlen⟩ := h.form
  have hform' := Volume.putRecord_records_ok (i := i) (r := r) hform
  refine ⟨⟨hform', hS, (length_modifyAt _ _ _).trans hlen⟩, fun t ht => Volume.summaries_putRecord h ht, fun hlist => ?_,
    fun j => ?_, fun j => ?_⟩
  · have hlist' := (Volume.listed_within_iff hform').mp hlist
    have hin : i < v.trackCount * v.sectors := hi.elim id fun hr => hlist' i (by rwa [Volume.record_putRecord_same hform])
    have hold := h.totals ((Volume.listed_within_iff hform).mpr fun j hj => by
      by_cases hji : j = i
      · exact hji ▸ hin
      · exact hlist' j (by rwa [Volume.record_putRecord_ne hji]))
    have := Counts.tell_move (g := fun k => ((v.putRecord i r).record k).state) hold hin
      (fun j hj => by rw [Volume.record_putRecord_ne hj])
    rwa [Volume.record_putRecord_same hform] at this
  · rw [Volume.mem_settledMap_putRecord, Volume.record_putRecord hform, h.settledMap]
    by_cases hj : j = i
    · subst hj
      by_cases hc : classOf (v.record j).state = classOf r.state
      · simp [hc, ← classOf_eq_settled]
      · simp [hc]
    · simp [hj]
  · rw [Volume.mem_exclusionMap_putRecord, Volume.record_putRecord hform, h.exclusionMap]
    by_cases hj : j = i
    · subst hj
      by_cases hc : classOf (v.record j).state = classOf r.state
      · simp [hc, ← classOf_eq_excluded]
      · simp [hc]
    · simp [hj]

end

/-! ## Budgets (R132, R135) -/

/-- The planner's fields that the budgets speak of, unchanged. -/
structure Planner.SameBudget (a b : Planner) : Prop where
  wearUsed : b.wearUsed = a.wearUsed
  wearBudget : b.wearBudget = a.wearBudget
  passBudget : b.passBudget = a.passBudget
  outstanding : b.outstanding = a.outstanding
  passes : b.tracks.map (·.passesUsed) = a.tracks.map (·.passesUsed)

theorem Volume.plan_passesUsed (v : Volume) (t : Nat) :
    (v.plan t).passesUsed = (v.planner.tracks.map (·.passesUsed)).getD t 0 := by
  simp only [Volume.plan, List.getD_eq_getElem?_getD, List.getElem?_map]
  cases v.planner.tracks[t]? <;> rfl

/-- The passes of every track lie within a bound exactly when the list of pass counts does. -/
theorem passesUsed_le_iff {tracks : List TrackPlan} {n : Nat} :
    (∀ e ∈ tracks, e.passesUsed ≤ n) ↔ ∀ k ∈ tracks.map (·.passesUsed), k ≤ n := by
  simp

theorem Volume.budgetsOk_of_same {v w : Volume} (h : v.planner.SameBudget w.planner) (hv : v.budgetsOk) : w.budgetsOk := by
  refine ⟨by rw [h.wearUsed, h.wearBudget]; exact hv.wear, ⟨?_, by rw [h.passBudget]; exact hv.passes.2⟩, fun t ht => ?_⟩
  · rw [passesUsed_le_iff, h.passes, h.passBudget, ← passesUsed_le_iff]
    exact hv.passes.1
  · rw [Volume.plan_passesUsed, h.passes, h.passBudget, ← Volume.plan_passesUsed]
    exact hv.ordered t (h.outstanding ▸ ht)

/-! ## A mounted volume -/

/-- What every write of a mounted volume keeps: its name, slot and place, its budgets, the agreement of its counts and maps, the
candidates its records hold, and its SETTLED records. -/
structure Volume.Keeps (v w : Volume) : Prop where
  name : w.uid = v.uid ∧ w.slot = v.slot
  place : w.base = v.base ∧ w.trackCount = v.trackCount ∧ w.sectors = v.sectors
  budgets : v.budgetsOk → w.budgetsOk
  maps : v.mapsOk → w.mapsOk
  form : mapOk .fresh v.records = true → mapOk .fresh w.records = true
  candidates : mapOk .fresh v.records = true → ∀ i, (w.record i).candidates = (v.record i).candidates
  settled : mapOk .fresh v.records = true → ∀ i, (v.record i).state = .settled → w.record i = v.record i

theorem Volume.Keeps.refl (v : Volume) : v.Keeps v :=
  ⟨⟨rfl, rfl⟩, ⟨rfl, rfl, rfl⟩, id, id, id, fun _ _ => rfl, fun _ _ _ => rfl⟩

theorem Volume.Keeps.trans {u v w : Volume} (h : u.Keeps v) (k : v.Keeps w) : u.Keeps w where
  name := ⟨k.name.1.trans h.name.1, k.name.2.trans h.name.2⟩
  place := ⟨k.place.1.trans h.place.1, k.place.2.1.trans h.place.2.1, k.place.2.2.trans h.place.2.2⟩
  budgets x := k.budgets (h.budgets x)
  maps x := k.maps (h.maps x)
  form x := k.form (h.form x)
  candidates x i := (k.candidates (h.form x) i).trans (h.candidates x i)
  settled x i hs := (k.settled (h.form x) i ((h.settled x i hs).symm ▸ hs)).trans (h.settled x i hs)

theorem Volume.Keeps.size {v w : Volume} (h : v.Keeps w) : w.size = v.size := by
  simp only [Volume.size, h.place.2.1, h.place.2.2]

/-- The planner's fields changed, with the budgets kept. -/
theorem Volume.planner_keeps {v : Volume} {a : Planner} (h : v.budgetsOk → Volume.budgetsOk { v with planner := a }) :
    v.Keeps { v with planner := a } :=
  ⟨⟨rfl, rfl⟩, ⟨rfl, rfl, rfl⟩, h, fun m => ⟨m.form, m.summaries, m.totals, m.settledMap, m.exclusionMap⟩, id,
    fun _ _ => rfl, fun _ _ _ => rfl⟩

/-- The planner's fields changed, none that the budgets speak of. -/
theorem Volume.planner_keeps_of_same {v : Volume} {a : Planner} (h : v.planner.SameBudget a) :
    v.Keeps { v with planner := a } :=
  planner_keeps (Volume.budgetsOk_of_same h)

theorem Volume.setPlanner_keeps {v : Volume} {f : Planner → Planner} (h : v.planner.SameBudget (f v.planner)) :
    v.Keeps (v.setPlanner f) :=
  planner_keeps_of_same h

/-- A track's state is no count of its passes. -/
theorem Volume.setTrackState_passes (v : Volume) (t : Nat) (st : TrackState) :
    (v.setTrackState t st).planner.tracks.map (·.passesUsed) = v.planner.tracks.map (·.passesUsed) :=
  map_modifyAt (f := fun e : TrackPlan => { e with state := st }) (fun _ => rfl) _ _

theorem Volume.setTrackState_keeps (v : Volume) (t : Nat) (st : TrackState) : v.Keeps (v.setTrackState t st) :=
  planner_keeps_of_same ⟨rfl, rfl, rfl, rfl, v.setTrackState_passes t st⟩

/-- A record that is not SETTLED written with the candidates it had, within the volume or so that it stays listed. -/
theorem Volume.putRecord_keeps {v : Volume} {i : Nat} {r : SectorRecord} (hc : r.candidates = (v.record i).candidates)
    (hs : (v.record i).state ≠ .settled) (hi : i < v.trackCount * v.sectors ∨ r ≠ .fresh) : v.Keeps (v.putRecord i r) where
  name := ⟨rfl, rfl⟩
  place := ⟨rfl, rfl, rfl⟩
  budgets := Volume.budgetsOk_of_same ⟨rfl, rfl, rfl, rfl, rfl⟩
  maps h := Volume.mapsOk_putRecord h hi
  form := Volume.putRecord_records_ok
  candidates h j := by
    rw [Volume.record_putRecord h]
    split
    · next hj => rw [hj, hc]
    · rfl
  settled _ j hj := Volume.record_putRecord_ne fun he => hs (he ▸ hj)

/-- A write of one volume after another, over a list. -/
theorem Volume.foldl_keeps {α : Type} {f : Volume → α → Volume} (l : List α) (v : Volume)
    (h : ∀ (w : Volume) (x : α), v.Keeps w → x ∈ l → w.Keeps (f w x)) : v.Keeps (l.foldl f v) := by
  induction l generalizing v with
  | nil => exact .refl v
  | cons x l ih =>
    have hx := h v x (.refl v) (List.mem_cons_self ..)
    exact hx.trans (ih _ fun w y hw hy => h w y (hx.trans hw) (List.mem_cons_of_mem _ hy))

/-! ### Loss and reversion (R104, R105) -/

theorem Volume.loseRecord_keeps (v : Volume) (i : Nat) : v.Keeps (v.loseRecord i) := by
  unfold Volume.loseRecord
  dsimp only
  split
  · next h =>
    refine putRecord_keeps rfl (fun hs => ?_) (.inr fun hf => ?_)
    · rw [hs] at h; cases h
    · cases congrArg SectorRecord.state hf
  · exact .refl v

theorem Volume.loseTrack_keeps (v : Volume) (t : Nat) : v.Keeps (v.loseTrack t) :=
  foldl_keeps _ v fun w i _ _ => loseRecord_keeps w i

theorem Volume.exhaust_keeps (v : Volume) (t : Nat) : v.Keeps (v.exhaust t) :=
  (setTrackState_keeps v t _).trans (loseTrack_keeps _ t)

theorem Volume.revertRecord_keeps {v : Volume} (p : Pool) {i : Nat} (hi : i < v.trackCount * v.sectors) :
    v.Keeps (v.revertRecord p i) := by
  unfold Volume.revertRecord
  dsimp only
  split
  · next h => exact putRecord_keeps rfl (fun hs => by rw [hs] at h; cases h) (.inl hi)
  · exact .refl v

theorem Volume.revertTrack_keeps {v : Volume} (p : Pool) {t : Nat} (ht : t < v.trackCount) :
    v.Keeps (v.revertTrack p t) := by
  refine foldl_keeps _ v fun w i hw hi => revertRecord_keeps p ?_
  obtain ⟨k, hk, rfl⟩ := List.mem_map.mp hi
  rw [hw.place.2.1, hw.place.2.2]
  exact index_lt_size ht (List.mem_range.mp hk)

/-! ### The planner (R133 to R138, R142 to R145) -/

theorem Volume.wearSpent_keeps (v : Volume) : v.Keeps v.wearSpent := by
  refine Keeps.trans (foldl_keeps _ v fun w t _ _ => ?_) (planner_keeps_of_same ⟨rfl, rfl, rfl, rfl, rfl⟩)
  split
  · exact .refl w
  · exact exhaust_keeps w t

theorem Volume.ended_keeps (v : Volume) : v.Keeps v.ended := planner_keeps_of_same ⟨rfl, rfl, rfl, rfl, rfl⟩

theorem Volume.choice_keeps (v : Volume) : v.Keeps v.choice.2 := by
  unfold Volume.choice
  dsimp only
  split
  · exact planner_keeps_of_same ⟨rfl, rfl, rfl, rfl, rfl⟩
  · split
    · exact .refl v
    · exact (planner_keeps_of_same ⟨rfl, rfl, rfl, rfl, rfl⟩).trans
        (planner_keeps_of_same ⟨rfl, rfl, rfl, rfl, rfl⟩)

/-- An order is given where the track stands below its pass budget (R135). -/
theorem Volume.givenOrder_keeps {v : Volume} {t : Nat} (h : (v.plan t).passesUsed < v.planner.passBudget) :
    v.Keeps (v.givenOrder t) := by
  refine (setTrackState_keeps v t .active).trans (planner_keeps fun hb => ⟨hb.wear, hb.passes, fun u hu => ?_⟩)
  obtain rfl := Option.some.inj hu
  change ((v.setTrackState t .active).plan t).passesUsed < v.planner.passBudget
  rw [Volume.plan_passesUsed, setTrackState_passes, ← Volume.plan_passesUsed]
  exact h

/-- A reported pass is charged to a track below its pass budget, that of the outstanding order (R132). -/
theorem Volume.chargePass_keeps {v : Volume} {r : PassReport} (h : v.planner.outstanding = some r.track) :
    v.Keeps (v.chargePass r) := by
  refine planner_keeps (a := (v.chargePass r).planner) fun hb =>
    ⟨⟨Nat.min_le_right _ _, hb.wear.2⟩, ⟨fun e he => ?_, hb.passes.2⟩, fun _ ht => nomatch ht⟩
  have hpending := (setTrackState_keeps v r.track .pending).budgets hb
  rcases mem_modifyAt he with he | ⟨e', he', rfl⟩
  · exact hpending.passes.1 e he
  · have hlt : e'.passesUsed < v.planner.passBudget := by
      have := hpending.ordered r.track h
      rwa [Volume.plan, List.getD_eq_getElem?_getD, he'] at this
    change (if r.captureBegan = true then satAdd 255 e'.passesUsed 1 else e'.passesUsed) ≤ v.planner.passBudget
    split
    · exact Nat.le_trans (Nat.min_le_right _ _) hlt
    · exact hlt.le

/-- A plan entry changed, but for the count of its passes. -/
theorem Volume.setPlan_keeps {v : Volume} {t : Nat} {f : TrackPlan → TrackPlan} (h : ∀ e, (f e).passesUsed = e.passesUsed) :
    v.Keeps (v.setPlan t f) :=
  planner_keeps_of_same (a := (v.setPlan t f).planner) ⟨rfl, rfl, rfl, rfl, map_modifyAt h _ _⟩

theorem Volume.judge_keeps (v : Volume) (p : Profile) (t settledNow : Nat) (misplaced : Bool) :
    v.Keeps (v.judge p t settledNow misplaced) :=
  (setPlan_keeps (t := t) (f := fun e => { e with
      misplaced := misplaced
      ladderStep := if v.planner.phase = .recovery ∧ ¬ misplaced ∧ settledNow = 0 then nextStep p e.ladderStep
        else e.ladderStep }) fun _ => rfl).trans (planner_keeps_of_same ⟨rfl, rfl, rfl, rfl, rfl⟩)

theorem extendTrack_keeps (p : Pool) (a : Volume × Nat) {t : Nat} (ht : t < a.1.trackCount) :
    a.1.Keeps (extendTrack p a t).1 := by
  unfold extendTrack
  dsimp only
  split
  · split
    · exact (Volume.revertTrack_keeps p ht).trans (Volume.setTrackState_keeps _ t .pending)
    · exact (Volume.revertTrack_keeps p ht).trans (Volume.setTrackState_keeps _ t .done)
  · exact .refl _

theorem foldl_extendTrack_keeps (p : Pool) (l : List Nat) (a : Volume × Nat) (h : ∀ t ∈ l, t < a.1.trackCount) :
    a.1.Keeps (l.foldl (extendTrack p) a).1 := by
  induction l generalizing a with
  | nil => exact .refl _
  | cons t l ih =>
    have ht := extendTrack_keeps p a (h t (List.mem_cons_self ..))
    exact ht.trans (ih _ fun u hu => ht.place.2.1.symm ▸ h u (List.mem_cons_of_mem _ hu))

/-- EXTEND raises both budgets (R145). -/
theorem Volume.extend_keeps (v : Volume) (p : Pool) (passes wear : Nat) : v.Keeps (v.extend p passes wear).1 := by
  have hraised : v.Keeps (v.setPlanner (fun a => { a with
      passBudget := satAdd 255 a.passBudget passes, wearBudget := satAdd 65535 a.wearBudget wear })) := by
    refine planner_keeps fun hb => ?_
    obtain ⟨hwear, hwearMax⟩ := hb.wear
    obtain ⟨hpasses, hpassMax⟩ := hb.passes
    have hw : v.planner.wearBudget ≤ satAdd 65535 v.planner.wearBudget wear := by unfold satAdd; omega
    have hp : v.planner.passBudget ≤ satAdd 255 v.planner.passBudget passes := by unfold satAdd; omega
    exact ⟨⟨hwear.trans hw, satAdd_le _ _ _⟩, ⟨fun e he => (hpasses e he).trans hp, satAdd_le _ _ _⟩,
      fun t ht => (hb.ordered t ht).trans_le hp⟩
  have htracks := hraised.trans (foldl_extendTrack_keeps p (List.range v.trackCount) (_, 0)
    fun t ht => List.mem_range.mp ht)
  unfold Volume.extend
  dsimp only
  split
  · exact htracks.trans (planner_keeps_of_same ⟨rfl, rfl, rfl, rfl, rfl⟩)
  · exact htracks

end Sys2Proof.Machine
end

/-! # Every command as a run of moves -/

section
/-! SUPPORT. The moves, and each operation of the blocks as a run of them. -/

namespace Sys2Proof.Machine

/-- One write of a block.  A volume is mounted on a channel that has none, or whose probe ends with the MOUNT it senses for. -/
inductive Move : State → State → Prop
  | link {s : State} {l : Link} (h : s.link.Keeps l) : Move s (s.setLink l)
  | channel {s : State} {ch : Chan} {c : Channel} (h : (s.channel ch).Keeps c) : Move s (s.putChannel ch c)
  | probe {s : State} {ch : Chan} (m : MountRequest) (h : s.volume ch = none) :
      Move s (s.putChannel ch ((s.channel ch).startProbe m))
  | volume {s : State} {ch : Chan} {v w : Volume} (hv : s.volume ch = some v) (h : v.Keeps w) :
      Move s (s.setVolume ch (some w))
  | media {s : State} {ch : Chan} {v : Volume} (hv : s.volume ch = some v) :
      Move s (s.setVolume ch (some { v with mediaGone := true }))
  | fetches {s : State} {l : List FetchEntry} (h : l.length ≤ s.fetches.length ∨ l.length ≤ 4) : Move s (s.setFetches l)
  | race (s : State) : Move s { s with races := s.races + 1 }
  | load {s : State} {n : Nat} {held : Option Profile} (hn : n < 8) (huse : (s.slot n).useCount = 0)
      (hheld : ∀ p, held = some p → p.trackPassBudget ≤ 255 ∧ p.wearBudget ≤ 65535 ∧ 1 ≤ p.sectors) :
      Move s (s.setSlots (s.slots.set n { held := held, useCount := 0 }))
  | mount {s : State} {ch : Chan} {c : Channel} {m : MountRequest} {p : Profile} {base : Nat}
      (hfree : s.volume ch = none ∨ (s.channel ch).probe.isSome = true) (hc : (s.channel ch).Keeps c)
      (hprobe : c.probe = none) (hheld : (s.slot m.slot).held = some p)
      (hbase : firstFit s.runs (trackCountOf p * p.sectors) = some base) :
      Move s ((({ s with nextVolume := s.nextVolume + 1 }.setVolume ch (some (Volume.atMount s.nextVolume base m p))).raiseUse
        m.slot).putChannel ch c)
  | unmount (s : State) (ch : Chan) : Move s (s.releaseVolume ch)
  | exclude {s : State} {ch : Chan} {v : Volume} (hv : s.volume ch = some v) (op : ExcludeOp) {first taken : Nat}
      (h : first + taken ≤ v.size) :
      Move s ((s.setVolume ch (some (excludeRange op v s.pool first taken).volume)).setPool
        (excludeRange op v s.pool first taken).pool)

/-- A run of moves. -/
abbrev Moves : State → State → Prop := Relation.ReflTransGen Move

/-- What every move keeps, every run of moves keeps. -/
theorem Moves.keep {P : State → Prop} (h : ∀ s t, Move s t → P s → P t) {s t : State} (hm : Moves s t) : P s → P t := by
  induction hm with
  | refl => exact id
  | tail _ hmove ih => exact fun hs => h _ _ hmove (ih hs)

section
variable {s t : State}

theorem Moves.link {l : Link} (h : Moves s t) (k : t.link.Keeps l) : Moves s (t.setLink l) := h.tail (.link k)

theorem Moves.reply (h : Moves s t) (id : Nat) (st : Status) (fs : List Byte) : Moves s (t.reply id st fs) :=
  h.link (Link.reply_keeps _ _ _ _ _)

theorem Moves.notify (h : Moves s t) (ch : Chan) (k : NoticeKind) (p : List Byte) : Moves s (t.notify ch k p) :=
  h.link (Link.notify_keeps _ _ _ _ _)

theorem Moves.trackNotice (h : Moves s t) (ch : Chan) (v : Volume) (k : Nat) : Moves s (t.trackNotice ch v k) :=
  h.notify _ _ _

theorem Moves.volumeNotice (h : Moves s t) (ch : Chan) (v : Volume) : Moves s (t.volumeNotice ch v) := h.notify _ _ _

theorem Moves.channel {ch : Chan} {c : Channel} (h : Moves s t) (k : (t.channel ch).Keeps c) : Moves s (t.putChannel ch c) :=
  h.tail (.channel k)

theorem Moves.volume {ch : Chan} {v w : Volume} (h : Moves s t) (hv : t.volume ch = some v) (k : v.Keeps w) :
    Moves s (t.setVolume ch (some w)) :=
  h.tail (.volume hv k)

theorem Moves.fetches {l : List FetchEntry} (h : Moves s t) (hl : l.length ≤ t.fetches.length ∨ l.length ≤ 4) :
    Moves s (t.setFetches l) :=
  h.tail (.fetches hl)

theorem Moves.foldl {α : Type} {f : State → α → State} (l : List α) (h : Moves s t)
    (hf : ∀ (u : State) (x : α), x ∈ l → Moves u (f u x)) : Moves s (l.foldl f t) := by
  induction l generalizing t with
  | nil => exact h
  | cons x l ih =>
    exact ih (h.trans (hf t x (List.mem_cons_self ..))) fun u y hy => hf u y (List.mem_cons_of_mem _ hy)

end

/-! ## Requests -/

theorem State.withRequest_moves {s : State} {kind tag : Byte} {payload : List Byte} {serve : State → Nat → State}
    (h : ∀ t id, Moves t (serve t id)) : Moves s (s.withRequest kind tag payload serve) := by
  have htaken := Moves.link (.refl (a := s)) (Link.takeFrame_keeps s.link s.selfTest.partFailed s.fetching kind tag payload)
  unfold State.withRequest
  dsimp only
  split
  · exact htaken
  · exact htaken.trans (h _ _)

theorem State.withVolume_moves {s : State} {id : Nat} {payload : List Byte} {serve : Chan → Volume → State}
    (h : ∀ ch v, s.volume ch = some v → Moves s (serve ch v)) : Moves s (s.withVolume id payload serve) := by
  unfold State.withVolume
  split
  · exact .reply .refl _ _ _
  · split
    · exact .reply .refl _ _ _
    · next v hv => exact h _ v hv

/-! ## Profiles -/

theorem byteAt_lt (l : List Byte) (k : Nat) : byteAt l k < 256 := (l.getD k 0).isLt

theorem le2At_lt (l : List Byte) (k : Nat) : le2At l k < 65536 := by
  have := byteAt_lt l k
  have := byteAt_lt l (k + 1)
  unfold le2At
  omega

/-- Where every test passes, validation names no reason (R13). -/
theorem firstFailure_eq_none_iff {n : Nat} {l : List Bool} : firstFailure n l = none ↔ ∀ b ∈ l, b = true := by
  induction l generalizing n with
  | nil => simp [firstFailure]
  | cons b l ih => cases b <;> simp [firstFailure, ih]

theorem within_iff {n least most : Nat} : within n least most = true ↔ least ≤ n ∧ n ≤ most := by
  simp [within]

theorem sectors_pos_of_validate {img : List Byte} (h : validate img = none) : 1 ≤ (profileOfImage img).sectors := by
  have hgeometry : geometryOk (profileOfImage img) = true := firstFailure_eq_none_iff.mp h _ (by simp)
  simp only [geometryOk, Bool.and_eq_true, within_iff] at hgeometry
  exact hgeometry.1.1.2.1

theorem State.serveProfileLoad_moves (s : State) (id : Nat) (payload : List Byte) :
    Moves s (s.serveProfileLoad id payload) := by
  unfold State.serveProfileLoad
  dsimp only
  split
  · exact .reply .refl _ _ _
  · next hn =>
    split
    · exact .reply .refl _ _ _
    · next huse =>
      split
      · exact .reply .refl _ _ _
      · next hvalid =>
        refine .reply (.single (.load (by omega) (by omega) ?_)) _ _ _
        rintro p hp
        obtain rfl := Option.some.inj hp
        have hbyte := byteAt_lt (payload.drop 1) 94
        have hword := le2At_lt (payload.drop 1) 95
        refine ⟨?_, ?_, sectors_pos_of_validate hvalid⟩
        · change (if byteAt (payload.drop 1) 94 = 0 then 255 else byteAt (payload.drop 1) 94) ≤ 255
          split <;> omega
        · change (if le2At (payload.drop 1) 95 = 0 then 65535 else le2At (payload.drop 1) 95) ≤ 65535
          split <;> omega

theorem State.serveProfileDrop_moves (s : State) (id : Nat) (payload : List Byte) :
    Moves s (s.serveProfileDrop id payload) := by
  unfold State.serveProfileDrop
  dsimp only
  split
  · exact .reply .refl _ _ _
  · split
    · exact .reply .refl _ _ _
    · split
      · exact .reply .refl _ _ _
      · exact .reply (.single (.load (by omega) (by omega) (by simp))) _ _ _

theorem State.serveProfileList_moves (s : State) (id : Nat) (payload : List Byte) :
    Moves s (s.serveProfileList id payload) := by
  unfold State.serveProfileList
  dsimp only
  split
  · exact .reply .refl _ _ _
  · split <;> exact .reply .refl _ _ _

/-! ## The planner -/

theorem State.chooseFrom_moves (fuel : Nat) (s : State) (ch : Chan) : Moves s (State.chooseFrom fuel s ch) := by
  induction fuel generalizing s with
  | zero => exact .refl
  | succ fuel ih =>
    unfold State.chooseFrom
    split
    · exact .refl
    · next v0 hv0 =>
      have hchoice := v0.choice_keeps
      dsimp only
      split
      · exact .volumeNotice (.volume .refl hv0 (hchoice.trans (Volume.ended_keeps _))) _ _
      · next t _ =>
        split
        · exact Relation.ReflTransGen.trans (Moves.trackNotice (.volume .refl hv0 (hchoice.trans (Volume.exhaust_keeps _ t))) _ _ _)
            (ih _)
        · next hpasses =>
          split
          · exact .volumeNotice (.volume .refl hv0 (hchoice.trans (Volume.wearSpent_keeps _))) _ _
          · exact .channel (.volume .refl hv0 (hchoice.trans (Volume.givenOrder_keeps (by omega))))
              (Channel.takeOrder_keeps _ _ _)

theorem State.choosePass_moves (s : State) (ch : Chan) : Moves s (s.choosePass ch) := by
  unfold State.choosePass
  split
  · exact .refl
  · exact State.chooseFrom_moves _ s ch

theorem State.passNoticeIfVerbose_moves (s : State) (ch : Chan) (r : PassReport) (f : PassFacts) :
    Moves s (s.passNoticeIfVerbose ch r f) := by
  unfold State.passNoticeIfVerbose
  split
  · exact .refl
  · split
    · exact .notify .refl _ _ _
    · exact .refl

theorem State.onward_moves (s : State) (ch : Chan) : Moves s (s.onward ch) := by
  unfold State.onward
  split
  · exact .refl
  · next v hv =>
    split
    · exact .volume .refl hv (Volume.setPlanner_keeps ⟨rfl, rfl, rfl, rfl, rfl⟩)
    · exact s.choosePass_moves ch
    all_goals exact .refl

theorem State.haltVolume_moves (s : State) (ch : Chan) (reason : HaltReason) : Moves s (s.haltVolume ch reason) := by
  unfold State.haltVolume
  split
  · exact .refl
  · next v hv =>
    dsimp only
    split
    · exact .volumeNotice (.volume .refl hv (Volume.setPlanner_keeps ⟨rfl, rfl, rfl, rfl, rfl⟩)) _ _
    · exact .refl

theorem State.sendCutOrder_moves (s : State) (ch : Chan) : Moves s (s.sendCutOrder ch) :=
  .channel .refl (Channel.takeCutOrder_keeps _ _)

theorem State.tellPlanner_moves (s : State) (ch : Chan) (reason : HaltReason) : Moves s (s.tellPlanner ch reason) := by
  unfold State.tellPlanner
  split
  · exact .refl
  · split
    · dsimp only
      split
      · exact (s.haltVolume_moves ch reason).trans (State.sendCutOrder_moves _ ch)
      · exact s.haltVolume_moves ch reason
    · exact .refl

theorem State.abortRun_moves (s : State) (ch : Chan) : Moves s (s.abortRun ch) := by
  unfold State.abortRun
  split
  · exact .refl
  · next v hv =>
    split
    · have hstopped : Moves s (s.setVolume ch (some (v.setPlanner (fun a => { a with run := .stopped })))) :=
        .volume .refl hv (Volume.setPlanner_keeps ⟨rfl, rfl, rfl, rfl, rfl⟩)
      dsimp only
      split
      · exact hstopped.trans (State.sendCutOrder_moves _ ch)
      · exact hstopped
    · exact .refl

theorem State.tellOpenCount_moves (s : State) (ch : Chan) (t : Nat) : Moves s (s.tellOpenCount ch t) := by
  unfold State.tellOpenCount
  split
  · exact .refl
  · next v hv =>
    dsimp only
    split
    · exact .refl
    · exact .refl
    · split
      · exact .trackNotice (.volume .refl hv (Volume.setTrackState_keeps v t .done)) _ _ _
      · exact .refl
    · split
      · exact .refl
      · exact .trackNotice (.volume .refl hv ((Volume.setTrackState_keeps v t .pending).trans
          (Volume.setPlanner_keeps ⟨rfl, rfl, rfl, rfl, rfl⟩))) _ _ _

/-! ### Reports (R137, R138) -/

theorem Moves.trackDone {s t : State} {ch : Chan} {v w : Volume} (h : Moves s t) (hv : t.volume ch = some v)
    (k : v.Keeps w) (n : Nat) : Moves s (t.trackDone ch w n) :=
  Moves.trackNotice (h.volume hv (k.trans (Volume.setTrackState_keeps w n .done))) _ _ _

/-- A report is taken for the volume whose outstanding order it is for. -/
theorem State.reportedVolume_eq_some {s : State} {ch : Chan} {r : PassReport} {v : Volume}
    (h : s.reportedVolume ch r = some v) :
    s.volume ch = some v ∧ v.uid = r.volume ∧ v.planner.outstanding = some r.track := by
  simpa [State.reportedVolume] using h

section
variable {s : State} {ch : Chan} {v : Volume} {r : PassReport}

theorem State.takeEndReport_moves (hv : s.volume ch = some v) (ho : v.planner.outstanding = some r.track) :
    Moves s (s.takeEndReport ch v r) := by
  have hkeeps := (Volume.chargePass_keeps ho).trans (Volume.judge_keeps (v.chargePass r) (s.chanProfile ch) r.track
    (v.settledThisPass r.track) (passMisplaced (s.channel ch).decoder.tallies))
  unfold State.takeEndReport
  dsimp only
  refine .trans (.trans ?_ (State.passNoticeIfVerbose_moves _ _ _ _)) (State.onward_moves _ _)
  have hchannel : Moves s (if passMisplaced (s.channel ch).decoder.tallies = true then
      s.putChannel ch { s.channel ch with positionKnown := false } else s) := by
    split
    · exact .channel .refl ⟨id, id, id, id⟩
    · exact .refl
  have hvolume : (if passMisplaced (s.channel ch).decoder.tallies = true then
      s.putChannel ch { s.channel ch with positionKnown := false } else s).volume ch = some v := by
    split <;> exact hv
  split
  · exact Moves.trackDone hchannel hvolume hkeeps _
  · split
    · exact Moves.trackNotice (hchannel.volume hvolume (hkeeps.trans (Volume.exhaust_keeps _ _))) _ _ _
    · exact Moves.volume hchannel hvolume hkeeps

theorem State.takeCutReport_moves (hv : s.volume ch = some v) (ho : v.planner.outstanding = some r.track) :
    Moves s (s.takeCutReport ch v r) := by
  have hkeeps : v.Keeps ((v.chargePass r).setPlanner (fun a => { a with
      fruitful := decide (1 ≤ v.settledThisPass r.track) })) :=
    (Volume.chargePass_keeps ho).trans (Volume.setPlanner_keeps ⟨rfl, rfl, rfl, rfl, rfl⟩)
  have htold : Moves s (if (((v.chargePass r).setPlanner (fun a => { a with
      fruitful := decide (1 ≤ v.settledThisPass r.track) })).summary r.track).opn = 0 then
      s.trackDone ch ((v.chargePass r).setPlanner (fun a => { a with
        fruitful := decide (1 ≤ v.settledThisPass r.track) })) r.track
      else s.setVolume ch (some ((v.chargePass r).setPlanner (fun a => { a with
        fruitful := decide (1 ≤ v.settledThisPass r.track) })))) := by
    split
    · exact Moves.trackDone .refl hv hkeeps _
    · exact Moves.volume .refl hv hkeeps
  have hnoticed := htold.trans (State.passNoticeIfVerbose_moves _ ch r
    { passNumber := (v.plan r.track).passesUsed + 1, ladderStep := (v.plan r.track).ladderStep
      settledNow := v.settledThisPass r.track, misplaced := false })
  unfold State.takeCutReport
  cases haltOf r.cause with
  | none => exact hnoticed.trans (State.onward_moves _ ch)
  | some reason => exact (hnoticed.trans (State.haltVolume_moves _ ch reason)).trans (State.onward_moves _ ch)

end

/-! ## The channels -/

theorem State.pins_moves (s : State) (ch : Chan) (lines : Lines) : Moves s (s.pins ch lines) :=
  Moves.channel .refl ⟨id, id, id, id⟩

theorem State.recalEnds_moves {s : State} {ch : Chan} {c : Channel} (hc : (s.channel ch).Keeps c) :
    Moves s (s.recalEnds ch c) := by
  have hd := hc.trans (Channel.recalSucceeded_keeps c)
  unfold State.recalEnds
  dsimp only
  split
  · refine .reply (.channel .refl ?_) _ _ _
    split
    · exact hd.trans (.after (Channel.resume_keeps _ _ _) rfl rfl (.inl rfl) rfl)
    · exact hd.trans (.after (Channel.enterHolding_keeps _) rfl rfl (.inl rfl) rfl)
  · split
    · exact .channel .refl (hd.trans (Channel.afterRecal_keeps _ _ _))
    · exact .channel .refl (hd.trans (Channel.enterHolding_keeps _))

theorem State.startRecal_moves {s : State} {ch : Chan} {c : Channel} (hc : (s.channel ch).Keeps c) :
    Moves s (s.startRecal ch c) := by
  have hr := hc.trans (Channel.enterRecal_keeps c (s.recalProfile ch c))
  unfold State.startRecal
  dsimp only
  split
  · exact State.recalEnds_moves hr
  · exact .channel .refl hr

theorem State.takeRecal_moves (s : State) (ch : Chan) (id : Nat) (tag : Byte) : Moves s (s.takeRecal ch id tag) := by
  have hflight (f : RecalFlight) : (s.channel ch).Keeps { s.channel ch with
      recal := some f, moved := false, holdTimer := none } := .after (.refl _) rfl rfl (.inr rfl) rfl
  unfold State.takeRecal
  dsimp only
  split
  · exact .reply .refl _ _ _
  · split
    · exact .reply .refl _ _ _
    · split
      · exact .reply .refl _ _ _
      · split
        · exact State.startRecal_moves (hflight _)
        · exact .channel .refl ((hflight _).trans (Channel.enterSpinup_keeps _ _))

/-- What waits for the end of a probe is added to what the probe defers (R23). -/
theorem State.defer_moves {s : State} {ch : Chan} {b : Probe} (hb : (s.channel ch).probe = some b) (d : Deferred) :
    Moves s (s.putChannel ch { s.channel ch with probe := some { b with deferred := b.deferred ++ [d] } }) :=
  .channel .refl ⟨id, id, id, fun _ => hb ▸ rfl⟩

theorem State.serveRecal_moves (s : State) (id : Nat) (tag : Byte) (payload : List Byte) :
    Moves s (s.serveRecal id tag payload) := by
  unfold State.serveRecal
  split
  · exact .reply .refl _ _ _
  · dsimp only
    split
    · next hb => exact State.defer_moves hb _
    · exact s.takeRecal_moves _ id tag

theorem Moves.answerRecal {s t : State} (h : Moves s t) (flight : Option RecalFlight) (st : Status) (fs : List Byte) :
    Moves s (t.answerRecal flight st fs) := by
  unfold State.answerRecal
  split
  · exact h
  · exact h.reply _ _ _

theorem State.fault_moves (s : State) (ch : Chan) (code : FaultCode) : Moves s (s.fault ch code) := by
  have hfaulted : Moves s (s.putChannel ch ((s.channel ch).finishCompletion.faulted (s.chanProfile ch) code)) :=
    .channel .refl ((Channel.finishCompletion_keeps _).trans (Channel.faulted_keeps _ _ _))
  unfold State.fault
  dsimp only
  split
  · exact .notify (.answerRecal hfaulted _ _ _) _ _ _
  · exact .trans (Moves.notify (Moves.answerRecal hfaulted _ _ _) _ _ _) (State.tellPlanner_moves _ _ _)

@[simp] theorem State.answerRecal_volume (s : State) (flight : Option RecalFlight) (st : Status) (fs : List Byte) (k : Chan) :
    (s.answerRecal flight st fs).volume k = s.volume k := by
  cases flight <;> rfl

theorem State.mediaWithVolume_moves {s : State} {ch : Chan} {v : Volume} (hv : s.volume ch = some v) :
    Moves s (s.mediaWithVolume ch v) := by
  have hidle (p : Profile) : (s.channel ch).Keeps
      (((s.channel ch).finishCompletion.cutPass p .media .none).dropHeld .media .none).mediaIdle :=
    (((Channel.finishCompletion_keeps _).trans (Channel.cutPass_keeps _ _ _ _)).trans (Channel.dropHeld_keeps _ _ _)).trans
      (Channel.mediaIdle_keeps _)
  unfold State.mediaWithVolume
  refine .notify ?_ _ _ _
  split
  · exact .tail (Moves.answerRecal (.channel .refl (hidle _)) _ _ _) (.media (by simpa using hv))
  · exact .trans (.tail (Moves.answerRecal (.channel .refl (hidle _)) _ _ _) (.media (by simpa using hv)))
      (State.tellPlanner_moves _ _ _)

theorem State.mediaNoVolume_moves (s : State) (ch : Chan) : Moves s (s.mediaNoVolume ch) := by
  have hidle : (s.channel ch).Keeps (Channel.mediaIdle { s.channel ch with mediaSeen := true }) :=
    .after (Channel.mediaIdle_keeps _) rfl rfl (.inl rfl) rfl
  unfold State.mediaNoVolume
  dsimp only
  split
  · exact .channel .refl ⟨id, id, id, id⟩
  · exact .answerRecal (.channel .refl hidle) _ _ _

theorem State.takeMedia_moves (s : State) (ch : Chan) : Moves s (s.takeMedia ch) := by
  unfold State.takeMedia
  dsimp only
  split
  · next hb => exact State.defer_moves hb _
  · split
    · exact .refl
    · split
      · next hv => exact State.mediaWithVolume_moves hv
      · exact s.mediaNoVolume_moves ch

theorem State.spinupExpires_moves (s : State) (ch : Chan) : Moves s (s.spinupExpires ch) := by
  unfold State.spinupExpires
  dsimp only
  split
  · exact s.fault_moves ch _
  · split
    · exact State.startRecal_moves (Channel.expired_keeps _)
    · split
      · exact .channel .refl ((Channel.expired_keeps _).trans (Channel.beginStages_keeps _ _ _))
      · exact .channel .refl ((Channel.expired_keeps _).trans (Channel.enterHolding_keeps _))

theorem State.recalPulseFalls_moves (s : State) (ch : Chan) (issued : Nat) : Moves s (s.recalPulseFalls ch issued) := by
  unfold State.recalPulseFalls
  dsimp only
  split
  · exact State.recalEnds_moves (.refl _)
  · split
    · exact s.fault_moves ch _
    · exact .channel .refl (Channel.recalPulse_keeps _ _ _)

theorem State.rewindEnds_moves (s : State) (ch : Chan) : Moves s (s.rewindEnds ch) := by
  have hsteps (p : Profile) : (s.channel ch).Keeps (Channel.recalSteps { (s.channel ch).expired with
      tapeEnd := .bot, recalStage := some { rewinding := false, pulses := 0 } } p).1 :=
    .after (Channel.recalSteps_keeps _ p) rfl rfl (.inl rfl) rfl
  unfold State.rewindEnds
  dsimp only
  split
  · exact State.recalEnds_moves (hsteps _)
  · exact .channel .refl (hsteps _)

/-! ## Volumes mounted and released (R106, R107) -/

/-- A MOUNT whose sense has ended, from the state before the sense was taken: `c` is the channel the sense leaves. -/
theorem State.finishMount_moves {s₀ s : State} {ch : Chan} {c : Channel} {m : MountRequest} {present : Bool}
    (hs : s.putChannel ch ((s.channel ch).afterSense present) = s₀.putChannel ch c)
    (hfree : s₀.volume ch = none ∨ (s₀.channel ch).probe.isSome = true) (hc : (s₀.channel ch).Keeps c)
    (hprobe : c.probe = none) : Moves s₀ (s.finishMount ch m present) := by
  unfold State.finishMount
  rw [hs]
  have hsensed : Moves s₀ (s₀.putChannel ch c) := .channel .refl hc
  dsimp only
  split
  · exact hsensed.reply _ _ _
  · split
    · exact hsensed.reply _ _ _
    · next p hheld =>
      split
      · exact hsensed.reply _ _ _
      · split
        · exact hsensed.reply _ _ _
        · next base hbase =>
          unfold State.createVolume
          refine .reply ?_ _ _ _
          have hmount := Move.mount (c := { c.drive with
            positionKnown := false, mediaSeen := false, sectorCounter := counterAtMount p c.drive.sectorCounter })
            hfree (hc.trans ⟨id, id, id, id⟩) hprobe hheld hbase
          refine .single ?_
          convert hmount using 1
          simp [State.putChannel, State.setVolume, State.raiseUse, State.setSlots, State.channel]

theorem State.takeMount_moves (s : State) (ch : Chan) (m : MountRequest) : Moves s (s.takeMount ch m) := by
  unfold State.takeMount
  dsimp only
  split
  · exact .reply .refl _ _ _
  · next hv =>
    have hnone : s.volume ch = none := by simpa using hv
    split
    · next hb => exact State.defer_moves hb _
    · next hb =>
      split
      · exact State.finishMount_moves rfl (.inl hnone) (Channel.afterSense_keeps _ _) hb
      · exact .single (.probe m hnone)

theorem State.serveMount_moves (s : State) (id : Nat) (payload : List Byte) : Moves s (s.serveMount id payload) := by
  unfold State.serveMount
  split
  · exact .reply .refl _ _ _
  · split
    · exact .reply .refl _ _ _
    · exact s.takeMount_moves _ _

theorem State.takeDeferred_moves (s : State) (ch : Chan) (d : Deferred) : Moves s (s.takeDeferred ch d) := by
  unfold State.takeDeferred
  split
  · dsimp only
    split
    · next hb => exact State.defer_moves hb _
    · exact s.takeRecal_moves ch _ _
  · exact .channel .refl (Channel.takeOrder_keeps _ _ _)
  · exact s.takeMedia_moves ch
  · exact s.takeMount_moves ch _

theorem State.probeEnds_moves {s : State} {ch : Chan} {b : Probe} (hb : (s.channel ch).probe = some b) :
    Moves s (s.probeEnds ch b) := by
  unfold State.probeEnds
  refine .foldl _ ?_ fun u d _ => u.takeDeferred_moves ch d
  exact State.finishMount_moves
    (c := Channel.afterSense (Channel.drive { s.channel ch with probe := none, stageTimer := none }) (s.channel ch).sensed)
    (by simp) (.inr (hb ▸ rfl)) ⟨id, id, id, fun h => nomatch h⟩ rfl

theorem State.recalUnmounted_moves (s : State) (ch : Chan) : Moves s (s.recalUnmounted ch) := by
  have hheld : (s.channel ch).Keeps (Channel.enterHolding { s.channel ch with recal := none, positionKnown := false }) :=
    .after (Channel.enterHolding_keeps _) rfl rfl (.inl rfl) rfl
  unfold State.recalUnmounted
  dsimp only
  split
  · exact .refl
  · exact .reply (.channel .refl hheld) _ _ _

theorem State.endFetches_moves (s : State) (uid : Nat) (st : Status) : Moves s (s.endFetches uid st) :=
  .foldl _ (.fetches .refl (.inl (List.length_filter_le _ _))) fun _ _ _ => .reply .refl _ _ _

theorem State.serveUnmount_moves (s : State) (id : Nat) (payload : List Byte) : Moves s (s.serveUnmount id payload) :=
  State.withVolume_moves fun ch _ _ => .reply (.tail (.trans (.trans (s.abortRun_moves ch) (State.recalUnmounted_moves _ ch))
    (State.endFetches_moves _ _ _)) (.unmount _ ch)) _ _ _

theorem State.serveExclude_moves (s : State) (id : Nat) (payload : List Byte) : Moves s (s.serveExclude id payload) := by
  refine State.withVolume_moves fun ch v hv => ?_
  dsimp only
  split
  · exact .reply .refl _ _ _
  · next op _ =>
    split
    · exact .reply .refl _ _ _
    · exact .reply (.foldl _ (.single (.exclude hv op (by omega))) fun u k _ => u.tellOpenCount_moves ch k) _ _ _

/-! ## Fetches (R148 to R156) -/

theorem State.serveFetch_moves (s : State) (id : Nat) (tag : Byte) (payload : List Byte) :
    Moves s (s.serveFetch id tag payload) := by
  refine State.withVolume_moves fun ch v _ => ?_
  dsimp only
  split
  · split
    · exact .reply .refl _ _ _
    · split
      · exact .reply .refl _ _ _
      · next hlen =>
        refine .fetches .refl (.inr ?_)
        simp only [Config.fetchQueueSize, List.length_append, List.length_singleton] at hlen ⊢
        omega
  · exact .reply .refl _ _ _

theorem State.offerFrame_moves (s : State) : Moves s s.offerFrame := by
  unfold State.offerFrame
  split
  · exact .refl
  · next e rest hfetches =>
    split
    · exact .refl
    · split
      · exact .refl
      · split
        · next hroom =>
          have hsent (f : OutFrame) : Moves s (s.setLink (s.link.enqueue f)) :=
            .link .refl (Link.enqueue_keeps (Link.noticeRoom_lt hroom) f)
          unfold State.enqueueSector
          dsimp only
          split
          · exact .reply (.fetches (hsent _) (.inl (by simp [hfetches]))) _ _ _
          · exact .fetches (.link (hsent _) (Link.reportRoom_keeps _ _)) (.inl (by simp [hfetches]))
        · exact .fetches .refl (.inl (by simp [hfetches]))

/-! ## Runs (R142 to R145) -/

theorem State.serveStart_moves (s : State) (id : Nat) (payload : List Byte) : Moves s (s.serveStart id payload) := by
  refine State.withVolume_moves fun ch v hv => ?_
  have hstarted : Moves s (s.setVolume ch (some (v.setPlanner (fun a => { a with run := .running, halt := .none })))) :=
    .volume .refl hv (Volume.setPlanner_keeps ⟨rfl, rfl, rfl, rfl, rfl⟩)
  have hbegin : Moves s (if v.mediaGone then s.reply id .mediaGone []
      else if (s.channel ch).faultCount = 3 then s.reply id .faultLimit []
      else
        let t := s.setVolume ch (some (v.setPlanner (fun a => { a with run := .running, halt := .none })))
        let u := if v.planner.outstanding.isSome then t else t.choosePass ch
        u.reply id .ok (b1 (u.runByteOf ch))) := by
    split
    · exact .reply .refl _ _ _
    · split
      · exact .reply .refl _ _ _
      · dsimp only
        split
        · exact hstarted.reply _ _ _
        · exact .reply (hstarted.trans (State.choosePass_moves _ ch)) _ _ _
  dsimp only
  split
  · exact .reply .refl _ _ _
  · exact .reply .refl _ _ _
  · exact .reply .refl _ _ _
  · exact .reply .refl _ _ _
  · exact hbegin
  · exact hbegin
  · exact hbegin

theorem State.servePause_moves (s : State) (id : Nat) (payload : List Byte) : Moves s (s.servePause id payload) := by
  refine State.withVolume_moves fun ch v hv => ?_
  split
  · exact .reply (.volume .refl hv (Volume.setPlanner_keeps ⟨rfl, rfl, rfl, rfl, rfl⟩)) _ _ _
  · exact .reply .refl _ _ _

theorem State.answerAbort_moves (s : State) (id uid : Nat) : Moves s (s.answerAbort id uid) := by
  unfold State.answerAbort
  split
  · have hrace : Moves s { s with races := s.races + 1 } := .single (.race s)
    dsimp only
    split
    · exact .trans (hrace.reply _ _ _) (State.endFetches_moves _ _ _)
    · exact .reply (hrace.trans (State.endFetches_moves _ _ _)) _ _ _
  · exact .reply .refl _ _ _

theorem State.serveAbort_moves (s : State) (id : Nat) (payload : List Byte) : Moves s (s.serveAbort id payload) := by
  refine State.withVolume_moves fun ch v _ => ?_
  split
  · exact (s.abortRun_moves ch).trans (State.answerAbort_moves _ _ _)
  · exact .reply .refl _ _ _

theorem State.serveExtend_moves (s : State) (id : Nat) (payload : List Byte) : Moves s (s.serveExtend id payload) :=
  State.withVolume_moves fun _ v hv => .reply (.volume .refl hv (v.extend_keeps _ _ _)) _ _ _

/-! ## Requests that change the link alone -/

theorem State.serveTrackInfo_moves (s : State) (id : Nat) (payload : List Byte) : Moves s (s.serveTrackInfo id payload) := by
  refine State.withVolume_moves fun ch v _ => ?_
  dsimp only
  split <;> exact .reply .refl _ _ _

theorem State.serveScan_moves (s : State) (id : Nat) (payload : List Byte) : Moves s (s.serveScan id payload) := by
  refine State.withVolume_moves fun ch v _ => ?_
  dsimp only
  split
  · split <;> exact .reply .refl _ _ _
  · exact .reply .refl _ _ _

theorem State.serveSectorInfo_moves (s : State) (id : Nat) (payload : List Byte) :
    Moves s (s.serveSectorInfo id payload) := by
  refine State.withVolume_moves fun ch v _ => ?_
  dsimp only
  split <;> exact .reply .refl _ _ _

theorem State.serveStatus_moves (s : State) (id : Nat) (payload : List Byte) : Moves s (s.serveStatus id payload) := by
  unfold State.serveStatus
  split
  · exact .reply .refl _ _ _
  · split <;> exact .reply .refl _ _ _

theorem State.serveRestart_moves (s : State) (n : Nat) : Moves s (s.serveRestart n) := by
  have hasked : s.link.Keeps { s.link with restart := .replyQueued } := ⟨id, id⟩
  exact .reply (.link .refl hasked) _ _ _

theorem Moves.ite {s a b : State} {c : Prop} [Decidable c] (ha : Moves s a) (hb : Moves s b) :
    Moves s (if c then a else b) := by
  split
  · exact ha
  · exact hb

/-- A request of any kind (section 9.7). -/
theorem State.serveKind_moves (s : State) (id : Nat) (kind tag : Byte) (payload : List Byte) :
    Moves s (s.serveKind id kind tag payload) :=
  .ite (.reply .refl _ _ _) <| .ite (s.serveStatus_moves _ _) <| .ite (s.serveRestart_moves _) <|
  .ite (s.serveProfileLoad_moves _ _) <| .ite (s.serveProfileDrop_moves _ _) <| .ite (s.serveProfileList_moves _ _) <|
  .ite (s.serveMount_moves _ _) <| .ite (s.serveUnmount_moves _ _) <| .ite (s.serveExclude_moves _ _) <|
  .ite (s.serveScan_moves _ _) <| .ite (s.serveSectorInfo_moves _ _) <| .ite (s.serveStart_moves _ _) <|
  .ite (s.servePause_moves _ _) <| .ite (s.serveAbort_moves _ _) <| .ite (s.serveExtend_moves _ _) <|
  .ite (s.serveTrackInfo_moves _ _) <| .ite (s.serveRecal_moves _ _ _) (s.serveFetch_moves _ _ _)

theorem State.receiveFrame_moves (s : State) (kind tag : Byte) (payload : List Byte) :
    Moves s (s.receiveFrame kind tag payload) :=
  State.withRequest_moves fun t id => t.serveKind_moves id kind tag payload

theorem State.takeBytes_moves (s : State) (bytes : List Byte) : Moves s (s.takeBytes bytes) := by
  unfold State.takeBytes
  dsimp only
  refine .link (.foldl _ .refl fun t r _ => ?_) ⟨id, id⟩
  cases r with
  | frame kind tag payload => exact t.receiveFrame_moves kind tag payload
  | abandoned => exact .link .refl ⟨id, fun _ => satAdd_le _ _ _⟩

theorem State.enumerate_moves (s : State) : Moves s s.enumerate := by
  unfold State.enumerate
  split
  · exact .refl
  · have hasis : s.link.Keeps { s.link with enumerated := true } := ⟨id, id⟩
    have hhello (f : OutFrame) (hroom : s.link.unanswered < s.link.free) :
        s.link.Keeps { s.link with enumerated := true, outbound := f :: s.link.outbound } := by
      refine ⟨fun h => ⟨h.1, ?_, h.2.2⟩, id⟩
      simp only [Link.unanswered, Link.free, Config.outboundSize, List.length_cons] at hroom ⊢
      omega
    dsimp only
    split
    · next hroom => exact .link .refl ((hhello _ hroom).trans (Link.offerSummaries_keeps _))
    · exact .link .refl (hasis.trans (Link.offerSummaries_keeps _))

theorem State.passTime_moves (s : State) : Moves s s.passTime :=
  .foldl _ .refl fun _ _ _ => .channel .refl (Channel.passTime_keeps _)

/-! ## The commands -/

/-- What a command comes to: a reset of the part, a reading taken, or a run of moves. -/
inductive Effect (s : State) : State → Prop
  | reset (env : Environment) (banks : Quad Bool) (carried : Bool) {memory : SMap Area}
      (h : memory = [] ∨ memory = s.pool.memory) : Effect s (s.restarted env banks carried memory)
  | reading {t : State} {ch : Chan} {x : Reading} {rest : List Handed} (h : (s.channel ch).handed = .reading x :: rest)
      (hmoves : Moves ((s.popHanded ch).takeReading ch x) t) : Effect s t
  | moves {t : State} (h : Moves s t) : Effect s t

theorem State.popHanded_moves (s : State) (ch : Chan) : Moves s (s.popHanded ch) := Moves.channel .refl ⟨id, id, id, id⟩

section
variable (s : State) (ch : Chan) (lines : Lines)

theorem exec_recalPulseDue_moves : ∃ t, exec (.recalPulseDue ch lines) s = .next t ∧ Moves s t := by
  refine ⟨_, rfl, ?_⟩
  split
  · exact (s.pins_moves ch _).trans (State.recalPulseFalls_moves _ ch _)
  · exact s.pins_moves ch _

theorem exec_rewindBot_moves : ∃ t, exec (.rewindBot ch lines) s = .next t ∧ Moves s t := by
  refine ⟨_, rfl, ?_⟩
  split
  · exact (s.pins_moves ch _).trans (State.rewindEnds_moves _ ch)
  · exact s.pins_moves ch _

theorem exec_rewindTimerExpiry_moves : ∃ t, exec (.rewindTimerExpiry ch lines) s = .next t ∧ Moves s t := by
  refine ⟨_, rfl, ?_⟩
  split
  · exact (s.pins_moves ch _).trans (State.fault_moves _ ch _)
  · exact s.pins_moves ch _

theorem exec_seekPulseDue_moves : ∃ t, exec (.seekPulseDue ch lines) s = .next t ∧ Moves s t := by
  refine ⟨_, rfl, ?_⟩
  split
  · exact (s.pins_moves ch _).channel (Channel.seekPulse_keeps _ _ _)
  · exact s.pins_moves ch _

theorem exec_settleTimerExpiry_moves : ∃ t, exec (.settleTimerExpiry ch lines) s = .next t ∧ Moves s t := by
  refine ⟨_, rfl, ?_⟩
  split
  · exact (s.pins_moves ch _).channel ((Channel.expired_keeps _).trans (Channel.afterSettling_keeps _ _ _))
  · exact s.pins_moves ch _

theorem exec_windingBot_moves : ∃ t, exec (.windingBot ch lines) s = .next t ∧ Moves s t := by
  refine ⟨_, rfl, ?_⟩
  split
  · exact (s.pins_moves ch _).channel (.after (Channel.enterArmed_keeps _ _ _) rfl rfl (.inl rfl) rfl)
  · exact s.pins_moves ch _

theorem exec_startMarkerReleased_moves : ∃ t, exec (.startMarkerReleased ch lines) s = .next t ∧ Moves s t := by
  refine ⟨_, rfl, ?_⟩
  split
  · exact (s.pins_moves ch _).channel (Channel.startCapture_keeps _ _ _)
  · exact s.pins_moves ch _

theorem exec_farMarkerAsserted_moves : ∃ t, exec (.farMarkerAsserted ch lines) s = .next t ∧ Moves s t := by
  refine ⟨_, rfl, ?_⟩
  split
  · exact (s.pins_moves ch _).channel (.after (Channel.completePass_keeps _ _ _) rfl rfl (.inl rfl) rfl)
  · exact s.pins_moves ch _

theorem exec_fluxTransition_moves (ticks : Nat) : ∃ t, exec (.fluxTransition ch ticks) s = .next t ∧ Moves s t := by
  refine ⟨_, rfl, ?_⟩
  split
  · exact .channel .refl (Channel.takeTransition_keeps _ _ _ _)
  · exact .refl

theorem exec_counterSaturation_moves : ∃ t, exec (.counterSaturation ch) s = .next t ∧ Moves s t := by
  refine ⟨_, rfl, ?_⟩
  split
  · exact .channel .refl (Channel.saturateCounter_keeps _ _ _)
  · exact .refl

theorem exec_presenceProbeEnd_moves : ∃ t, exec (.presenceProbeEnd ch lines) s = .next t ∧ Moves s t := by
  refine ⟨_, rfl, ?_⟩
  split
  · next b hb => exact (s.pins_moves ch lines).trans (State.probeEnds_moves (by simpa [State.pins] using hb))
  · exact s.pins_moves ch _

theorem exec_passEndReport_moves : ∃ t, exec (.passEndReport ch) s = .next t ∧ Moves s t := by
  refine ⟨_, rfl, ?_⟩
  split
  · next r _ _ =>
    split
    · split
      · next v hv =>
        obtain ⟨hvolume, -, hout⟩ := State.reportedVolume_eq_some hv
        exact (s.popHanded_moves ch).trans (State.takeEndReport_moves hvolume hout)
      · exact s.popHanded_moves ch
    · exact .refl
  · exact .refl

theorem exec_cutReport_moves : ∃ t, exec (.cutReport ch) s = .next t ∧ Moves s t := by
  refine ⟨_, rfl, ?_⟩
  split
  · next r _ _ =>
    split
    · exact .refl
    · split
      · next v hv =>
        obtain ⟨hvolume, -, hout⟩ := State.reportedVolume_eq_some hv
        exact (s.popHanded_moves ch).trans (State.takeCutReport_moves hvolume hout)
      · exact s.popHanded_moves ch
  · exact .refl

theorem exec_linkReset_moves : ∃ t, exec .linkReset s = .next t ∧ Moves s t :=
  ⟨_, rfl, .fetches (.link .refl ⟨fun _ => s.link.linkReset_ok, fun h => h⟩) (.inl (Nat.zero_le _))⟩

theorem exec_restartBegin_effect (env : Environment) : ∃ t, exec (.restartBegin env) s = .next t ∧ Effect s t := by
  refine ⟨_, rfl, ?_⟩
  split
  · exact .reset env _ _ (.inr rfl)
  · exact .moves .refl

theorem exec_reading_effect : ∃ t, exec (.reading ch) s = .next t ∧ Effect s t := by
  refine ⟨_, rfl, ?_⟩
  split
  · next x rest hhanded => exact .reading hhanded (.channel .refl (Channel.acknowledged_keeps _))
  · exact .moves .refl

/-- Every command goes on, by a reset, a reading taken, or a run of moves. -/
theorem exec_effect (c : Instr) : ∃ t, exec c s = .next t ∧ Effect s t := by
  have of_moves {c : Instr} (h : ∃ t, exec c s = .next t ∧ Moves s t) : ∃ t, exec c s = .next t ∧ Effect s t :=
    h.imp fun _ ht => ⟨ht.1, .moves ht.2⟩
  have request {c : Instr} {t : State} (h : exec c s = .next t) (hmoves : Moves s t) :
      ∃ t, exec c s = .next t ∧ Effect s t := ⟨t, h, .moves hmoves⟩
  cases c with
  | powerOnReset env => exact ⟨_, rfl, .reset env _ _ (.inl rfl)⟩
  | linkReset => exact of_moves (exec_linkReset_moves s)
  | enumeration => exact request rfl s.enumerate_moves
  | frameAbandoned bytes => exact request rfl (s.takeBytes_moves bytes)
  | unknownKind kind tag payload => exact request rfl (s.receiveFrame_moves kind tag payload)
  | ident tag payload => exact request rfl (State.withRequest_moves fun _ _ => .reply .refl _ _ _)
  | status tag payload => exact request rfl (State.withRequest_moves fun t _ => t.serveStatus_moves _ _)
  | restart tag payload => exact request rfl (State.withRequest_moves fun t _ => t.serveRestart_moves _)
  | restartBegin env => exact exec_restartBegin_effect s env
  | profileLoad tag payload => exact request rfl (State.withRequest_moves fun t _ => t.serveProfileLoad_moves _ _)
  | profileDrop tag payload => exact request rfl (State.withRequest_moves fun t _ => t.serveProfileDrop_moves _ _)
  | profileList tag payload => exact request rfl (State.withRequest_moves fun t _ => t.serveProfileList_moves _ _)
  | mount tag payload => exact request rfl (State.withRequest_moves fun t _ => t.serveMount_moves _ _)
  | unmount tag payload => exact request rfl (State.withRequest_moves fun t _ => t.serveUnmount_moves _ _)
  | exclude tag payload => exact request rfl (State.withRequest_moves fun t _ => t.serveExclude_moves _ _)
  | scan tag payload => exact request rfl (State.withRequest_moves fun t _ => t.serveScan_moves _ _)
  | sectorInfo tag payload => exact request rfl (State.withRequest_moves fun t _ => t.serveSectorInfo_moves _ _)
  | start tag payload => exact request rfl (State.withRequest_moves fun t _ => t.serveStart_moves _ _)
  | pause tag payload => exact request rfl (State.withRequest_moves fun t _ => t.servePause_moves _ _)
  | abort tag payload => exact request rfl (State.withRequest_moves fun t _ => t.serveAbort_moves _ _)
  | extend tag payload => exact request rfl (State.withRequest_moves fun t _ => t.serveExtend_moves _ _)
  | trackInfo tag payload => exact request rfl (State.withRequest_moves fun t _ => t.serveTrackInfo_moves _ _)
  | recal tag payload => exact request rfl (State.withRequest_moves fun t _ => t.serveRecal_moves _ _ _)
  | fetch tag payload => exact request rfl (State.withRequest_moves fun t _ => t.serveFetch_moves _ _ _)
  | outboundEntryLeft => exact request rfl (.link .refl (Link.entryLeft_keeps _ _))
  | fetchFrameOffer => exact request rfl s.offerFrame_moves
  | presenceProbeEnd ch lines => exact of_moves (exec_presenceProbeEnd_moves s ch lines)
  | spinupTimerExpiry ch lines =>
    exact request rfl (.ite ((s.pins_moves ch _).trans (State.spinupExpires_moves _ ch)) (s.pins_moves ch _))
  | recalPulseDue ch lines => exact of_moves (exec_recalPulseDue_moves s ch lines)
  | rewindBot ch lines => exact of_moves (exec_rewindBot_moves s ch lines)
  | rewindTimerExpiry ch lines => exact of_moves (exec_rewindTimerExpiry_moves s ch lines)
  | seekPulseDue ch lines => exact of_moves (exec_seekPulseDue_moves s ch lines)
  | settleTimerExpiry ch lines => exact of_moves (exec_settleTimerExpiry_moves s ch lines)
  | windingBot ch lines => exact of_moves (exec_windingBot_moves s ch lines)
  | windingTimerExpiry ch lines =>
    exact request rfl (.ite ((s.pins_moves ch _).trans (State.fault_moves _ ch _)) (s.pins_moves ch _))
  | indexPulse ch ticks => exact request rfl (.ite (.channel .refl (Channel.takeIndex_keeps _ _ _ _)) .refl)
  | indexWatchExpiry ch lines =>
    exact request rfl (.ite ((s.pins_moves ch _).trans (State.fault_moves _ ch _)) (s.pins_moves ch _))
  | startMarkerReleased ch lines => exact of_moves (exec_startMarkerReleased_moves s ch lines)
  | farMarkerAsserted ch lines => exact of_moves (exec_farMarkerAsserted_moves s ch lines)
  | markerWatchExpiry ch lines =>
    exact request rfl (.ite ((s.pins_moves ch _).trans (State.fault_moves _ ch _)) (s.pins_moves ch _))
  | fluxTransition ch ticks => exact of_moves (exec_fluxTransition_moves s ch ticks)
  | counterSaturation ch => exact of_moves (exec_counterSaturation_moves s ch)
  | holdTimerExpiry ch lines =>
    exact request rfl (.ite ((s.pins_moves ch _).channel (.after (.refl _) rfl rfl (.inr rfl) rfl)) (s.pins_moves ch _))
  | readyFalling ch lines =>
    exact request rfl (.ite ((s.pins_moves ch _).trans (State.fault_moves _ ch _)) (s.pins_moves ch _))
  | mediaChange ch lines => exact request rfl ((s.pins_moves ch _).trans (State.takeMedia_moves _ ch))
  | passEndReport ch => exact of_moves (exec_passEndReport_moves s ch)
  | cutReport ch => exact of_moves (exec_cutReport_moves s ch)
  | reading ch => exact exec_reading_effect s ch

end

/-- What a step comes to: the command at the front, from the state with the rest waiting; or a millisecond (R36, R40). -/
theorem step_effect {s t : State} (h : step s = .next t) : ∃ rest, Effect (s.setPending rest) t := by
  unfold step at h
  split at h
  · exact ⟨s.pending, .moves (Host.Outcome.next.inj h ▸ s.passTime_moves)⟩
  · next c rest _ =>
    obtain ⟨u, hu, heffect⟩ := exec_effect (s.setPending rest) c
    obtain rfl : u = t := Host.Outcome.next.inj (hu.symm.trans h)
    exact ⟨rest, heffect⟩

end Sys2Proof.Machine
end

/-! # The invariants of link, channels and counts -/

section
/-! SUPPORT. The invariants that one block alone decides, each by the moves. -/

namespace Sys2Proof.Machine

/-- An invariant that resets, readings and moves keep is kept by every step. -/
theorem step_keeps {P : State → Prop} (hpending : ∀ s l, P s → P (s.setPending l))
    (hreset : ∀ s env banks carried memory, memory = [] ∨ memory = s.pool.memory → P s →
      P (s.restarted env banks carried memory))
    (hreading : ∀ s ch x, P s → P (s.takeReading ch x)) (hmove : ∀ s t, Move s t → P s → P t) {s t : State}
    (h : step s = .next t) (hs : P s) : P t := by
  obtain ⟨rest, heffect⟩ := step_effect h
  have hs := hpending s rest hs
  cases heffect with
  | reset env banks carried hm => exact hreset _ env banks carried _ hm hs
  | reading _ hmoves => exact Moves.keep hmove hmoves (hreading _ _ _ (Moves.keep hmove (State.popHanded_moves _ _) hs))
  | moves hmoves => exact Moves.keep hmove hmoves hs

/-! ## What a reading taken leaves alone -/

/-- A reading taken touches volumes, pool and image memory alone. -/
theorem State.takeReading_frame (s : State) (ch : Chan) (x : Reading) :
    s.takeReading ch x = { s with
      volumes := (s.takeReading ch x).volumes, pool := (s.takeReading ch x).pool, image := (s.takeReading ch x).image } := by
  unfold State.takeReading
  split
  · rfl
  · split <;> rfl

@[simp] theorem State.takeReading_pending (s : State) (ch : Chan) (x : Reading) : (s.takeReading ch x).pending = s.pending := by
  rw [s.takeReading_frame]
@[simp] theorem State.takeReading_link (s : State) (ch : Chan) (x : Reading) : (s.takeReading ch x).link = s.link := by
  rw [s.takeReading_frame]
@[simp] theorem State.takeReading_slots (s : State) (ch : Chan) (x : Reading) : (s.takeReading ch x).slots = s.slots := by
  rw [s.takeReading_frame]
@[simp] theorem State.takeReading_channels (s : State) (ch : Chan) (x : Reading) :
    (s.takeReading ch x).channels = s.channels := by
  rw [s.takeReading_frame]
@[simp] theorem State.takeReading_fetches (s : State) (ch : Chan) (x : Reading) :
    (s.takeReading ch x).fetches = s.fetches := by
  rw [s.takeReading_frame]
@[simp] theorem State.takeReading_nextVolume (s : State) (ch : Chan) (x : Reading) :
    (s.takeReading ch x).nextVolume = s.nextVolume := by
  rw [s.takeReading_frame]
@[simp] theorem State.takeReading_channel (s : State) (ch : Chan) (x : Reading) (k : Chan) :
    (s.takeReading ch x).channel k = s.channel k := by
  simp [State.channel]
@[simp] theorem State.takeReading_slot (s : State) (ch : Chan) (x : Reading) (n : Nat) :
    (s.takeReading ch x).slot n = s.slot n := by
  simp [State.slot]

/-! ## What a release leaves alone -/

theorem State.releaseVolume_frame (s : State) (ch : Chan) :
    s.releaseVolume ch = { s with
      volumes := (s.releaseVolume ch).volumes, pool := (s.releaseVolume ch).pool, slots := (s.releaseVolume ch).slots } := by
  unfold State.releaseVolume
  split <;> rfl

@[simp] theorem State.releaseVolume_pending (s : State) (ch : Chan) : (s.releaseVolume ch).pending = s.pending := by
  rw [s.releaseVolume_frame]
@[simp] theorem State.releaseVolume_link (s : State) (ch : Chan) : (s.releaseVolume ch).link = s.link := by
  rw [s.releaseVolume_frame]
@[simp] theorem State.releaseVolume_channels (s : State) (ch : Chan) : (s.releaseVolume ch).channels = s.channels := by
  rw [s.releaseVolume_frame]
@[simp] theorem State.releaseVolume_image (s : State) (ch : Chan) : (s.releaseVolume ch).image = s.image := by
  rw [s.releaseVolume_frame]
@[simp] theorem State.releaseVolume_fetches (s : State) (ch : Chan) : (s.releaseVolume ch).fetches = s.fetches := by
  rw [s.releaseVolume_frame]
@[simp] theorem State.releaseVolume_nextVolume (s : State) (ch : Chan) :
    (s.releaseVolume ch).nextVolume = s.nextVolume := by
  rw [s.releaseVolume_frame]
@[simp] theorem State.releaseVolume_channel (s : State) (ch k : Chan) : (s.releaseVolume ch).channel k = s.channel k := by
  simp [State.channel]

/-- A release leaves no volume on its channel, and every other volume. -/
theorem State.releaseVolume_volume (s : State) (ch k : Chan) :
    (s.releaseVolume ch).volume k = if k = ch then none else s.volume k := by
  unfold State.releaseVolume
  split
  · next h =>
    split
    · next hk => rw [hk, h]
    · rfl
  · exact State.volume_setVolume _ _ _ _

/-! ## Every command goes on -/

theorem Move.pending {s t : State} (h : Move s t) : t.pending = s.pending := by
  cases h with
  | unmount ch => exact s.releaseVolume_pending ch
  | _ => rfl

theorem Moves.pending {s t : State} (h : Moves s t) : t.pending = s.pending :=
  Moves.keep (P := fun u => u.pending = s.pending) (fun _ _ hm hs => hm.pending.trans hs) h rfl

theorem Effect.pending {s t : State} (h : Effect s t) : t.pending = s.pending := by
  cases h with
  | reset => rfl
  | reading _ hmoves => exact hmoves.pending.trans (State.takeReading_pending _ _ _)
  | moves hmoves => exact hmoves.pending

/-- Settles O3: every command is a reset, a reading or a run of moves, and none of these writes the queue. -/
theorem everyCommandGoesOn : Obligations.EveryCommandGoesOn :=
  fun c s => (exec_effect s c).imp fun _ ht => ⟨ht.1, ht.2.pending⟩

/-! ## The reserve (R160) -/

theorem Move.reserve {s t : State} (h : Move s t) (hs : s.link.ok) : t.link.ok := by
  cases h with
  | link hl => exact hl.ok hs
  | unmount ch => exact s.releaseVolume_link ch ▸ hs
  | _ => exact hs

/-- Settles O4: a reset leaves an empty link, a reading leaves the link, and every move keeps the reserve. -/
theorem reserveKept : Obligations.ReserveKept := by
  refine fun s t => step_keeps (P := fun s => s.link.ok) (fun _ _ h => h) ?_ (fun s ch x h => ?_) fun _ _ => Move.reserve
  · intro s env banks carried memory _ _
    exact ⟨Nat.zero_le _, Nat.zero_le _, by simp [State.restarted, Link.reset, Link.idsFresh]⟩
  · exact s.takeReading_link ch x ▸ h

/-! ## What every move does to a channel -/

/-- A move leaves a channel or writes it, its lines driven, with what a channel keeps. -/
theorem Move.channel_cases {s t : State} (h : Move s t) (k : Chan) :
    t.channel k = s.channel k ∨ ∃ c, t.channel k = c.drive ∧
      ((s.channel k).Keeps c ∨ ∃ m, c = (s.channel k).startProbe m) := by
  have hput {u : State} {ch : Chan} {c : Channel} (hu : u.channels = s.channels)
      (hc : (s.channel ch).Keeps c ∨ ∃ m, c = (s.channel ch).startProbe m) :
      (u.putChannel ch c).channel k = s.channel k ∨ ∃ c', (u.putChannel ch c).channel k = c'.drive ∧
        ((s.channel k).Keeps c' ∨ ∃ m, c' = (s.channel k).startProbe m) := by
    rw [State.channel_putChannel]
    split
    · next hk => exact .inr ⟨c, rfl, hk ▸ hc⟩
    · exact .inl (congrArg (qget · k) hu)
  cases h with
  | channel hc => exact hput rfl (.inl hc)
  | probe m _ => exact hput rfl (.inr ⟨m, rfl⟩)
  | mount _ hc _ _ _ => exact hput rfl (.inl hc)
  | unmount ch => exact .inl (s.releaseVolume_channel ch k)
  | _ => exact .inl rfl

@[simp] theorem State.restarted_channel (s : State) (env : Environment) (banks : Quad Bool) (carried : Bool)
    (memory : SMap Area) (ch : Chan) :
    (s.restarted env banks carried memory).channel ch = Channel.start (qget env.lines ch) :=
  qget_qmap _ _ _

/-! ## The output lines (R21, R22, R25) -/

theorem Move.lines {s t : State} (h : Move s t) (hs : s.linesOk) : t.linesOk := by
  intro k
  rcases h.channel_cases k with hk | ⟨c, hk, -⟩
  · rw [hk]; exact hs k
  · rw [hk]; exact (Channel.drive_outputs c).trans (Channel.outputsOf_drive c).symm

/-- R25's table for a floppy channel: the lines of states that hold the motor, and those of states that do not. -/
theorem outputsOf_floppy {c : Channel} (h : c.kind = .floppy) :
    outputsOf c = { motor := motorOn c.state || c.probe.isSome, load := motorOn c.state, dir := c.dirAsserted
                    side := decide (c.headSelected = 1), offsetPlus := decide (c.offset = .plus)
                    offsetMinus := decide (c.offset = .minus), runFwd := false, runRev := false, readEn := false } := by
  simp [outputsOf, h]

theorem outputsOf_cartridge {c : Channel} (h : c.kind = .cartridge) :
    outputsOf c = { motor := false, load := false, dir := c.dirAsserted, side := false
                    offsetPlus := decide (c.offset = .plus), offsetMinus := decide (c.offset = .minus)
                    runFwd := decide (tapeMotion c = some .forward), runRev := decide (tapeMotion c = some .reverse)
                    readEn := decide (c.state = .capturing) && !c.completing } := by
  simp [outputsOf, h]

theorem motorOn_eq_false_iff {st : ChanState} : motorOn st = false ↔ st = .absent ∨ st = .idle ∨ st = .faulted := by
  cases st <;> simp [motorOn]

/-! ### Where the tape runs (R22) -/

theorem tapeMotion_winding {c : Channel} (h : c.state = .winding) : tapeMotion c = some .reverse := by simp [tapeMotion, h]

theorem tapeMotion_recal {c : Channel} (h : c.state = .recal) :
    tapeMotion c ≠ some .forward ∧
      (tapeMotion c = some .reverse ↔ ∃ n, c.recalStage = some { rewinding := true, pulses := n }) := by
  rcases hstage : c.recalStage with _ | ⟨rewinding, pulses⟩
  · simp [tapeMotion, h, hstage]
  · cases rewinding <;> simp [tapeMotion, h, hstage]

/-- In ARMED, and in CAPTURING while capture goes on, the tape runs as its pass reads. -/
theorem tapeMotion_runs {c : Channel} (h : c.state = .armed ∨ (c.state = .capturing ∧ c.completing = false)) :
    tapeMotion c = c.pass.map (·.direction) := by
  rcases h with h | ⟨h, hc⟩
  · simp [tapeMotion, h]
  · simp [tapeMotion, h, hc]

theorem tapeMotion_still {c : Channel} (hw : c.state ≠ .winding) (hr : c.state ≠ .recal)
    (h : ¬ (c.state = .armed ∨ (c.state = .capturing ∧ c.completing = false))) : tapeMotion c = none := by
  unfold tapeMotion
  split <;> simp_all

/-- Settles O5: every channel is written with its lines driven; and R25's table, by the kind of the channel. -/
theorem linesFollowState : Obligations.LinesFollowState := by
  refine ⟨fun s t => step_keeps (P := State.linesOk) (fun _ _ h => h) (fun s env banks carried memory _ _ ch => ?_)
    (fun s ch x h k => by rw [State.takeReading_channel]; exact h k) fun _ _ => Move.lines, ?_⟩
  · rw [State.restarted_channel]
    exact (Channel.drive_outputs _).trans (Channel.outputsOf_drive _).symm
  · rintro s hs ch c o hc rfl still runs
    rw [show c.outputs = outputsOf c from hc ▸ hs ch]
    rcases hkind : c.kind with _ | _
    · rw [outputsOf_floppy hkind]
      refine ⟨by simp, by simp, by simp, rfl, fun _ => ⟨fun hstill => ?_, fun hmoving _ => ?_, by simp, rfl, rfl, rfl⟩,
        fun h => nomatch h⟩
      · rw [motorOn_eq_false_iff.mpr hstill]
        exact ⟨rfl, by simp [Option.isSome_iff_ne_none]⟩
      · have hon : motorOn c.state = true := by
          rw [← Bool.not_eq_false]; exact fun h => hmoving (motorOn_eq_false_iff.mp h)
        simp [hon]
    · rw [outputsOf_cartridge hkind]
      refine ⟨fun h => ?_, by simp, by simp, rfl, fun h => (nomatch h), fun _ => ⟨rfl, rfl, rfl, by simp, fun h => ?_,
        fun h => ?_, fun a hruns ha => ?_, fun hw hr hruns => ?_⟩⟩
      · have hfwd := of_decide_eq_true h.1
        have hrev := of_decide_eq_true h.2
        rw [hfwd] at hrev; cases hrev
      · simp [tapeMotion_winding h]
      · simpa using tapeMotion_recal h
      · simp [tapeMotion_runs hruns, ha]
      · simp [tapeMotion_still hw hr hruns]

/-! ## The period (R59) -/

theorem Move.periods {s t : State} (h : Move s t) (hs : s.periodsOk) : t.periodsOk := by
  intro k
  rcases h.channel_cases k with hk | ⟨c, hk, hc | ⟨m, rfl⟩⟩
  · rw [hk]; exact hs k
  · rw [hk]; exact hc.period (hs k)
  · rw [hk]; exact hs k

/-- Settles O6: every write of a channel keeps its separator's period within the bounds of its pass. -/
theorem periodStaysInWindow : Obligations.PeriodStaysInWindow := by
  refine fun s t => step_keeps (P := State.periodsOk) (fun _ _ h => h) (fun s env banks carried memory _ _ ch => ?_)
    (fun s ch x h k => by rw [State.takeReading_channel]; exact h k) fun _ _ => Move.periods
  rw [State.restarted_channel]
  exact fun _ hp => nomatch hp

end Sys2Proof.Machine
end

/-! # The record store, rank order and the slots of the pool -/

section
/-! SUPPORT. First fit (R89), rank (R97), and the slots of candidate memory as they are granted, written and returned (R112 to
R118). -/

namespace Sys2Proof.Machine

/-! ## First fit (R89) -/

theorem runFree_iff {runs : List (Nat × Nat)} {b n : Nat} :
    runFree runs b n = true ↔ b + n ≤ 32768 ∧ ∀ r ∈ runs, b + n ≤ r.1 ∨ r.1 + r.2 ≤ b := by
  simp only [runFree, Bool.and_eq_true, decide_eq_true_eq, List.all_eq_true, Bool.or_eq_true]
  rfl

theorem leastOf_eq_none_iff {l : List Nat} : leastOf l = none ↔ l = [] := by
  cases l with
  | nil => simp [leastOf]
  | cons x l => cases h : leastOf l <;> simp [leastOf, h]

theorem leastOf_eq_some {l : List Nat} {b : Nat} (h : leastOf l = some b) : b ∈ l ∧ ∀ x ∈ l, b ≤ x := by
  induction l generalizing b with
  | nil => cases h
  | cons x l ih =>
    rcases hl : leastOf l with _ | y
    · obtain rfl : x = b := by simpa [leastOf, hl] using h
      simp [leastOf_eq_none_iff.mp hl]
    · obtain rfl : min x y = b := by simpa [leastOf, hl] using h
      obtain ⟨hmem, hle⟩ := ih hl
      refine ⟨?_, fun z hz => ?_⟩
      · rcases Nat.le_total x y with hxy | hyx
        · simp [Nat.min_eq_left hxy]
        · simp [Nat.min_eq_right hyx, hmem]
      · rcases List.mem_cons.mp hz with rfl | hz
        · exact Nat.min_le_left _ _
        · exact (Nat.min_le_right _ _).trans (hle z hz)

/-- A free run can be moved down to the start of the store or to the end of another run. -/
theorem exists_candidate_le {runs : List (Nat × Nat)} {b n : Nat} (h : runFree runs b n = true) :
    ∃ c ∈ 0 :: runs.map (fun r => r.1 + r.2), c ≤ b ∧ runFree runs c n = true := by
  induction b with
  | zero => exact ⟨0, List.mem_cons_self .., Nat.le_refl _, h⟩
  | succ b ih =>
    by_cases hend : b + 1 ∈ runs.map (fun r => r.1 + r.2)
    · exact ⟨b + 1, List.mem_cons_of_mem _ hend, Nat.le_refl _, h⟩
    · have hfree : runFree runs b n = true := by
        rw [runFree_iff] at h ⊢
        refine ⟨by omega, fun r hr => ?_⟩
        have hne : r.1 + r.2 ≠ b + 1 := fun he => hend (he ▸ List.mem_map_of_mem hr)
        have := h.2 r hr
        omega
      obtain ⟨c, hc, hle, hfc⟩ := ih hfree
      exact ⟨c, hc, by omega, hfc⟩

theorem firstFit_eq_some {runs : List (Nat × Nat)} {n b : Nat} (h : firstFit runs n = some b) :
    runFree runs b n = true ∧ ∀ b', runFree runs b' n = true → b ≤ b' := by
  obtain ⟨hmem, hle⟩ := leastOf_eq_some h
  refine ⟨(List.mem_filter.mp hmem).2, fun b' hb' => ?_⟩
  obtain ⟨c, hc, hcb, hfree⟩ := exists_candidate_le hb'
  exact (hle c (List.mem_filter.mpr ⟨hc, hfree⟩)).trans hcb

theorem firstFit_eq_none {runs : List (Nat × Nat)} {n : Nat} (h : firstFit runs n = none) (b : Nat) :
    ¬ runFree runs b n = true := by
  intro hb
  obtain ⟨c, hc, -, hfree⟩ := exists_candidate_le hb
  exact List.filter_eq_nil_iff.mp (leastOf_eq_none_iff.mp h) c hc hfree

/-- Settles O25: a run that is free anywhere is free no higher at 0 or at the end of another run. -/
theorem firstFitIsLowest : Obligations.FirstFitIsLowest := by
  intro runs n
  simp only [← runFree_iff]
  refine ⟨fun b hb => ?_, fun hnone b => firstFit_eq_none hnone b⟩
  obtain ⟨hfree, hleast⟩ := firstFit_eq_some hb
  exact ⟨hfree, fun b' hlt hb' => absurd (hleast b' hb') (Nat.not_le.mpr hlt)⟩

/-! ## Rank (R97) -/

/-- The five keys of R97, in order. -/
theorem ranksAbove_iff {a b : Candidate} :
    ranksAbove a b = true ↔
      (a.checkOk = true ∧ b.checkOk = false) ∨
      (a.checkOk = b.checkOk ∧ b.matchCount < a.matchCount) ∨
      (a.checkOk = b.checkOk ∧ a.matchCount = b.matchCount ∧ b.score < a.score) ∨
      (a.checkOk = b.checkOk ∧ a.matchCount = b.matchCount ∧ a.score = b.score ∧ a.serial < b.serial) ∨
      (a.checkOk = b.checkOk ∧ a.matchCount = b.matchCount ∧ a.score = b.score ∧ a.serial = b.serial ∧
        a.entered < b.entered) := by
  unfold ranksAbove
  by_cases hc : a.checkOk = b.checkOk
  · have hnot : ¬ (a.checkOk = true ∧ b.checkOk = false) := by rw [hc]; cases b.checkOk <;> simp
    by_cases hm : a.matchCount = b.matchCount <;> by_cases hs : a.score = b.score <;>
      by_cases hr : a.serial = b.serial <;> simp [hc, hm, hs, hr]
  · cases ha : a.checkOk <;> cases hb : b.checkOk <;> simp_all

theorem ranksAbove_asymm {a b : Candidate} (h : ranksAbove a b = true) : ranksAbove b a = false := by
  rw [← Bool.not_eq_true]
  intro h'
  rw [ranksAbove_iff] at h h'
  cases ha : a.checkOk <;> cases hb : b.checkOk <;> simp [ha, hb] at h h' <;> omega

/-- Rank is a total preorder: what does not rank above `b` does not rank above what `b` does not rank above. -/
theorem ranksAbove_negTrans {a b c : Candidate} (h : ranksAbove b a = false) (h' : ranksAbove c b = false) :
    ranksAbove c a = false := by
  rw [← Bool.not_eq_true, ranksAbove_iff] at *
  cases ha : a.checkOk <;> cases hb : b.checkOk <;> cases hc : c.checkOk <;> simp [ha, hb, hc] at * <;> omega

section
variable (p : Pool)

theorem Pool.slotAbove_asymm {a b : Nat} (h : p.slotAbove a b = true) : p.slotAbove b a = false := by
  unfold Pool.slotAbove at *
  cases ha : p.descriptor a <;> cases hb : p.descriptor b <;> simp only [ha, hb] at h ⊢
  · cases h
  · exact ranksAbove_asymm h

theorem Pool.slotAbove_negTrans {a b c : Nat} (h : p.slotAbove b a = false) (h' : p.slotAbove c b = false) :
    p.slotAbove c a = false := by
  unfold Pool.slotAbove at h h' ⊢
  cases ha : p.descriptor a <;> cases hb : p.descriptor b <;> cases hc : p.descriptor c <;>
    simp only [ha, hb, hc, Bool.true_eq_false] at h h' ⊢
  exact ranksAbove_negTrans h h'

theorem Pool.insertRank_perm (slot : Nat) (l : List Nat) : (p.insertRank slot l).Perm (slot :: l) := by
  induction l with
  | nil => exact .refl _
  | cons x l ih =>
    unfold Pool.insertRank
    split
    · exact .refl _
    · exact (ih.cons x).trans (.swap ..)

theorem Pool.rankOrder_perm (l : List Nat) : (p.rankOrder l).Perm l := by
  induction l with
  | nil => exact .refl _
  | cons x l ih => exact (p.insertRank_perm x _).trans (ih.cons x)

/-- Nothing later ranks above anything earlier. -/
def Pool.Ranked (l : List Nat) : Prop := l.Pairwise (fun a b => p.slotAbove b a = false)

theorem Pool.insertRank_ranked (slot : Nat) {l : List Nat} (h : p.Ranked l) : p.Ranked (p.insertRank slot l) := by
  induction l with
  | nil => exact List.pairwise_singleton ..
  | cons x l ih =>
    obtain ⟨hx, hl⟩ := List.pairwise_cons.mp h
    unfold Pool.insertRank
    split
    · next habove =>
      have hfirst := p.slotAbove_asymm habove
      refine List.pairwise_cons.mpr ⟨fun y hy => ?_, h⟩
      rcases List.mem_cons.mp hy with rfl | hy
      · exact hfirst
      · exact p.slotAbove_negTrans hfirst (hx y hy)
    · next hnot =>
      refine List.pairwise_cons.mpr ⟨fun y hy => ?_, ih hl⟩
      rcases List.mem_cons.mp ((p.insertRank_perm slot l).mem_iff.mp hy) with rfl | hy
      · exact Bool.not_eq_true _ ▸ hnot
      · exact hx y hy

theorem Pool.rankOrder_ranked (l : List Nat) : p.Ranked (p.rankOrder l) := by
  induction l with
  | nil => exact List.Pairwise.nil
  | cons x l ih => exact p.insertRank_ranked x ih

end

/-- Settles O22: the keys of rank, and insertion into a ranked list, which is a permutation and stays ranked. -/
theorem rankOrderSorts : Obligations.RankOrderSorts := by
  refine ⟨fun p slot other a b ha hb => ?_, fun p slots => ⟨p.rankOrder_perm slots, p.rankOrder_ranked slots⟩⟩
  have habove : p.slotAbove slot other = ranksAbove a b := by simp only [Pool.slotAbove, ha, hb]
  exact ⟨habove ▸ ranksAbove_iff, habove⟩

/-! ## Slots written and returned (R114 to R116) -/

section
variable {p : Pool} {slot : Nat} {c : Candidate} {data : List Byte} {confs : List Nat}

theorem Pool.descriptor_write (h : mapOk none p.descriptors = true) (k : Nat) :
    (p.write slot c data confs).descriptor k = if k = slot then some c else p.descriptor k := by
  split
  · next hk => subst hk; exact mapGet_mapSet_same h _ _
  · next hk => exact mapGet_mapSet_ne _ hk

theorem Pool.descriptor_giveBack (h : mapOk none p.descriptors = true) (k : Nat) :
    (p.giveBack slot).descriptor k = if k = slot then none else p.descriptor k := by
  split
  · next hk => subst hk; exact mapGet_mapSet_same h _ _
  · next hk => exact mapGet_mapSet_ne _ hk

end

/-- Settles O23: the free list ascends, so its head is the lowest free slot; and the laws of the two maps. -/
theorem slotsGrantedAndReturned : Obligations.SlotsGrantedAndReturned := by
  refine ⟨fun p c data confs hasc hform hmem hlen => ⟨fun hnil => ?_, fun hne => ?_⟩, fun p slot hasc hnot hform => ?_⟩
  · simp [Pool.allocate, hnil]
  · obtain ⟨slot, rest, hfree⟩ := List.exists_cons_of_ne_nil hne
    rw [hfree] at hasc
    obtain ⟨hslot, -⟩ := List.pairwise_cons.mp hasc
    have hnot : slot ∉ rest := fun h => Nat.lt_irrefl _ (hslot slot h)
    have harea := areaOf_writeArea_same hmem slot data confs
    refine ⟨slot, { p with freeList := rest }.write slot c data confs, by simp only [Pool.allocate, hfree], by simp [hfree],
      fun k hk => ?_, hnot, fun k hk => by simp [Pool.write, hfree, hk], by simp [Pool.freeCount, Pool.write, hfree],
      (Pool.descriptor_write (p := { p with freeList := rest }) hform slot).trans (if_pos rfl), ?_, ?_, fun k hk =>
      ⟨(Pool.descriptor_write (p := { p with freeList := rest }) hform k).trans (if_neg hk), areaOf_writeArea_ne _ _ _ _ _ hk⟩⟩
    · rcases List.mem_cons.mp (hfree ▸ hk) with rfl | hk
      · exact Nat.le_refl _
      · exact (hslot k hk).le
    · simp [Pool.data, Pool.write, harea]
    · simp [Pool.confidences, Pool.write, harea]
  · exact ⟨insertAsc_ascending hasc slot, length_insertAsc hnot, fun k => mem_insertAsc,
      (Pool.descriptor_giveBack hform slot).trans (if_pos rfl),
      fun k hk => (Pool.descriptor_giveBack hform k).trans (if_neg hk), rfl⟩

end Sys2Proof.Machine
end

/-! # What a reading taken keeps -/

section
/-! SUPPORT. The slots of the pool through every write of it, and the handling of a reading, one lemma per operation. -/

namespace Sys2Proof.Machine

/-! ## The slots of the pool (R112, R115, R116) -/

/-- The pool's part of State.slotsOk. -/
structure Pool.SlotsOk (p : Pool) : Prop where
  ascending : p.freeList.Pairwise (· < ·)
  form : mapOk none p.descriptors = true
  usable : ∀ k, (k ∈ p.freeList ∨ p.descriptor k ≠ none) ↔
    ∃ b : Chan, qget p.bankPassed b = true ∧ 1024 * b.val ≤ k ∧ k < 1024 * (b.val + 1)
  apart : ∀ k ∈ p.freeList, p.descriptor k = none

/-- A write of the pool that frees no slot and holds no other. -/
structure Pool.Keeps (p q : Pool) : Prop where
  banks : q.bankPassed = p.bankPassed
  free : q.freeList = p.freeList
  form : mapOk none p.descriptors = true → mapOk none q.descriptors = true
  held : mapOk none p.descriptors = true → ∀ k, q.descriptor k = none ↔ p.descriptor k = none
  memory : memoryOk p.memory = true → memoryOk q.memory = true

theorem Pool.Keeps.slotsOk {p q : Pool} (h : p.Keeps q) (hp : p.SlotsOk) : q.SlotsOk where
  ascending := h.free ▸ hp.ascending
  form := h.form hp.form
  usable k := by rw [h.free, h.banks, Ne, h.held hp.form]; exact hp.usable k
  apart k hk := (h.held hp.form k).mpr (hp.apart k (h.free ▸ hk))

/-- The descriptor of a held slot rewritten. -/
theorem Pool.Keeps.of_held {p q : Pool} {slot : Nat} {c : Candidate} (hheld : p.descriptor slot ≠ none)
    (hd : q.descriptors = mapSet none p.descriptors slot (some c)) (hb : q.bankPassed = p.bankPassed)
    (hf : q.freeList = p.freeList) (hm : memoryOk p.memory = true → memoryOk q.memory = true) : p.Keeps q where
  banks := hb
  free := hf
  form h := hd ▸ mapOk_mapSet h _ _
  held h k := by
    unfold Pool.descriptor at *
    rw [hd]
    by_cases hk : k = slot
    · rw [hk, mapGet_mapSet_same h]
      exact ⟨fun hn => (nomatch hn), fun hn => absurd hn hheld⟩
    · rw [mapGet_mapSet_ne _ hk]
  memory := hm

section
variable {p : Pool} {slot : Nat}

theorem Pool.merge_keeps (confs : List Nat) (ok : Bool) : p.Keeps (p.merge slot confs ok) := by
  unfold Pool.merge
  split
  · exact ⟨rfl, rfl, id, fun _ _ => .rfl, id⟩
  · next c hc => exact .of_held (hc ▸ Option.some_ne_none c) rfl rfl rfl fun h => writeArea_ok h _ _ _

theorem Pool.markOk_keeps : p.Keeps (p.markOk slot) := by
  unfold Pool.markOk
  split
  · exact ⟨rfl, rfl, id, fun _ _ => .rfl, id⟩
  · next c hc => exact .of_held (hc ▸ Option.some_ne_none c) rfl rfl rfl id

theorem Pool.write_keeps (h : p.descriptor slot ≠ none) (c : Candidate) (data : List Byte) (confs : List Nat) :
    p.Keeps (p.write slot c data confs) :=
  .of_held h rfl rfl rfl fun h => writeArea_ok h _ _ _

/-- A slot of a bank that passed, returned, is free and empty. -/
theorem Pool.giveBack_slotsOk (h : p.SlotsOk) (hslot : slot ∈ p.freeList ∨ p.descriptor slot ≠ none) :
    (p.giveBack slot).SlotsOk where
  ascending := insertAsc_ascending h.ascending slot
  form := mapOk_mapSet h.form _ _
  usable k := by
    rw [Pool.descriptor_giveBack h.form]
    change (k ∈ insertAsc p.freeList slot ∨ _) ↔ ∃ b : Chan, qget p.bankPassed b = true ∧ _
    rw [← h.usable k, mem_insertAsc]
    by_cases hk : k = slot
    · subst hk; simp [hslot]
    · simp [hk]
  apart k hk := by
    rw [Pool.descriptor_giveBack h.form]
    split
    · rfl
    · next hne => exact h.apart k ((mem_insertAsc.mp hk).resolve_left hne)

theorem Pool.giveBackAll_banks (p : Pool) (l : List Nat) : (p.giveBackAll l).bankPassed = p.bankPassed := by
  induction l generalizing p with
  | nil => rfl
  | cons k l ih => exact (ih (p.giveBack k)).trans rfl

@[simp] theorem Pool.giveBackAll_memory (p : Pool) (l : List Nat) : (p.giveBackAll l).memory = p.memory := by
  induction l generalizing p with
  | nil => rfl
  | cons k l ih => exact (ih (p.giveBack k)).trans rfl

theorem Pool.giveBackAll_form (h : mapOk none p.descriptors = true) (l : List Nat) :
    mapOk none (p.giveBackAll l).descriptors = true := by
  induction l generalizing p with
  | nil => exact h
  | cons k l ih => exact ih (p := p.giveBack k) (mapOk_mapSet h _ _)

/-- The slots returned are empty, every other slot is as before. -/
theorem Pool.descriptor_giveBackAll (h : mapOk none p.descriptors = true) (l : List Nat) (k : Nat) :
    (p.giveBackAll l).descriptor k = if k ∈ l then none else p.descriptor k := by
  induction l generalizing p with
  | nil => rfl
  | cons x l ih =>
    change ((p.giveBack x).giveBackAll l).descriptor k = _
    rw [ih (p := p.giveBack x) (mapOk_mapSet h _ _), Pool.descriptor_giveBack h]
    by_cases hx : k = x
    · simp [hx]
    · simp [hx]

theorem Pool.giveBackAll_slotsOk (h : p.SlotsOk) {l : List Nat} (hl : ∀ k ∈ l, p.descriptor k ≠ none) :
    (p.giveBackAll l).SlotsOk := by
  have husable : ∀ k ∈ l, ∃ b : Chan, qget p.bankPassed b = true ∧ 1024 * b.val ≤ k ∧ k < 1024 * (b.val + 1) :=
    fun k hk => (h.usable k).mp (.inr (hl k hk))
  clear hl
  induction l generalizing p with
  | nil => exact h
  | cons k l ih =>
    have hk := (h.usable k).mpr (husable k (List.mem_cons_self ..))
    exact ih (p := p.giveBack k) (Pool.giveBack_slotsOk h hk) fun j hj => husable j (List.mem_cons_of_mem _ hj)

/-- The lowest free slot granted. -/
theorem Pool.allocate_eq_some {c : Candidate} {data : List Byte} {confs : List Nat} {q : Pool}
    (h : p.allocate c data confs = some (slot, q)) :
    ∃ rest, p.freeList = slot :: rest ∧ q = { p with freeList := rest }.write slot c data confs := by
  unfold Pool.allocate at h
  split at h
  · cases h
  · next slot' rest hfree =>
    obtain ⟨rfl, rfl⟩ := Prod.mk.inj (Option.some.inj h)
    exact ⟨rest, hfree, rfl⟩

theorem Pool.descriptor_allocate {c : Candidate} {data : List Byte} {confs : List Nat} {q : Pool}
    (hform : mapOk none p.descriptors = true) (h : p.allocate c data confs = some (slot, q)) (k : Nat) :
    q.descriptor k = if k = slot then some c else p.descriptor k := by
  obtain ⟨rest, -, rfl⟩ := Pool.allocate_eq_some h
  exact Pool.descriptor_write (p := { p with freeList := rest }) hform k

theorem Pool.allocate_slotsOk {c : Candidate} {data : List Byte} {confs : List Nat} {q : Pool} (hp : p.SlotsOk)
    (h : p.allocate c data confs = some (slot, q)) : q.SlotsOk := by
  have hdescriptor := Pool.descriptor_allocate hp.form h
  obtain ⟨rest, hfree, rfl⟩ := Pool.allocate_eq_some h
  have hasc := hp.ascending
  rw [hfree] at hasc
  obtain ⟨hlow, hrest⟩ := List.pairwise_cons.mp hasc
  refine ⟨hrest, mapOk_mapSet hp.form _ _, fun k => ?_, fun k hk => ?_⟩
  · rw [hdescriptor]
    change (k ∈ rest ∨ _) ↔ ∃ b : Chan, qget p.bankPassed b = true ∧ _
    rw [← hp.usable k, hfree]
    by_cases hk : k = slot
    · simp [hk]
    · simp [hk]
  · rw [hdescriptor, if_neg (hlow k hk).ne']
    exact hp.apart k (hfree ▸ List.mem_cons_of_mem _ hk)

end

/-! ## The handling of a reading (R98 to R103) -/

/-- The slots of one record, where `others` are the slots that other records reference. -/
structure Work.SlotsOk (others : Nat → Prop) (w : Work) : Prop where
  pool : w.pool.SlotsOk
  nodup : w.record.candidates.Nodup
  held : ∀ k ∈ w.record.candidates, w.pool.descriptor k ≠ none
  others : ∀ k, others k → w.pool.descriptor k ≠ none ∧ k ∉ w.record.candidates

/-- A record that gives all its slots back. -/
theorem Work.SlotsOk.cleared {others : Nat → Prop} {w : Work} (h : w.SlotsOk others) {r : SectorRecord}
    (hr : r.candidates = []) (image : SMap Area) :
    Work.SlotsOk others { record := r, pool := w.pool.giveBackAll w.record.candidates, image := image } where
  pool := Pool.giveBackAll_slotsOk h.pool h.held
  nodup := hr ▸ List.nodup_nil
  held k hk := by rw [hr] at hk; cases hk
  others k hk := by
    rw [Pool.descriptor_giveBackAll h.pool.form, if_neg (h.others k hk).2, hr]
    exact ⟨(h.others k hk).1, List.not_mem_nil⟩

/-- What every step of the handling of a reading keeps: the count of readings, the form of the memories, and
the slots; in image memory it writes area `n` alone. -/
structure Work.Keeps (n : Nat) (w u : Work) : Prop where
  reads : u.record.reads = w.record.reads
  area : ∀ k, k ≠ n → areaOf u.image k = areaOf w.image k
  image : memoryOk w.image = true → memoryOk u.image = true
  memory : memoryOk w.pool.memory = true → memoryOk u.pool.memory = true
  form : mapOk none w.pool.descriptors = true → mapOk none u.pool.descriptors = true
  slots : ∀ others, w.SlotsOk others → u.SlotsOk others

theorem Work.Keeps.refl (n : Nat) (w : Work) : w.Keeps n w := ⟨rfl, fun _ _ => rfl, id, id, id, fun _ => id⟩

theorem Work.Keeps.trans {n : Nat} {w u x : Work} (h : w.Keeps n u) (k : u.Keeps n x) : w.Keeps n x :=
  ⟨k.reads.trans h.reads, fun j hj => (k.area j hj).trans (h.area j hj), fun a => k.image (h.image a), fun a => k.memory (h.memory a), fun a => k.form (h.form a),
    fun o a => k.slots o (h.slots o a)⟩

/-- Held slots stay held, and the list is the same but for its order. -/
theorem Work.Keeps.of_pool {n : Nat} {w u : Work} (hr : u.record.reads = w.record.reads) (hi : u.image = w.image)
    (hp : w.pool.Keeps u.pool) (hc : u.record.candidates.Perm w.record.candidates) : w.Keeps n u where
  reads := hr
  area _ _ := by rw [hi]
  image h := hi ▸ h
  memory := hp.memory
  form := hp.form
  slots _ h :=
    { pool := hp.slotsOk h.pool
      nodup := hc.nodup_iff.mpr h.nodup
      held := fun k hk => (hp.held h.pool.form k).not.mpr (h.held k (hc.mem_iff.mp hk))
      others := fun k hk => ⟨(hp.held h.pool.form k).not.mpr (h.others k hk).1, fun hm => (h.others k hk).2 (hc.mem_iff.mp hm)⟩ }

theorem Pool.Keeps.refl (p : Pool) : p.Keeps p := ⟨rfl, rfl, id, fun _ _ => .rfl, id⟩

/-- A record rewritten with the candidates and the count of readings it had. -/
theorem Work.Keeps.of_record {n : Nat} {w : Work} {r : SectorRecord} (hr : r.reads = w.record.reads)
    (hc : r.candidates = w.record.candidates) : w.Keeps n { w with record := r } :=
  .of_pool hr rfl (.refl _) (hc ▸ .refl _)

theorem Pool.entries_keeps (p : Pool) (n : Nat) : p.Keeps { p with entries := n } := ⟨rfl, rfl, id, fun _ _ => .rfl, id⟩

theorem Pool.setScratch_keeps (p : Pool) (ch : Chan) (x : Option Scratch) : p.Keeps (p.setScratch ch x) :=
  ⟨rfl, rfl, id, fun _ _ => .rfl, id⟩

section
variable (w : Work) {n : Nat}

theorem Work.compareSettled_keeps (e : ReadingEnv) : w.Keeps e.recordNumber (w.compareSettled e) := by
  unfold Work.compareSettled
  split
  · exact .refl _ w
  · dsimp only
    split
    · exact ⟨rfl, fun k hk => areaOf_writeArea_ne _ _ _ _ _ hk, fun h => writeArea_ok h _ _ _, id, id, fun o h => ⟨h.pool, h.nodup, h.held, h.others⟩⟩
    · split
      · exact .of_record rfl rfl
      · exact .refl _ w

/-- A new candidate in a slot just granted. -/
theorem Work.enter_granted_keeps {c : Candidate} {data : List Byte} {confs : List Nat} {slot : Nat} {q : Pool}
    (h : w.pool.allocate c data confs = some (slot, q)) (armed overflowed : Bool) :
    w.Keeps n (w.enter slot q w.record.candidates armed overflowed) where
  reads := rfl
  area _ _ := rfl
  image := id
  memory hm := by
    obtain ⟨rest, -, rfl⟩ := Pool.allocate_eq_some h
    exact writeArea_ok hm _ _ _
  form hf := by
    obtain ⟨rest, -, rfl⟩ := Pool.allocate_eq_some h
    exact mapOk_mapSet hf _ _
  slots o ho := by
    have hdescriptor := Pool.descriptor_allocate ho.pool.form h
    have hlist : (w.enter slot q w.record.candidates armed overflowed).record.candidates.Perm
        (w.record.candidates ++ [slot]) := q.rankOrder_perm _
    have hempty : w.pool.descriptor slot = none := by
      obtain ⟨rest, hfree, -⟩ := Pool.allocate_eq_some h
      exact ho.pool.apart slot (hfree ▸ List.mem_cons_self ..)
    have hheld : ∀ k, w.pool.descriptor k ≠ none → q.descriptor k ≠ none := fun k hk => by
      rw [hdescriptor]
      split
      · exact Option.some_ne_none c
      · exact hk
    refine ⟨(Pool.entries_keeps q _).slotsOk (Pool.allocate_slotsOk ho.pool h), hlist.nodup_iff.mpr ?_, fun k hk => ?_,
      fun k hk => ⟨hheld k (ho.others k hk).1, fun hm => ?_⟩⟩
    · exact List.nodup_append.mpr ⟨ho.nodup, List.nodup_singleton _, fun a ha b hb hab =>
        ho.held a ha (by rw [hab, List.mem_singleton.mp hb, hempty])⟩
    · rcases List.mem_append.mp (hlist.mem_iff.mp hk) with hk | hk
      · exact hheld k (ho.held k hk)
      · exact (hdescriptor k).trans (if_pos (List.mem_singleton.mp hk)) ▸ Option.some_ne_none c
    · rcases List.mem_append.mp (hlist.mem_iff.mp hm) with hm | hm
      · exact (ho.others k hk).2 hm
      · exact (ho.others k hk).1 (List.mem_singleton.mp hm ▸ hempty)

theorem Work.replaceLowest_keeps (c : Candidate) (data : List Byte) (confs : List Nat) (armed : Bool) :
    w.Keeps n (w.replaceLowest c data confs armed) := by
  unfold Work.replaceLowest
  split
  · exact .of_record rfl rfl
  · next slot hlast =>
    split
    · exact .of_record rfl rfl
    · next lowest hheld =>
      split
      · have hwrite := Pool.write_keeps (hheld ▸ Option.some_ne_none lowest) c data confs
        refine .of_pool rfl rfl ⟨hwrite.banks, hwrite.free, hwrite.form, hwrite.held, hwrite.memory⟩
          ((Pool.rankOrder_perm _ _).trans ?_)
        rw [List.dropLast_append_getLast? slot hlast]
      · exact .of_record rfl rfl

theorem Work.addCandidate_keeps (c : Candidate) (data : List Byte) (confs : List Nat) (armed : Bool) :
    w.Keeps n (w.addCandidate c data confs armed) := by
  unfold Work.addCandidate
  split
  · split
    · next h => exact w.enter_granted_keeps h _ _
    · exact w.replaceLowest_keeps _ _ _ _
  · exact w.replaceLowest_keeps _ _ _ _

theorem Work.mergeOrForm_keeps (e : ReadingEnv) : w.Keeps n (w.mergeOrForm e) := by
  unfold Work.mergeOrForm
  split
  · exact .of_pool rfl rfl (Pool.merge_keeps _ _) (Pool.rankOrder_perm _ _)
  · exact w.addCandidate_keeps _ _ _ _

theorem Work.settle_keeps (e : ReadingEnv) (data : List Byte) (confs : List Nat) (info : SettledInfo) :
    w.Keeps e.recordNumber (w.settle e data confs info) where
  reads := rfl
  area _ hk := areaOf_writeArea_ne _ _ _ _ _ hk
  image h := writeArea_ok h _ _ _
  memory h := (w.pool.giveBackAll_memory _).symm ▸ h
  form h := Pool.giveBackAll_form h _
  slots _ h := h.cleared rfl _

theorem Work.become_keeps (st : RecordState) : w.Keeps n (w.become st) := by
  unfold Work.become
  split
  · exact .refl _ w
  · exact .of_record rfl rfl

theorem Work.takeFusion_keeps (e : ReadingEnv) (sc : Scratch) : w.Keeps e.recordNumber (w.takeFusion e sc) := by
  unfold Work.takeFusion
  split
  · exact w.become_keeps _
  · exact w.become_keeps _
  · split
    · next slot _ =>
      have hmarked : w.Keeps e.recordNumber { w with
          pool := w.pool.markOk slot
          record := { w.record with candidates := (w.pool.markOk slot).rankOrder w.record.candidates } } :=
        .of_pool rfl rfl Pool.markOk_keeps (Pool.rankOrder_perm _ _)
      dsimp only
      split
      · exact hmarked.trans (Work.settle_keeps _ _ _ _ _)
      · exact hmarked.trans (Work.become_keeps _ _)
    · split
      · exact w.settle_keeps _ _ _ _
      · exact (w.addCandidate_keeps _ _ _ _).trans (Work.become_keeps _ _)

theorem Work.evaluate_keeps (e : ReadingEnv) : w.Keeps e.recordNumber (w.evaluate e) := by
  unfold Work.evaluate
  split
  · exact w.settle_keeps _ _ _ _
  · dsimp only
    split
    · exact w.become_keeps _
    · split
      · refine Keeps.trans (Keeps.trans (u := { w with
            record := { w.record with fusionArmed := false }
            pool := w.pool.setScratch e.channel (some (w.pool.fuse e.profile e.reading.volume e.reading.sector
              e.reading.data.length w.record.candidates)) })
          (.of_pool rfl rfl (Pool.setScratch_keeps _ _ _) (.refl _)) (Work.takeFusion_keeps _ e _))
          (.of_pool rfl rfl (Pool.setScratch_keeps _ _ _) (.refl _))
      · split
        · exact .refl _ w
        · exact w.become_keeps _

/-- A reading that a record counts is handled by its state; an EXCLUDED record is left as it was. -/
theorem Work.takeReading_cases (e : ReadingEnv) :
    (w.record.state = .excluded ∧ w.takeReading e = w) ∨
      (w.record.state ≠ .excluded ∧ Work.Keeps e.recordNumber { w with record := w.record.countRead e.reading } (w.takeReading e)) := by
  unfold Work.takeReading
  cases h : w.record.state with
  | excluded => exact .inl ⟨rfl, rfl⟩
  | settled => exact .inr ⟨nofun, Work.compareSettled_keeps _ e⟩
  | _ => exact .inr ⟨nofun, (Work.mergeOrForm_keeps _ e).trans (Work.evaluate_keeps _ e)⟩

theorem SectorRecord.countRead_reads_pos (r : SectorRecord) (x : Reading) : 1 ≤ (r.countRead x).reads := by
  change 1 ≤ min 65535 (r.reads + 1)
  omega

/-- A record that a reading has met is not as MOUNT set it: it is EXCLUDED, or has counted the reading. -/
theorem Work.takeReading_ne_fresh (e : ReadingEnv) : (w.takeReading e).record ≠ .fresh := by
  rcases w.takeReading_cases e with ⟨hst, hsame⟩ | ⟨-, hkeeps⟩
  · rw [hsame]
    exact fun h => by rw [h] at hst; cases hst
  · have hpos : 1 ≤ (w.takeReading e).record.reads := hkeeps.reads ▸ SectorRecord.countRead_reads_pos _ _
    intro h
    rw [h] at hpos
    exact absurd hpos (by decide)

/-- The handling of a reading writes no area of image memory but that of its record. -/
theorem Work.takeReading_area (e : ReadingEnv) {k : Nat} (hk : k ≠ e.recordNumber) :
    areaOf (w.takeReading e).image k = areaOf w.image k := by
  rcases w.takeReading_cases e with ⟨-, hsame⟩ | ⟨-, hkeeps⟩
  · rw [hsame]
  · exact hkeeps.area k hk

/-- The handling of a reading keeps the form of the memories, and the slots. -/
theorem Work.takeReading_memories (e : ReadingEnv) :
    (memoryOk w.image = true → memoryOk (w.takeReading e).image = true) ∧
    (memoryOk w.pool.memory = true → memoryOk (w.takeReading e).pool.memory = true) ∧
    (mapOk none w.pool.descriptors = true → mapOk none (w.takeReading e).pool.descriptors = true) := by
  rcases w.takeReading_cases e with ⟨-, hsame⟩ | ⟨-, hkeeps⟩
  · rw [hsame]; exact ⟨id, id, id⟩
  · exact ⟨hkeeps.image, hkeeps.memory, hkeeps.form⟩

theorem Work.takeReading_slotsOk (e : ReadingEnv) {others : Nat → Prop} (h : w.SlotsOk others) :
    (w.takeReading e).SlotsOk others := by
  rcases w.takeReading_cases e with ⟨-, hsame⟩ | ⟨-, hkeeps⟩
  · rwa [hsame]
  · exact hkeeps.slots others ⟨h.pool, h.nodup, h.held, h.others⟩

end

end Sys2Proof.Machine
end

/-! # What happens to the volumes -/

section
/-! SUPPORT. What any write of the mounted volumes comes to, moves and readings alike, and the invariants that speak of volumes:
counts in range (R132), runs apart (R89), maps in agreement (R94, R95). -/

namespace Sys2Proof.Machine

/-! ## A volume written -/

/-- What every write of a mounted volume keeps that the invariants of counts, runs and maps need, EXCLUDE and readings
included. -/
structure Volume.Written (v w : Volume) : Prop where
  name : w.uid = v.uid ∧ w.slot = v.slot
  place : w.base = v.base ∧ w.trackCount = v.trackCount ∧ w.sectors = v.sectors
  budgets : v.budgetsOk → w.budgetsOk
  maps : v.mapsOk → w.mapsOk

theorem Volume.Written.refl (v : Volume) : v.Written v := ⟨⟨rfl, rfl⟩, ⟨rfl, rfl, rfl⟩, id, id⟩

theorem Volume.Written.trans {u v w : Volume} (h : u.Written v) (k : v.Written w) : u.Written w where
  name := ⟨k.name.1.trans h.name.1, k.name.2.trans h.name.2⟩
  place := ⟨k.place.1.trans h.place.1, k.place.2.1.trans h.place.2.1, k.place.2.2.trans h.place.2.2⟩
  budgets x := k.budgets (h.budgets x)
  maps x := k.maps (h.maps x)

theorem Volume.Written.size {v w : Volume} (h : v.Written w) : w.size = v.size := by
  simp only [Volume.size, h.place.2.1, h.place.2.2]

theorem Volume.Keeps.written {v w : Volume} (h : v.Keeps w) : v.Written w := ⟨h.name, h.place, h.budgets, h.maps⟩

theorem Volume.media_keeps (v : Volume) : v.Keeps { v with mediaGone := true } :=
  ⟨⟨rfl, rfl⟩, ⟨rfl, rfl, rfl⟩, fun b => ⟨b.wear, b.passes, b.ordered⟩,
    fun m => ⟨m.form, m.summaries, m.totals, m.settledMap, m.exclusionMap⟩, id, fun _ _ => rfl, fun _ _ _ => rfl⟩

/-- A record written within the volume, or one that stays listed. -/
theorem Volume.putRecord_written {v : Volume} {i : Nat} {r : SectorRecord} (hi : i < v.size ∨ r ≠ .fresh) :
    v.Written (v.putRecord i r) :=
  ⟨⟨rfl, rfl⟩, ⟨rfl, rfl, rfl⟩, Volume.budgetsOk_of_same ⟨rfl, rfl, rfl, rfl, rfl⟩, fun h => Volume.mapsOk_putRecord h hi⟩

theorem Volume.serial_written (v : Volume) (n : Nat) : v.Written { v with serial := n } :=
  ⟨⟨rfl, rfl⟩, ⟨rfl, rfl, rfl⟩, fun b => ⟨b.wear, b.passes, b.ordered⟩,
    fun m => ⟨m.form, m.summaries, m.totals, m.settledMap, m.exclusionMap⟩⟩

/-! ### EXCLUDE (R108) -/

/-- EXCLUDE changes a record, which is then not SETTLED, or leaves it, and skips the SETTLED ones. -/
theorem Excluding.apply_cases (op : ExcludeOp) (a : Excluding) (i : Nat) :
    (∃ n, a.apply op i = { a with skipped := n }) ∨
      ((a.volume.record i).state ≠ .settled ∧ ∃ st, st ≠ .settled ∧ a.apply op i = a.change i st) := by
  have hcleared : a.cleared i ≠ .settled := by unfold Excluding.cleared; split <;> nofun
  unfold Excluding.apply
  cases hst : (a.volume.record i).state with
  | settled => exact .inl ⟨_, rfl⟩
  | excluded =>
    cases op with
    | set => exact .inl ⟨a.skipped, rfl⟩
    | _ => exact .inr ⟨nofun, _, hcleared, rfl⟩
  | _ =>
    cases op with
    | clear => exact .inl ⟨a.skipped, rfl⟩
    | _ => exact .inr ⟨nofun, .excluded, nofun, rfl⟩

/-- What EXCLUDE keeps on every index of its range, it keeps. -/
theorem excludeRange_keeps {P : Excluding → Prop} {op : ExcludeOp} {v : Volume} {p : Pool} {first taken : Nat}
    (h0 : P { volume := v, pool := p, changed := 0, skipped := 0 })
    (hstep : ∀ a i, first ≤ i → i < first + taken → P a → P (a.apply op i)) : P (excludeRange op v p first taken) := by
  refine List.foldlRecOn _ _ h0 fun a ha i hi => ?_
  obtain ⟨k, hk, rfl⟩ := List.mem_map.mp hi
  exact hstep a _ (Nat.le_add_right ..) (Nat.add_lt_add_left (List.mem_range.mp hk) _) ha

theorem excludeRange_written {op : ExcludeOp} {v : Volume} {p : Pool} {first taken : Nat} (h : first + taken ≤ v.size) :
    v.Written (excludeRange op v p first taken).volume := by
  refine excludeRange_keeps (P := fun a => v.Written a.volume) (.refl v) fun a i _ hi ha => ?_
  rcases a.apply_cases op i with ⟨n, heq⟩ | ⟨-, st, -, heq⟩
  · rw [heq]; exact ha
  · rw [heq]; exact ha.trans (Volume.putRecord_written (.inl (ha.size.symm ▸ hi.trans_le h)))

/-! ## What happens to the volumes -/

/-- The four mounted volumes after a move or a reading: as they were, or one of them written, created or released. -/
inductive VolumesMove (s t : State) : Prop
  | same (h : t.volumes = s.volumes)
  | written (ch : Chan) (v w : Volume) (hv : s.volume ch = some v) (hw : v.Written w)
      (h : t.volumes = qset s.volumes ch (some w))
  | mounted (ch : Chan) (m : MountRequest) (p : Profile) (base : Nat) (hheld : (s.slot m.slot).held = some p)
      (hbase : firstFit s.runs (trackCountOf p * p.sectors) = some base)
      (h : t.volumes = qset s.volumes ch (some (Volume.atMount s.nextVolume base m p)))
  | released (ch : Chan) (h : t.volumes = qset s.volumes ch none)

theorem State.releaseVolume_volumes (s : State) (ch : Chan) : (s.releaseVolume ch).volumes = qset s.volumes ch none := by
  unfold State.releaseVolume
  split
  · next h => exact (show qset s.volumes ch (s.volume ch) = s.volumes from qset_qget _ _) |>.symm.trans (by rw [h])
  · rfl

theorem Move.volumes {s t : State} (h : Move s t) : VolumesMove s t := by
  cases h with
  | volume hv hw => exact .written _ _ _ hv hw.written rfl
  | media hv => exact .written _ _ _ hv (Volume.media_keeps _).written rfl
  | mount _ _ _ hheld hbase => exact .mounted _ _ _ _ hheld hbase rfl
  | unmount ch => exact .released ch (s.releaseVolume_volumes ch)
  | exclude hv op h => exact .written _ _ _ hv (excludeRange_written h) rfl
  | _ => exact .same rfl

/-- A reading for the mounted volume, and what its handling works on. -/
def State.readingEnv (s : State) (ch : Chan) (v : Volume) (x : Reading) : ReadingEnv :=
  { channel := ch, profile := s.chanProfile ch, serial := satAdd Config.serialMax v.serial 1
    recordNumber := v.base + x.sector, reading := x }

/-- What a reading taken makes of the record, the pool and image memory. -/
def State.readingWork (s : State) (ch : Chan) (v : Volume) (x : Reading) : Work :=
  Work.takeReading { record := v.record x.sector, pool := s.pool, image := s.image } (s.readingEnv ch v x)

/-- The volume after a reading: its serial raised, the record of the reading written. -/
def Volume.withReading (v : Volume) (i : Nat) (r : SectorRecord) : Volume :=
  Volume.putRecord { v with serial := satAdd Config.serialMax v.serial 1 } i r

theorem Volume.withReading_records_ok {v : Volume} (h : mapOk .fresh v.records = true) (i : Nat) (r : SectorRecord) :
    mapOk .fresh (v.withReading i r).records = true := mapOk_mapSet h _ _

theorem Volume.record_withReading_same {v : Volume} (h : mapOk .fresh v.records = true) (i : Nat) (r : SectorRecord) :
    (v.withReading i r).record i = r := mapGet_mapSet_same h _ _

theorem Volume.record_withReading_ne {v : Volume} {i j : Nat} (h : j ≠ i) (r : SectorRecord) :
    (v.withReading i r).record j = v.record j := mapGet_mapSet_ne _ h

theorem Volume.withReading_written {v : Volume} (i : Nat) {r : SectorRecord} (h : r ≠ .fresh) :
    v.Written (v.withReading i r) := (v.serial_written _).trans (Volume.putRecord_written (.inr h))

/-- A reading is discarded, or taken for the volume it names: its record is written with what the handling makes of it. -/
theorem State.takeReading_cases (s : State) (ch : Chan) (x : Reading) :
    s.takeReading ch x = s ∨ ∃ v, s.volume ch = some v ∧ v.uid = x.volume ∧
      s.takeReading ch x =
        ((s.setVolume ch (some (v.withReading x.sector (s.readingWork ch v x).record))).setPool
          (s.readingWork ch v x).pool).setImage (s.readingWork ch v x).image := by
  unfold State.takeReading
  split
  · exact .inl rfl
  · next v hv =>
    split
    · exact .inl rfl
    · next huid => exact .inr ⟨v, hv, Decidable.not_not.mp huid, rfl⟩

theorem State.takeReading_volumes (s : State) (ch : Chan) (x : Reading) : VolumesMove s (s.takeReading ch x) := by
  rcases s.takeReading_cases ch x with h | ⟨v, hv, -, h⟩
  · rw [h]; exact .same rfl
  · rw [h]
    exact .written ch v _ hv (Volume.withReading_written _ (Work.takeReading_ne_fresh _ _)) rfl

/-- What a volume mounted afterwards was before. -/
theorem VolumesMove.volume_cases {s t : State} (h : VolumesMove s t) {k : Chan} {w : Volume} (hw : t.volume k = some w) :
    (∃ v, s.volume k = some v ∧ v.Written w) ∨
      ∃ m p base, (s.slot m.slot).held = some p ∧ firstFit s.runs (trackCountOf p * p.sectors) = some base ∧
        w = Volume.atMount s.nextVolume base m p ∧ ∀ j, j ≠ k → t.volume j = s.volume j := by
  unfold State.volume at hw
  cases h with
  | same h =>
    rw [h] at hw
    exact .inl ⟨w, hw, .refl w⟩
  | written ch v w' hv hw' h =>
    rw [h] at hw
    by_cases hk : k = ch
    · subst hk
      rw [qget_qset_same] at hw
      obtain rfl := Option.some.inj hw
      exact .inl ⟨v, hv, hw'⟩
    · rw [qget_qset_ne _ _ _ _ hk] at hw
      exact .inl ⟨w, hw, .refl w⟩
  | mounted ch m p base hheld hbase h =>
    rw [h] at hw
    by_cases hk : k = ch
    · subst hk
      rw [qget_qset_same] at hw
      refine .inr ⟨m, p, base, hheld, hbase, (Option.some.inj hw).symm, fun j hj => ?_⟩
      unfold State.volume
      rw [h, qget_qset_ne _ _ _ _ hj]
    · rw [qget_qset_ne _ _ _ _ hk] at hw
      exact .inl ⟨w, hw, .refl w⟩
  | released ch h =>
    rw [h] at hw
    by_cases hk : k = ch
    · subst hk
      rw [qget_qset_same] at hw
      cases hw
    · rw [qget_qset_ne _ _ _ _ hk] at hw
      exact .inl ⟨w, hw, .refl w⟩

@[simp] theorem State.restarted_volume (s : State) (env : Environment) (banks : Quad Bool) (carried : Bool)
    (memory : SMap Area) (ch : Chan) : (s.restarted env banks carried memory).volume ch = none := by
  match ch with
  | 0 | 1 | 2 | 3 => rfl

@[simp] theorem State.restarted_slot (s : State) (env : Environment) (banks : Quad Bool) (carried : Bool)
    (memory : SMap Area) (n : Nat) : (s.restarted env banks carried memory).slot n = .empty := by
  change (List.replicate 8 ProfileSlot.empty).getD n .empty = .empty
  simp only [List.getD_eq_getElem?_getD, List.getElem?_replicate]
  split <;> rfl

/-! ## The profile slots -/

theorem State.slot_raiseUse (s : State) (n k : Nat) :
    ((s.raiseUse n).slot k).held = (s.slot k).held := by
  unfold State.slot State.raiseUse State.setSlots
  by_cases hk : k = n
  · subst hk
    by_cases hlen : k < s.slots.length
    · simp only [getD_modifyAt_same _ _ _ hlen]
    · simp only [getD_modifyAt_beyond _ _ _ (Nat.not_lt.mp hlen)]
  · simp only [getD_modifyAt_ne _ _ _ hk]

theorem State.slot_lowerUse (s : State) (n k : Nat) :
    ((s.lowerUse n).slot k).held = (s.slot k).held := by
  unfold State.slot State.lowerUse State.setSlots
  by_cases hk : k = n
  · subst hk
    by_cases hlen : k < s.slots.length
    · simp only [getD_modifyAt_same _ _ _ hlen]
    · simp only [getD_modifyAt_beyond _ _ _ (Nat.not_lt.mp hlen)]
  · simp only [getD_modifyAt_ne _ _ _ hk]

theorem State.slot_releaseVolume (s : State) (ch : Chan) (k : Nat) :
    ((s.releaseVolume ch).slot k).held = (s.slot k).held := by
  unfold State.releaseVolume
  split
  · rfl
  · exact State.slot_lowerUse _ _ _

/-- A move keeps what a slot holds, or writes it with a profile that validation passed, or with none. -/
theorem Move.held_cases {s t : State} (h : Move s t) (k : Nat) {p : Profile} (hp : (t.slot k).held = some p) :
    (s.slot k).held = some p ∨ (p.trackPassBudget ≤ 255 ∧ p.wearBudget ≤ 65535 ∧ 1 ≤ p.sectors) := by
  cases h with
  | load hn huse hheld =>
    rename_i n held
    change ((s.slots.set n { held := held, useCount := 0 }).getD k .empty).held = some p at hp
    by_cases hk : n = k
    · subst hk
      by_cases hlen : n < s.slots.length
      · rw [List.getD_eq_getElem?_getD, List.getElem?_set_self hlen] at hp
        exact .inr (hheld p hp)
      · rw [List.set_eq_of_length_le (Nat.not_lt.mp hlen)] at hp
        exact .inl hp
    · rw [List.getD_eq_getElem?_getD, List.getElem?_set_ne hk, ← List.getD_eq_getElem?_getD] at hp
      exact .inl hp
  | mount => exact .inl ((State.slot_raiseUse _ _ k).symm.trans hp)
  | unmount ch => exact .inl ((s.slot_releaseVolume ch k).symm.trans hp)
  | _ => exact .inl hp

/-! ## Counts in range (R24, R129, R132, R147, R159) -/

theorem Volume.atMount_budgetsOk {uid base : Nat} {m : MountRequest} {p : Profile}
    (h : p.trackPassBudget ≤ 255 ∧ p.wearBudget ≤ 65535) : (Volume.atMount uid base m p).budgetsOk where
  wear := ⟨Nat.zero_le _, h.2⟩
  passes := ⟨fun _ he => (List.eq_of_mem_replicate he).symm ▸ Nat.zero_le _, h.1⟩
  ordered _ ht := nomatch ht

theorem VolumesMove.budgets {s t : State} (h : VolumesMove s t) (hs : s.rangesOk) (k : Chan) (w : Volume)
    (hw : t.volume k = some w) : w.budgetsOk := by
  rcases h.volume_cases hw with ⟨v, hv, hkeeps⟩ | ⟨m, p, base, hheld, -, rfl, -⟩
  · exact hkeeps.budgets (hs.volumes k v hv)
  · exact Volume.atMount_budgetsOk (hs.profiles _ p hheld)

theorem Move.fetches_length {s t : State} (h : Move s t) (hs : s.fetches.length ≤ 4) : t.fetches.length ≤ 4 := by
  cases h with
  | fetches hl => exact hl.elim (·.trans hs) id
  | unmount ch => exact s.releaseVolume_fetches ch ▸ hs
  | _ => exact hs

theorem Move.linkErrors {s t : State} (h : Move s t) (hs : s.link.linkErrors ≤ 65535) : t.link.linkErrors ≤ 65535 := by
  cases h with
  | link hl => exact hl.errors hs
  | unmount ch => exact s.releaseVolume_link ch ▸ hs
  | _ => exact hs

theorem Move.ranges {s t : State} (h : Move s t) (hs : s.rangesOk) : t.rangesOk where
  part := ⟨h.fetches_length hs.part.1, h.linkErrors hs.part.2⟩
  channels k := by
    rcases h.channel_cases k with hk | ⟨c, hk, hc | ⟨m, rfl⟩⟩
    · rw [hk]; exact hs.channels k
    · rw [hk]; exact ⟨hc.faults (hs.channels k).1, hc.hold (hs.channels k).2⟩
    · rw [hk]; exact hs.channels k
  volumes := h.volumes.budgets hs
  profiles k p hp := (h.held_cases k hp).elim (hs.profiles k p) fun hb => ⟨hb.1, hb.2.1⟩

theorem State.takeReading_ranges {s : State} (ch : Chan) (x : Reading) (hs : s.rangesOk) : (s.takeReading ch x).rangesOk where
  part := by rw [State.takeReading_fetches, State.takeReading_link]; exact hs.part
  channels k := by rw [State.takeReading_channel]; exact hs.channels k
  volumes := (s.takeReading_volumes ch x).budgets hs
  profiles k p := by rw [State.takeReading_slot]; exact hs.profiles k p

/-- Settles O8: link and fetches, channels, volumes and profiles, each by what a move does to them; a track beyond the plan has
used no pass. -/
theorem countsStayInRange : Obligations.CountsStayInRange := by
  refine ⟨fun s t => step_keeps (P := State.rangesOk) (fun _ _ h => ⟨h.part, h.channels, h.volumes, h.profiles⟩) ?_
    (fun s ch x => State.takeReading_ranges ch x) fun _ _ => Move.ranges, fun s hs ch v hv => ?_⟩
  · intro s env banks carried memory _ _
    refine ⟨⟨Nat.zero_le _, Nat.zero_le _⟩, fun ch => ?_, fun ch v hv => ?_, fun n p hp => ?_⟩
    · rw [State.restarted_channel]; exact ⟨Nat.zero_le _, nofun⟩
    · rw [State.restarted_volume] at hv; cases hv
    · rw [State.restarted_slot] at hp; cases hp
  · have hbudgets := hs.volumes ch v hv
    refine ⟨hbudgets.wear.1, fun k => ?_⟩
    unfold Volume.plan
    rw [List.getD_eq_getElem?_getD]
    rcases hk : v.planner.tracks[k]? with _ | e
    · exact Nat.zero_le _
    · exact hbudgets.passes.1 e (List.mem_of_getElem? hk)

/-! ## Runs apart, maps in agreement (R89, R94, R95) -/

theorem State.run_mem {s : State} {k : Chan} {v : Volume} (h : s.volume k = some v) : (v.base, v.size) ∈ s.runs := by
  refine List.mem_filterMap.mpr ⟨s.volume k, ?_, by rw [h]; rfl⟩
  match k with
  | 0 | 1 | 2 | 3 => simp [State.volume, qget, qlist]

theorem VolumesMove.runs {s t : State} (h : VolumesMove s t) (hs : s.runsOk) : t.runsOk := by
  obtain ⟨hstore, hapart⟩ := hs
  refine ⟨fun ch w hw => ?_, fun ch k v w hne hv hw => ?_⟩
  · rcases h.volume_cases hw with ⟨v, hv, hkeeps⟩ | ⟨m, p, base, -, hbase, rfl, -⟩
    · rw [hkeeps.place.1, hkeeps.size]; exact hstore ch v hv
    · exact (runFree_iff.mp (firstFit_eq_some hbase).1).1
  · have hmounted : ∀ {ch k : Chan} {v w : Volume}, ch ≠ k → t.volume ch = some v → t.volume k = some w →
        (∃ m p base, firstFit s.runs (trackCountOf p * p.sectors) = some base ∧
          v = Volume.atMount s.nextVolume base m p ∧ ∀ j, j ≠ ch → t.volume j = s.volume j) →
        v.base + v.size ≤ w.base ∨ w.base + w.size ≤ v.base := by
      rintro ch k v w hne - hw ⟨m, p, base, hbase, rfl, hothers⟩
      exact (runFree_iff.mp (firstFit_eq_some hbase).1).2 _ (State.run_mem (hothers k hne.symm ▸ hw))
    rcases h.volume_cases hv with ⟨v', hv', hkv⟩ | ⟨m, p, base, -, hbase, hmv, ho⟩
    · rcases h.volume_cases hw with ⟨w', hw', hkw⟩ | ⟨m, p, base, -, hbase, hmw, ho⟩
      · rw [hkv.place.1, hkw.place.1, hkv.size, hkw.size]; exact hapart ch k v' w' hne hv' hw'
      · exact (hmounted hne.symm hw hv ⟨m, p, base, hbase, hmw, ho⟩).symm
    · exact hmounted hne hv hw ⟨m, p, base, hbase, hmv, ho⟩

/-- No record of a volume just mounted is listed, and every one is open. -/
theorem Volume.atMount_mapsOk {uid base : Nat} {m : MountRequest} {p : Profile} (h : 1 ≤ p.sectors) :
    (Volume.atMount uid base m p).mapsOk := by
  have hfresh (n : Nat) (f : Nat → Nat) : Counts.tell { opn := n, settled := 0, lost := 0, excluded := 0 }
      ((List.range n).map fun k => ((Volume.atMount uid base m p).record (f k)).state) := by
    have hrecord (i : Nat) : ((Volume.atMount uid base m p).record i).state = .unseen := rfl
    simp [Counts.tell, hrecord, List.countP_replicate]
  refine ⟨⟨rfl, h, List.length_replicate⟩, fun t ht => ?_, fun _ => hfresh _ id, fun i => ?_, fun i => ?_⟩
  · have hsummary : (Volume.atMount uid base m p).summary t =
        { opn := p.sectors, settled := 0, lost := 0, excluded := 0 } := by
      change t < trackCountOf p at ht
      change (List.replicate (trackCountOf p) _).getD t _ = _
      rw [List.getD_eq_getElem?_getD, List.getElem?_replicate, if_pos ht]
      rfl
    rw [hsummary]
    exact hfresh p.sectors (fun k => t * p.sectors + k)
  · exact ⟨nofun, nofun⟩
  · exact ⟨nofun, nofun⟩

theorem VolumesMove.maps {s t : State} (h : VolumesMove s t) (hs : s.mapsOk) (k : Chan) (w : Volume)
    (hw : t.volume k = some w) : w.mapsOk := by
  rcases h.volume_cases hw with ⟨v, hv, hkeeps⟩ | ⟨m, p, base, hheld, -, rfl, -⟩
  · exact hkeeps.maps (hs.2 k v hv)
  · exact Volume.atMount_mapsOk (hs.1 _ p hheld)

/-- Settles O10: a volume is mounted where its run is free; every other write of a volume keeps its place, and moves its records
between the classes of counts and maps. -/
theorem runsKeptApart : Obligations.RunsKeptApart := by
  refine ⟨fun s t => step_keeps (P := State.runsOk) (fun _ _ h => h) ?_
    (fun s ch x => (s.takeReading_volumes ch x).runs) fun _ _ h => h.volumes.runs,
    fun s t => step_keeps (P := State.mapsOk) (fun _ _ h => h) ?_ (fun s ch x h => ⟨?_, (s.takeReading_volumes ch x).maps h⟩)
      fun _ _ h hs => ⟨fun n p hp => (h.held_cases n hp).elim (hs.1 n p) (·.2.2), h.volumes.maps hs⟩⟩
  · intro s env banks carried memory _ _
    simp [State.runsOk]
  · intro s env banks carried memory _ _
    simp [State.mapsOk, ProfileSlot.empty]
  · intro n p
    rw [State.takeReading_slot]
    exact h.1 n p

end Sys2Proof.Machine
end

/-! # Use counts and candidate slots -/

section
/-! SUPPORT. The users of a profile slot (R11, R12), and who holds the slots of candidate memory (R116). -/

namespace Sys2Proof.Machine

/-! ## The users of a profile slot -/

/-- Whether a volume, where there is one, uses a slot. -/
def usesSlot (n : Nat) (v : Option Volume) : Bool := decide (v.map (·.slot) = some n)

theorem usesSlot_some {n : Nat} {v : Volume} : usesSlot n (some v) = true ↔ v.slot = n := by simp [usesSlot]

/-- Four, one of them replaced, counted. -/
theorem countP_qset {α : Type} (P : α → Bool) (q : Quad α) (i : Chan) (x : α) :
    (qlist (qset q i x)).countP P + (P (qget q i)).toNat = (qlist q).countP P + (P x).toNat := by
  have hcons : ∀ y : α, ∀ l : List α, (y :: l).countP P = l.countP P + (P y).toNat := fun y l => by
    cases h : P y <;> simp [h]
  match i with
  | 0 | 1 | 2 | 3 => simp only [qlist, qset, qget, hcons]; omega

theorem State.usersOf_eq (s : State) (n : Nat) : s.usersOf n = (qlist s.volumes).countP (usesSlot n) := rfl

/-- A volume replaced on a channel: the slot it used loses a user, the slot the new one uses gains one. -/
theorem State.usersOf_qset {s t : State} {ch : Chan} {v : Option Volume} (h : t.volumes = qset s.volumes ch v) (n : Nat) :
    t.usersOf n + (usesSlot n (s.volume ch)).toNat = s.usersOf n + (usesSlot n v).toNat := by
  rw [State.usersOf_eq, State.usersOf_eq, h]
  exact countP_qset _ _ _ _

theorem State.usersOf_eq_zero_iff {s : State} {n : Nat} :
    s.usersOf n = 0 ↔ ∀ ch v, s.volume ch = some v → v.slot ≠ n := by
  rw [State.usersOf_eq, List.countP_eq_zero]
  constructor
  · intro h ch v hv hslot
    refine h (s.volume ch) ?_ (hv ▸ usesSlot_some.mpr hslot)
    match ch with
    | 0 | 1 | 2 | 3 => simp [State.volume, qget, qlist]
  · rintro h v hv huse
    obtain ⟨ch, rfl⟩ : ∃ ch, s.volume ch = v := by
      simp only [qlist, List.mem_cons, List.not_mem_nil, or_false] at hv
      rcases hv with rfl | rfl | rfl | rfl
      exacts [⟨0, rfl⟩, ⟨1, rfl⟩, ⟨2, rfl⟩, ⟨3, rfl⟩]
    rcases hv' : s.volume ch with _ | w
    · rw [hv'] at huse; cases huse
    · exact h ch w hv' (usesSlot_some.mp (hv' ▸ huse))

/-! ## Use counts (R11, R12) -/

/-- The volumes written, with the slot each uses: every use count is as before. -/
theorem State.useCountsOk_of_written {s t : State} {ch : Chan} {v w : Volume} (hv : s.volume ch = some v)
    (hslot : w.slot = v.slot) (hvol : t.volumes = qset s.volumes ch (some w)) (hslots : t.slots = s.slots)
    (hprobe : ∀ k, t.channel k = s.channel k) (hs : s.useCountsOk) : t.useCountsOk := by
  obtain ⟨hlen, hcounts, hheld, hprobes⟩ := hs
  have hslotAt (n : Nat) : t.slot n = s.slot n := congrArg (fun l : List ProfileSlot => l.getD n .empty) hslots
  have hvolume (k : Chan) : t.volume k = if k = ch then some w else s.volume k := by
    unfold State.volume
    rw [hvol]
    split
    · next hk => rw [hk, qget_qset_same]
    · next hk => exact qget_qset_ne _ _ _ _ hk
  refine ⟨hslots ▸ hlen, fun n hn => ?_, fun k u hu => ?_, fun k hk => ?_⟩
  · have husers := State.usersOf_qset hvol n
    have hsame : usesSlot n (some w) = usesSlot n (s.volume ch) := by simp [usesSlot, hv, hslot]
    rw [hslotAt, hcounts n hn]
    rw [hsame] at husers
    omega
  · rw [hslotAt]
    rw [hvolume] at hu
    split at hu
    · obtain rfl := Option.some.inj hu
      exact hslot ▸ hheld ch v hv
    · exact hheld k u hu
  · have hnone := hprobes k (hprobe k ▸ hk)
    rw [hvolume, if_neg fun he => by rw [he, hv] at hnone; cases hnone]
    exact hnone

theorem State.slot_set (s : State) {n : Nat} (q : ProfileSlot) (hn : n < s.slots.length) (k : Nat) :
    (s.setSlots (s.slots.set n q)).slot k = if k = n then q else s.slot k := by
  change (s.slots.set n q).getD k .empty = _
  split
  · next hk => rw [hk, List.getD_eq_getElem?_getD, List.getElem?_set_self hn]; rfl
  · next hk => rw [List.getD_eq_getElem?_getD, List.getElem?_set_ne (Ne.symm hk), ← List.getD_eq_getElem?_getD]; rfl

theorem State.useCount_raiseUse (s : State) {n : Nat} (hn : n < s.slots.length) (k : Nat) :
    ((s.raiseUse n).slot k).useCount = (s.slot k).useCount + if k = n then 1 else 0 := by
  change ((modifyAt _ s.slots n).getD k .empty).useCount = _
  split
  · next hk => rw [hk, getD_modifyAt_same _ _ _ hn]; rfl
  · next hk => rw [getD_modifyAt_ne _ _ _ hk]; rfl

theorem State.useCount_lowerUse (s : State) {n : Nat} (hn : n < s.slots.length) (k : Nat) :
    ((s.lowerUse n).slot k).useCount = (s.slot k).useCount - if k = n then 1 else 0 := by
  change ((modifyAt _ s.slots n).getD k .empty).useCount = _
  split
  · next hk => rw [hk, getD_modifyAt_same _ _ _ hn]; rfl
  · next hk => rw [getD_modifyAt_ne _ _ _ hk]; rfl

/-- A slot that holds a profile is one of the eight. -/
theorem State.lt_length_of_held {s : State} {n : Nat} (h : (s.slot n).held.isSome = true) : n < s.slots.length := by
  by_contra hn
  rw [State.slot, List.getD_eq_default _ _ (Nat.not_lt.mp hn)] at h
  cases h

/-- A slot with no user written (R11). -/
theorem State.load_useCounts {s : State} {n : Nat} {held : Option Profile} (hn : n < 8) (huse : (s.slot n).useCount = 0)
    (hs : s.useCountsOk) : (s.setSlots (s.slots.set n { held := held, useCount := 0 })).useCountsOk := by
  obtain ⟨hlen, hcounts, hheld, hprobes⟩ := hs
  have hslot := s.slot_set { held := held, useCount := 0 } (hlen.symm ▸ hn : n < s.slots.length)
  have hunused : ∀ ch v, s.volume ch = some v → v.slot ≠ n :=
    State.usersOf_eq_zero_iff.mp (by rw [← hcounts n hn, huse])
  refine ⟨(List.length_set ..).trans hlen, fun k hk => ?_, fun ch v hv => ?_, hprobes⟩
  · rw [hslot]
    split
    · next hkn => rw [hkn]; exact huse.symm.trans (hcounts n hn)
    · exact hcounts k hk
  · rw [hslot, if_neg (hunused ch v hv)]
    exact hheld ch v hv

/-- A volume mounted (R106, R11). -/
theorem State.mount_useCounts {s : State} {ch : Chan} {c : Channel} {m : MountRequest} {p : Profile} {base : Nat}
    (hfree : s.volume ch = none ∨ (s.channel ch).probe.isSome = true) (hprobe : c.probe = none)
    (hheld : (s.slot m.slot).held = some p) (hs : s.useCountsOk) :
    ((({ s with nextVolume := s.nextVolume + 1 }.setVolume ch (some (Volume.atMount s.nextVolume base m p))).raiseUse
      m.slot).putChannel ch c).useCountsOk := by
  obtain ⟨hlen, hcounts, hall, hprobes⟩ := hs
  have hnone : s.volume ch = none := hfree.elim id (hprobes ch)
  have hslot : m.slot < s.slots.length := State.lt_length_of_held (hheld ▸ rfl)
  refine ⟨(length_modifyAt ..).trans hlen, fun n hn => ?_, fun k v hv => ?_, fun k hk => ?_⟩
  · have husers := State.usersOf_qset (s := s)
      (t := ((({ s with nextVolume := s.nextVolume + 1 }.setVolume ch (some (Volume.atMount s.nextVolume base m p))).raiseUse
        m.slot).putChannel ch c)) (ch := ch) rfl n
    have hcount := State.useCount_raiseUse
      ({ s with nextVolume := s.nextVolume + 1 }.setVolume ch (some (Volume.atMount s.nextVolume base m p))) hslot n
    change _ = (s.slot n).useCount + _ at hcount
    rw [hnone] at husers
    change _ + Bool.toNat false = _ at husers
    have huses : (usesSlot n (some (Volume.atMount s.nextVolume base m p))).toNat = if n = m.slot then 1 else 0 := by
      by_cases hnm : n = m.slot
      · rw [if_pos hnm, usesSlot_some.mpr hnm.symm]; rfl
      · rw [if_neg hnm, Bool.eq_false_iff.mpr fun h => hnm (usesSlot_some.mp h).symm]; rfl
    have hold := hcounts n hn
    change (((_ : State).raiseUse m.slot).slot n).useCount = _
    rw [hcount]
    rw [huses] at husers
    simp only [Bool.toNat_false] at husers
    omega
  · change ((((_ : State).raiseUse m.slot)).slot v.slot).held.isSome = true
    rw [State.slot_raiseUse]
    change (s.slot v.slot).held.isSome = true
    rw [State.putChannel_volume] at hv
    change (({ s with nextVolume := s.nextVolume + 1 } : State).setVolume ch _).volume k = some v at hv
    rw [State.volume_setVolume] at hv
    split at hv
    · obtain rfl := Option.some.inj hv
      exact hheld ▸ rfl
    · exact hall k v hv
  · rw [State.channel_putChannel] at hk
    split at hk
    · exact absurd hk (by change ¬ c.probe.isSome = true; simp [hprobe])
    · next hne =>
      rw [State.putChannel_volume]
      change (({ s with nextVolume := s.nextVolume + 1 } : State).setVolume ch _).volume k = none
      rw [State.volume_setVolume, if_neg hne]
      exact hprobes k hk

/-- A volume released (R107). -/
theorem State.release_useCounts {s : State} (ch : Chan) (hs : s.useCountsOk) : (s.releaseVolume ch).useCountsOk := by
  rcases hv : s.volume ch with _ | v
  · have hsame : s.releaseVolume ch = s := by simp only [State.releaseVolume, hv]
    rw [hsame]; exact hs
  · have heq : s.releaseVolume ch = ((s.setPool (s.pool.giveBackAll v.heldSlots)).setVolume ch none).lowerUse v.slot := by
      simp only [State.releaseVolume, hv]
    obtain ⟨hlen, hcounts, hall, hprobes⟩ := hs
    have hslot : v.slot < s.slots.length := State.lt_length_of_held (hall ch v hv)
    refine ⟨by rw [heq]; exact (length_modifyAt ..).trans hlen, fun n hn => ?_, fun k w hw => ?_, fun k hk => ?_⟩
    · have husers := State.usersOf_qset (s.releaseVolume_volumes ch) n
      have hcount := State.useCount_lowerUse
        ((s.setPool (s.pool.giveBackAll v.heldSlots)).setVolume ch none) hslot n
      change _ = (s.slot n).useCount - _ at hcount
      rw [← heq] at hcount
      have huses : (usesSlot n (s.volume ch)).toNat = if n = v.slot then 1 else 0 := by
        rw [hv]
        by_cases hnv : n = v.slot
        · rw [if_pos hnv, usesSlot_some.mpr hnv.symm]; rfl
        · rw [if_neg hnv, Bool.eq_false_iff.mpr fun h => hnv (usesSlot_some.mp h).symm]; rfl
      have hold := hcounts n hn
      change _ + _ = _ + Bool.toNat false at husers
      rw [huses] at husers
      simp only [Bool.toNat_false] at husers
      omega
    · rw [State.slot_releaseVolume]
      rw [State.releaseVolume_volume] at hw
      split at hw
      · cases hw
      · exact hall k w hw
    · rw [State.releaseVolume_volume]
      split
      · rfl
      · exact hprobes k (by rwa [State.releaseVolume_channel] at hk)

theorem Move.useCounts {s t : State} (h : Move s t) (hs : s.useCountsOk) : t.useCountsOk := by
  cases h with
  | channel hc =>
    refine ⟨hs.1, hs.2.1, hs.2.2.1, fun k hk => ?_⟩
    rw [State.channel_putChannel] at hk
    split at hk
    · next hne => exact hs.2.2.2 k (hne ▸ hc.probe hk)
    · exact hs.2.2.2 k hk
  | probe m hnone =>
    refine ⟨hs.1, hs.2.1, hs.2.2.1, fun k hk => ?_⟩
    rw [State.channel_putChannel] at hk
    split at hk
    · next hne => exact hne ▸ hnone
    · exact hs.2.2.2 k hk
  | volume hv hw => exact State.useCountsOk_of_written hv hw.name.2 rfl rfl (fun _ => rfl) hs
  | media hv => exact State.useCountsOk_of_written hv (Volume.media_keeps _).name.2 rfl rfl (fun _ => rfl) hs
  | load hn huse _ => exact State.load_useCounts hn huse hs
  | mount hfree _ hprobe hheld _ => exact State.mount_useCounts hfree hprobe hheld hs
  | unmount ch => exact State.release_useCounts ch hs
  | exclude hv op h => exact State.useCountsOk_of_written hv (excludeRange_written h).name.2 rfl rfl (fun _ => rfl) hs
  | _ => exact hs

theorem State.takeReading_useCounts {s : State} (ch : Chan) (x : Reading) (hs : s.useCountsOk) :
    (s.takeReading ch x).useCountsOk := by
  rcases s.takeReading_cases ch x with h | ⟨v, hv, -, h⟩
  · rwa [h]
  · rw [h]
    exact State.useCountsOk_of_written (w := v.withReading x.sector (s.readingWork ch v x).record) hv rfl rfl rfl (fun _ => rfl) hs

/-! ## Who holds the slots (R116) -/

theorem State.slotsOk.poolOk {s : State} (h : s.slotsOk) : s.pool.SlotsOk := ⟨h.ascending, h.form, h.usable, h.apart⟩

/-- The slots that a record other than record `i` of the volume on channel `ch` references. -/
def State.otherSlots (s : State) (ch : Chan) (i k : Nat) : Prop :=
  ∃ ch' w j, s.volume ch' = some w ∧ k ∈ (w.record j).candidates ∧ ¬ (ch' = ch ∧ j = i)

theorem State.slotsOk.work {s : State} (h : s.slotsOk) {ch : Chan} {v : Volume} (hv : s.volume ch = some v) (i : Nat)
    (image : SMap Area) : Work.SlotsOk (s.otherSlots ch i) { record := v.record i, pool := s.pool, image := image } := by
  obtain ⟨-, hrecord⟩ := h.records ch v hv
  refine ⟨h.poolOk, (hrecord i).1, (hrecord i).2, ?_⟩
  rintro k ⟨ch', w, j, hw, hk, hne⟩
  refine ⟨((h.records ch' w hw).2 j).2 k hk, fun hk' => hne ?_⟩
  obtain ⟨hch, hij⟩ := h.once ch ch' v w i j k hv hw hk' hk
  exact ⟨hch.symm, hij.symm⟩

/-- One record of one volume written, with the pool: the slots are in order where they are in order for that record. -/
theorem State.slotsOk.write {s t : State} (h : s.slotsOk) {ch : Chan} {v : Volume} (hv : s.volume ch = some v) {i : Nat}
    {w : Volume} {image : SMap Area} (hform : mapOk .fresh w.records = true)
    (hother : ∀ j, j ≠ i → w.record j = v.record j)
    (hwork : Work.SlotsOk (s.otherSlots ch i) { record := w.record i, pool := t.pool, image := image })
    (ht : t.volumes = qset s.volumes ch (some w)) : t.slotsOk := by
  have hvolume (k : Chan) : t.volume k = if k = ch then some w else s.volume k := by
    unfold State.volume
    rw [ht]
    split
    · next hk => rw [hk, qget_qset_same]
    · next hk => exact qget_qset_ne _ _ _ _ hk
  -- every record is the one written, or one of before, whose slots are then others
  have hbefore : ∀ {k : Chan} {u : Volume} {j n : Nat}, t.volume k = some u → n ∈ (u.record j).candidates →
      (k = ch ∧ j = i ∧ u = w) ∨
        (¬ (k = ch ∧ j = i) ∧ ∃ u', s.volume k = some u' ∧ n ∈ (u'.record j).candidates) := by
    intro k u j n hu hn
    rw [hvolume] at hu
    by_cases hk : k = ch
    · rw [if_pos hk] at hu
      obtain rfl := Option.some.inj hu
      by_cases hj : j = i
      · exact .inl ⟨hk, hj, rfl⟩
      · exact .inr ⟨fun h => hj h.2, v, hk ▸ hv, hother j hj ▸ hn⟩
    · rw [if_neg hk] at hu
      exact .inr ⟨fun h => hk h.1, u, hu, hn⟩
  refine ⟨hwork.pool.ascending, hwork.pool.form, hwork.pool.usable, hwork.pool.apart, fun k u hu => ?_, ?_⟩
  · have hrecords : mapOk .fresh u.records = true ∧ ∀ j, (u.record j).candidates.Nodup := by
      rw [hvolume] at hu
      split at hu
      · obtain rfl := Option.some.inj hu
        obtain ⟨-, hv'⟩ := h.records ch v hv
        refine ⟨hform, fun j => ?_⟩
        by_cases hj : j = i
        · exact hj ▸ hwork.nodup
        · exact hother j hj ▸ (hv' j).1
      · exact ⟨(h.records k u hu).1, fun j => ((h.records k u hu).2 j).1⟩
    refine ⟨hrecords.1, fun j => ⟨hrecords.2 j, fun n hn => ?_⟩⟩
    rcases hbefore hu hn with ⟨-, rfl, rfl⟩ | ⟨hne, u', hu', hn'⟩
    · exact hwork.held n hn
    · exact (hwork.others n ⟨k, u', j, hu', hn', hne⟩).1
  · intro k k' u u' j j' n hu hu' hn hn'
    rcases hbefore hu hn with ⟨rfl, rfl, rfl⟩ | ⟨hne, x, hx, hnx⟩
    · rcases hbefore hu' hn' with ⟨rfl, rfl, -⟩ | ⟨hne', x', hx', hnx'⟩
      · exact ⟨rfl, rfl⟩
      · exact absurd hn (hwork.others n ⟨k', x', j', hx', hnx', hne'⟩).2
    · rcases hbefore hu' hn' with ⟨rfl, rfl, rfl⟩ | ⟨hne', x', hx', hnx'⟩
      · exact absurd hn' (hwork.others n ⟨k, x, j, hx, hnx, hne⟩).2
      · exact h.once k k' x x' j j' n hx hx' hnx hnx'

/-- Slots, records and pool unchanged, but for volumes whose records hold the same slots. -/
theorem State.slotsOk.of_keeps {s t : State} (h : s.slotsOk) {ch : Chan} {v w : Volume} (hv : s.volume ch = some v)
    (hw : v.Keeps w) (ht : t.volumes = qset s.volumes ch (some w)) (hpool : t.pool = s.pool) : t.slotsOk := by
  obtain ⟨hform, hrecords⟩ := h.records ch v hv
  have hcandidates := hw.candidates hform
  have hback : ∀ {k : Chan} {u : Volume}, t.volume k = some u →
      ∃ u', s.volume k = some u' ∧ (mapOk .fresh u.records = true) ∧
        ∀ j, (u.record j).candidates = (u'.record j).candidates := by
    intro k u hu
    unfold State.volume at hu
    rw [ht] at hu
    by_cases hk : k = ch
    · subst hk
      rw [qget_qset_same] at hu
      obtain rfl := Option.some.inj hu
      exact ⟨v, hv, hw.form hform, hcandidates⟩
    · rw [qget_qset_ne _ _ _ _ hk] at hu
      exact ⟨u, hu, (h.records k u hu).1, fun _ => rfl⟩
  refine ⟨hpool ▸ h.ascending, hpool ▸ h.form, hpool ▸ h.usable, hpool ▸ h.apart, fun k u hu => ?_, ?_⟩
  · obtain ⟨u', hu', hf, hc⟩ := hback hu
    exact ⟨hf, fun j => by rw [hc, hpool]; exact (h.records k u' hu').2 j⟩
  · intro k k' u x j j' n hu hx hn hn'
    obtain ⟨u', hu', -, hc⟩ := hback hu
    obtain ⟨x', hx', -, hc'⟩ := hback hx
    exact h.once k k' u' x' j j' n hu' hx' (hc j ▸ hn) (hc' j' ▸ hn')

theorem State.slotsOk.reading {s : State} (h : s.slotsOk) (ch : Chan) (x : Reading) : (s.takeReading ch x).slotsOk := by
  rcases s.takeReading_cases ch x with heq | ⟨v, hv, -, heq⟩
  · rwa [heq]
  · have hform : mapOk .fresh v.records = true := (h.records ch v hv).1
    have hwork := Work.takeReading_slotsOk _ (s.readingEnv ch v x) (h.work hv x.sector s.image)
    rw [heq]
    refine h.write (w := v.withReading x.sector (s.readingWork ch v x).record) (image := (s.readingWork ch v x).image) hv
      (Volume.withReading_records_ok hform _ _) (fun j hj => Volume.record_withReading_ne hj _) ?_ rfl
    rw [Volume.record_withReading_same hform]
    exact hwork

/-- A record changed by EXCLUDE gives its slots back (R108, R116). -/
theorem State.slotsOk.excluded {s : State} (h : s.slotsOk) {ch : Chan} {a : Excluding}
    (hv : s.volume ch = some a.volume) (hp : s.pool = a.pool) (i : Nat) (st : RecordState) :
    ((s.setVolume ch (some (a.change i st).volume)).setPool (a.change i st).pool).slotsOk := by
  have hform : mapOk .fresh a.volume.records = true := (h.records ch _ hv).1
  refine h.write (i := i) (w := (a.change i st).volume) (image := s.image) hv (Volume.putRecord_records_ok hform)
    (fun j hj => Volume.record_putRecord_ne hj) ?_ rfl
  rw [show (a.change i st).volume.record i =
      { a.volume.record i with state := st, candidates := [], fusionArmed := false } from Volume.record_putRecord_same hform]
  have hcleared := (h.work hv i s.image).cleared (r := { a.volume.record i with
    state := st, candidates := [], fusionArmed := false }) rfl s.image
  rwa [hp] at hcleared

/-- EXCLUDE over a range keeps the slots in order. -/
theorem State.slotsOk.exclude {s : State} (h : s.slotsOk) {ch : Chan} {v : Volume} (hv : s.volume ch = some v)
    (op : ExcludeOp) (first taken : Nat) :
    ((s.setVolume ch (some (excludeRange op v s.pool first taken).volume)).setPool
      (excludeRange op v s.pool first taken).pool).slotsOk := by
  refine excludeRange_keeps (P := fun a => ((s.setVolume ch (some a.volume)).setPool a.pool).slotsOk) ?_ fun a i _ _ ha => ?_
  · have hsame : (s.setVolume ch (some v)).setPool s.pool = s := by
      have hvolumes : qset s.volumes ch (some v) = s.volumes := hv ▸ qset_qget _ _
      simp only [State.setVolume, State.setPool, hvolumes]
    exact hsame.symm ▸ h
  · rcases a.apply_cases op i with ⟨n, heq⟩ | ⟨-, st, -, heq⟩
    · rw [heq]; exact ha
    · rw [heq]
      have hnext := ha.excluded (a := a) (qget_qset_same ..) rfl i st
      simpa only [State.setVolume, State.setPool, qset_qset] using hnext

/-- The slots that a volume holds are those its records reference. -/
theorem Volume.mem_heldSlots {v : Volume} (h : mapOk .fresh v.records = true) {k : Nat} :
    k ∈ v.heldSlots ↔ ∃ i, k ∈ (v.record i).candidates := by
  unfold Volume.heldSlots
  rw [List.mem_flatMap]
  constructor
  · rintro ⟨⟨i, r⟩, hmem, hk⟩
    exact ⟨i, by rwa [show v.record i = r from (mapGet_of_mem h hmem).1]⟩
  · rintro ⟨i, hk⟩
    refine ⟨(i, v.record i), mem_of_mapGet fun hf => ?_, hk⟩
    rw [show v.record i = .fresh from hf] at hk
    cases hk

/-- A volume released gives back the slots of all its records (R107, R116). -/
theorem State.slotsOk.release {s : State} (h : s.slotsOk) (ch : Chan) : (s.releaseVolume ch).slotsOk := by
  rcases hv : s.volume ch with _ | v
  · have hsame : s.releaseVolume ch = s := by simp only [State.releaseVolume, hv]
    rw [hsame]; exact h
  · obtain ⟨hform, hrecords⟩ := h.records ch v hv
    have hpool : (s.releaseVolume ch).pool = s.pool.giveBackAll v.heldSlots := by
      simp only [State.releaseVolume, hv]; rfl
    have hslots : (s.pool.giveBackAll v.heldSlots).SlotsOk := Pool.giveBackAll_slotsOk h.poolOk fun k hk => by
      obtain ⟨i, hi⟩ := (Volume.mem_heldSlots hform).mp hk
      exact (hrecords i).2 k hi
    have hback : ∀ {k : Chan} {u : Volume}, (s.releaseVolume ch).volume k = some u → k ≠ ch ∧ s.volume k = some u := by
      intro k u hu
      rw [State.releaseVolume_volume] at hu
      by_cases hk : k = ch
      · rw [if_pos hk] at hu; cases hu
      · exact ⟨hk, by rwa [if_neg hk] at hu⟩
    refine ⟨hpool ▸ hslots.ascending, hpool ▸ hslots.form, hpool ▸ hslots.usable, hpool ▸ hslots.apart, fun k u hu => ?_, ?_⟩
    · obtain ⟨hk, hu⟩ := hback hu
      refine ⟨(h.records k u hu).1, fun j => ⟨((h.records k u hu).2 j).1, fun n hn => ?_⟩⟩
      have hnot : n ∉ v.heldSlots := fun hn' => by
        obtain ⟨i, hi⟩ := (Volume.mem_heldSlots hform).mp hn'
        exact hk (h.once k ch u v j i n hu hv hn hi).1
      rw [hpool, Pool.descriptor_giveBackAll h.form, if_neg hnot]
      exact ((h.records k u hu).2 j).2 n hn
    · exact fun k k' u w i j n hu hw => h.once k k' u w i j n (hback hu).2 (hback hw).2

/-- A volume mounted where there was none references no slot. -/
theorem State.slotsOk.mount {s t : State} (h : s.slotsOk) {ch : Chan} {m : MountRequest} {p : Profile} {uid base : Nat}
    (ht : t.volumes = qset s.volumes ch (some (Volume.atMount uid base m p))) (hpool : t.pool = s.pool) : t.slotsOk := by
  have hback : ∀ {k : Chan} {u : Volume}, t.volume k = some u →
      (mapOk .fresh u.records = true ∧ ∀ j, (u.record j).candidates = []) ∨ s.volume k = some u := by
    intro k u hu
    unfold State.volume at hu
    rw [ht] at hu
    by_cases hk : k = ch
    · subst hk
      rw [qget_qset_same] at hu
      obtain rfl := Option.some.inj hu
      exact .inl ⟨rfl, fun _ => rfl⟩
    · rw [qget_qset_ne _ _ _ _ hk] at hu
      exact .inr hu
  refine ⟨hpool ▸ h.ascending, hpool ▸ h.form, hpool ▸ h.usable, hpool ▸ h.apart, fun k u hu => ?_, ?_⟩
  · rcases hback hu with ⟨hform, hnil⟩ | hu
    · exact ⟨hform, fun j => by simp [hnil]⟩
    · exact hpool ▸ h.records k u hu
  · intro k k' u w i j n hu hw hn hn'
    rcases hback hu with ⟨-, hnil⟩ | hu
    · rw [hnil] at hn; cases hn
    · rcases hback hw with ⟨-, hnil⟩ | hw
      · rw [hnil] at hn'; cases hn'
      · exact h.once k k' u w i j n hu hw hn hn'

theorem Move.slotsKept {s t : State} (h : Move s t) (hs : s.slotsOk) : t.slotsOk := by
  have hframe (hvol : t.volumes = s.volumes) (hpool : t.pool = s.pool) : t.slotsOk := by
    have hvolume : t.volume = s.volume := funext fun k => congrArg (qget · k) hvol
    exact ⟨hpool ▸ hs.ascending, hpool ▸ hs.form, hpool ▸ hs.usable, hpool ▸ hs.apart,
      by rw [hvolume, hpool]; exact hs.records, by rw [hvolume]; exact hs.once⟩
  cases h with
  | volume hv hw => exact hs.of_keeps hv hw rfl rfl
  | media hv => exact hs.of_keeps hv (Volume.media_keeps _) rfl rfl
  | mount => exact hs.mount rfl rfl
  | unmount ch => exact hs.release ch
  | exclude hv op _ => exact hs.exclude hv op _ _
  | _ => exact hframe rfl rfl

/-! ## Free slots and held ones (R112, R116) -/

theorem slotsFrom_eq_range' (first count : Nat) : slotsFrom first count = List.range' first count := by
  induction count generalizing first with
  | zero => rfl
  | succ n ih => rw [slotsFrom, ih, List.range'_succ]

/-- The slots of a bank, where it passed. -/
def bankSlotsOf (first : Nat) (passed : Bool) : List Nat := if passed then List.range' first 1024 else []

theorem mem_bankSlotsOf {first k : Nat} {passed : Bool} :
    k ∈ bankSlotsOf first passed ↔ passed = true ∧ first ≤ k ∧ k < first + 1024 := by
  cases passed <;> simp [bankSlotsOf]

theorem length_bankSlotsOf (first : Nat) (passed : Bool) : (bankSlotsOf first passed).length = 1024 * passed.toNat := by
  cases passed <;> simp [bankSlotsOf]

theorem bankSlotsOf_ascending (first : Nat) (passed : Bool) : (bankSlotsOf first passed).Pairwise (· < ·) := by
  cases passed
  · exact List.Pairwise.nil
  · exact List.pairwise_lt_range'

theorem usableSlots_eq (banks : Quad Bool) :
    usableSlots banks =
      bankSlotsOf 0 banks.c0 ++ bankSlotsOf 1024 banks.c1 ++ bankSlotsOf 2048 banks.c2 ++ bankSlotsOf 3072 banks.c3 := by
  simp only [usableSlots, bankSlotsOf, Config.bankSlots, slotsFrom_eq_range']

theorem mem_usableSlots {banks : Quad Bool} {k : Nat} :
    k ∈ usableSlots banks ↔ ∃ b : Chan, qget banks b = true ∧ 1024 * b.val ≤ k ∧ k < 1024 * (b.val + 1) := by
  have hbank (first : Nat) (b : Bool) (n : Nat) (hf : first = 1024 * n) :
      k ∈ bankSlotsOf first b ↔ b = true ∧ 1024 * n ≤ k ∧ k < 1024 * (n + 1) := by
    rw [mem_bankSlotsOf, hf, Nat.mul_succ]
  rw [usableSlots_eq, List.mem_append, List.mem_append, List.mem_append, hbank 0 _ 0 rfl, hbank 1024 _ 1 rfl,
    hbank 2048 _ 2 rfl, hbank 3072 _ 3 rfl]
  constructor
  · rintro (((h | h) | h) | h)
    exacts [⟨0, h⟩, ⟨1, h⟩, ⟨2, h⟩, ⟨3, h⟩]
  · rintro ⟨b, h⟩
    match b with
    | 0 => exact .inl (.inl (.inl h))
    | 1 => exact .inl (.inl (.inr h))
    | 2 => exact .inl (.inr h)
    | 3 => exact .inr h

theorem usableSlots_ascending (banks : Quad Bool) : (usableSlots banks).Pairwise (· < ·) := by
  simp only [usableSlots_eq, List.pairwise_append, bankSlotsOf_ascending, List.mem_append, mem_bankSlotsOf]
  refine ⟨⟨⟨trivial, trivial, ?_⟩, trivial, ?_⟩, trivial, ?_⟩ <;> omega

theorem Pool.length_usableSlots (p : Pool) : (usableSlots p.bankPassed).length = p.capacity := by
  simp only [usableSlots_eq, List.length_append, length_bankSlotsOf, Pool.capacity, Pool.banksPassed, qlist]
  cases p.bankPassed.c0 <;> cases p.bankPassed.c1 <;> cases p.bankPassed.c2 <;> cases p.bankPassed.c3 <;> rfl

theorem mapOkFrom_keys_ascending {α : Type} [DecidableEq α] {d : α} {m : SMap α} {lo : Nat} (h : mapOkFrom d lo m = true) :
    (m.map (·.1)).Pairwise (· < ·) ∧ ∀ k ∈ m.map (·.1), lo ≤ k := by
  induction m generalizing lo with
  | nil => exact ⟨List.Pairwise.nil, nofun⟩
  | cons e m ih =>
    obtain ⟨a, b⟩ := e
    simp only [mapOkFrom, Bool.and_eq_true, decide_eq_true_eq] at h
    obtain ⟨hasc, hlow⟩ := ih h.2
    refine ⟨List.pairwise_cons.mpr ⟨fun k hk => hlow k hk, hasc⟩, fun k hk => ?_⟩
    rcases List.mem_cons.mp hk with rfl | hk
    · exact h.1.1
    · exact (h.1.1.trans (Nat.le_succ a)).trans (hlow k hk)

theorem Pool.mem_descriptors {p : Pool} (h : mapOk none p.descriptors = true) {k : Nat} :
    k ∈ p.descriptors.map (·.1) ↔ p.descriptor k ≠ none := by
  constructor
  · rintro hk
    obtain ⟨⟨k', x⟩, hmem, rfl⟩ := List.mem_map.mp hk
    obtain ⟨hget, hx, -⟩ := mapGet_of_mem h hmem
    exact fun hn => hx (hget.symm.trans hn)
  · exact fun hk => List.mem_map.mpr ⟨_, mem_of_mapGet hk, rfl⟩

/-- Free slots and held ones are the slots of the banks that passed. -/
theorem Pool.SlotsOk.perm {p : Pool} (h : p.SlotsOk) :
    (p.freeList ++ p.descriptors.map (·.1)).Perm (usableSlots p.bankPassed) := by
  refine (List.perm_ext_iff_of_nodup (List.nodup_append.mpr ⟨h.ascending.imp Nat.ne_of_lt,
    (mapOkFrom_keys_ascending h.form).1.imp Nat.ne_of_lt, ?_⟩) ((usableSlots_ascending _).imp Nat.ne_of_lt)).mpr fun k => ?_
  · rintro k hk _ hk' rfl
    exact (Pool.mem_descriptors h.form).mp hk' (h.apart k hk)
  · rw [List.mem_append, Pool.mem_descriptors h.form, mem_usableSlots]
    exact h.usable k

/-- Settles O9: a use count follows the volumes that come and go; the slots of a record are granted, kept and given back, and
those of every other record are left alone. -/
theorem useCountsKept : Obligations.UseCountsKept := by
  refine ⟨fun s t hstep hs => ⟨?_, ?_⟩, fun s hs => ?_⟩
  · refine step_keeps (P := State.useCountsOk) (fun _ _ h => h) (fun s env banks carried memory _ _ => ?_)
      (fun s ch x => State.takeReading_useCounts ch x) (fun _ _ => Move.useCounts) hstep hs
    refine ⟨rfl, fun n hn => ?_, by simp, by simp⟩
    rw [State.usersOf_eq_zero_iff.mpr (by simp), State.restarted_slot]
    rfl
  · refine step_keeps (P := State.slotsOk) (fun _ _ h => ⟨h.ascending, h.form, h.usable, h.apart, h.records, h.once⟩)
      (fun s env banks carried memory _ _ => ?_) (fun s ch x h => h.reading ch x) (fun _ _ => Move.slotsKept) hstep
    refine ⟨usableSlots_ascending banks, rfl, fun k => ?_, fun _ _ => rfl, by simp, by simp⟩
    exact (or_iff_left fun h => h rfl).trans mem_usableSlots
  · have hperm := hs.poolOk.perm.length_eq
    rwa [List.length_append, List.length_map, Pool.length_usableSlots] at hperm

end Sys2Proof.Machine
end

/-! # The memories, and what is settled -/

section
/-! SUPPORT. The form of image and candidate memory, and a SETTLED record through every step (R102). -/

namespace Sys2Proof.Machine

/-! ## The form of the memories (R90, R112) -/

theorem Excluding.change_pool_ok {a : Excluding} (h : memoryOk a.pool.memory = true ∧ mapOk none a.pool.descriptors = true)
    (i : Nat) (st : RecordState) :
    memoryOk (a.change i st).pool.memory = true ∧ mapOk none (a.change i st).pool.descriptors = true :=
  ⟨(a.pool.giveBackAll_memory _).symm ▸ h.1, Pool.giveBackAll_form h.2 _⟩

theorem excludeRange_pool_ok {op : ExcludeOp} {v : Volume} {p : Pool} {first taken : Nat}
    (h : memoryOk p.memory = true ∧ mapOk none p.descriptors = true) :
    memoryOk (excludeRange op v p first taken).pool.memory = true ∧
      mapOk none (excludeRange op v p first taken).pool.descriptors = true := by
  refine excludeRange_keeps (P := fun a => memoryOk a.pool.memory = true ∧ mapOk none a.pool.descriptors = true) h
    fun a i _ _ ha => ?_
  rcases a.apply_cases op i with ⟨n, heq⟩ | ⟨-, st, -, heq⟩
  · rw [heq]; exact ha
  · rw [heq]; exact Excluding.change_pool_ok ha i st

theorem State.releaseVolume_memoriesOk {s : State} (ch : Chan) (h : s.memoriesOk) : (s.releaseVolume ch).memoriesOk := by
  obtain ⟨himage, hmemory, hform⟩ := h
  unfold State.releaseVolume
  split
  · exact ⟨himage, hmemory, hform⟩
  · exact ⟨himage, (s.pool.giveBackAll_memory _).symm ▸ hmemory, Pool.giveBackAll_form hform _⟩

theorem Move.memories {s t : State} (h : Move s t) (hs : s.memoriesOk) : t.memoriesOk := by
  cases h with
  | unmount ch => exact State.releaseVolume_memoriesOk ch hs
  | exclude hv op _ => exact ⟨hs.1, excludeRange_pool_ok hs.2⟩
  | _ => exact hs

theorem State.takeReading_memories {s : State} (ch : Chan) (x : Reading) (hs : s.memoriesOk) :
    (s.takeReading ch x).memoriesOk := by
  rcases s.takeReading_cases ch x with h | ⟨v, -, -, h⟩
  · rwa [h]
  · rw [h]
    obtain ⟨himage, hmemory, hform⟩ := Work.takeReading_memories
      { record := v.record x.sector, pool := s.pool, image := s.image } (s.readingEnv ch v x)
    exact ⟨himage hs.1, hmemory hs.2.1, hform hs.2.2⟩

/-! ## A SETTLED record (R99, R102) -/

/-- A record SETTLED by the same votes, with the same mark class and pass, and matches that may have risen. -/
def SectorRecord.SettledAs (r : SectorRecord) (info : SettledInfo) : Prop :=
  r.state = .settled ∧ ∃ n, r.settled = some { info with matchCount := n }

/-- The volume with the uid, while it is mounted on the channel, has its run at `base` and its record `i` SETTLED as it was, with
the data it had. -/
structure StillSettled (ch : Chan) (uid base i : Nat) (info : SettledInfo) (data : List Byte) (t : State) : Prop where
  name : uid < t.nextVolume
  volume : ∀ w, t.volume ch = some w → w.uid = uid →
    w.base = base ∧ mapOk .fresh w.records = true ∧ (w.record i).SettledAs info
  data : ∀ w, t.volume ch = some w → w.uid = uid → (areaOf t.image (base + i)).data = data

/-- EXCLUDE skips a SETTLED record (R108). -/
theorem excludeRange_settled {op : ExcludeOp} {v : Volume} {p : Pool} {first taken i : Nat}
    (hform : mapOk .fresh v.records = true) (hst : (v.record i).state = .settled) :
    (excludeRange op v p first taken).volume.uid = v.uid ∧ (excludeRange op v p first taken).volume.base = v.base ∧
      mapOk .fresh (excludeRange op v p first taken).volume.records = true ∧
      (excludeRange op v p first taken).volume.record i = v.record i := by
  refine excludeRange_keeps (P := fun a => a.volume.uid = v.uid ∧ a.volume.base = v.base ∧
    mapOk .fresh a.volume.records = true ∧ a.volume.record i = v.record i) ⟨rfl, rfl, hform, rfl⟩ fun a j _ _ ha => ?_
  rcases a.apply_cases op j with ⟨n, heq⟩ | ⟨hne, st, -, heq⟩
  · rw [heq]; exact ha
  · obtain ⟨huid, hbase, hrecords, hrecord⟩ := ha
    rw [heq]
    refine ⟨huid, hbase, Volume.putRecord_records_ok hrecords, (Volume.record_putRecord_ne fun hij => hne ?_).trans hrecord⟩
    rw [← hij, hrecord, hst]

section
variable {ch : Chan} {uid base i : Nat} {info : SettledInfo} {data : List Byte} {s t : State}

/-- The volume of the channel replaced by one of the same name, place and SETTLED record. -/
theorem StillSettled.write (h : StillSettled ch uid base i info data s) {k : Chan} {v w : Volume}
    (hv : s.volume k = some v) (ht : t.volumes = qset s.volumes k (some w)) (himage : t.image = s.image)
    (hname : t.nextVolume = s.nextVolume) (huid : w.uid = v.uid)
    (hw : mapOk .fresh v.records = true → (v.record i).state = .settled →
      w.base = v.base ∧ mapOk .fresh w.records = true ∧ w.record i = v.record i) :
    StillSettled ch uid base i info data t := by
  have hback : ∀ u, t.volume ch = some u → s.volume ch = some u ∨ (k = ch ∧ u = w) := by
    intro u hu
    unfold State.volume at hu
    rw [ht] at hu
    by_cases hk : ch = k
    · subst hk
      rw [qget_qset_same] at hu
      exact .inr ⟨rfl, (Option.some.inj hu).symm⟩
    · rw [qget_qset_ne _ _ _ _ hk] at hu
      exact .inl hu
  refine ⟨hname ▸ h.name, fun u hu hid => ?_, fun u hu hid => ?_⟩
  · rcases hback u hu with hu | ⟨rfl, rfl⟩
    · exact h.volume u hu hid
    · obtain ⟨hbase, hform, hsettled⟩ := h.volume v hv (huid.symm.trans hid)
      obtain ⟨hbase', hform', hrecord⟩ := hw hform hsettled.1
      exact ⟨hbase'.trans hbase, hform', hrecord ▸ hsettled⟩
  · rw [himage]
    rcases hback u hu with hu | ⟨rfl, rfl⟩
    · exact h.data u hu hid
    · exact h.data v hv (huid.symm.trans hid)

theorem Move.stillSettled (hm : Move s t) (h : StillSettled ch uid base i info data s) :
    StillSettled ch uid base i info data t := by
  cases hm with
  | volume hv hw =>
    exact h.write hv rfl rfl rfl hw.name.1 fun hform hst => ⟨hw.place.1, hw.form hform, hw.settled hform i hst⟩
  | media hv =>
    have hw := Volume.media_keeps
    exact h.write hv rfl rfl rfl (hw _).name.1 fun hform hst => ⟨(hw _).place.1, hform, (hw _).settled hform i hst⟩
  | exclude hv op _ =>
    rename_i k v first taken hrange
    exact h.write hv rfl rfl rfl (excludeRange_written hrange).name.1 fun hform hst => (excludeRange_settled hform hst).2
  | mount hfree hc hprobe hheld hbase =>
    rename_i k c m p base'
    have hback : ∀ u, ((({ s with nextVolume := s.nextVolume + 1 }.setVolume k (some (Volume.atMount s.nextVolume base' m
        p))).raiseUse m.slot).putChannel k c).volume ch = some u → u.uid = uid → s.volume ch = some u := by
      intro u hu hid
      change (({ s with nextVolume := s.nextVolume + 1 } : State).setVolume k _).volume ch = some u at hu
      rw [State.volume_setVolume] at hu
      split at hu
      · obtain rfl := Option.some.inj hu
        exact absurd h.name (hid ▸ Nat.lt_irrefl _)
      · exact hu
    exact ⟨Nat.lt_succ_of_lt h.name, fun u hu hid => h.volume u (hback u hu hid) hid,
      fun u hu hid => h.data u (hback u hu hid) hid⟩
  | unmount k =>
    have hback : ∀ u, (s.releaseVolume k).volume ch = some u → s.volume ch = some u := by
      intro u hu
      rw [State.releaseVolume_volume] at hu
      split at hu
      · cases hu
      · exact hu
    exact ⟨s.releaseVolume_nextVolume k ▸ h.name, fun u hu => h.volume u (hback u hu),
      fun u hu => s.releaseVolume_image k ▸ h.data u (hback u hu)⟩
  | _ => exact ⟨h.name, h.volume, h.data⟩

/-- A reading compared with a SETTLED record raises its matches and confidences at most (R99). -/
theorem Work.takeReading_settled {w : Work} (e : ReadingEnv) (himage : memoryOk w.image = true)
    (h : w.record.SettledAs info) :
    (w.takeReading e).record.SettledAs info ∧
      (areaOf (w.takeReading e).image e.recordNumber).data = (areaOf w.image e.recordNumber).data := by
  obtain ⟨hst, n, hinfo⟩ := h
  have heq : w.takeReading e = Work.compareSettled { w with record := w.record.countRead e.reading } e := by
    simp only [Work.takeReading, hst]
  rw [heq]
  unfold Work.compareSettled
  have hcounted : (w.record.countRead e.reading).settled = some { info with matchCount := n } := hinfo
  simp only [hcounted]
  split
  · exact ⟨⟨hst, _, rfl⟩, by simp [areaOf_writeArea_same himage]⟩
  · split
    · exact ⟨⟨hst, n, rfl⟩, rfl⟩
    · exact ⟨⟨hst, n, hinfo⟩, rfl⟩

/-- A reading taken leaves a SETTLED record SETTLED, where it does not name the same record of the store from another channel. -/
theorem StillSettled.reading (h : StillSettled ch uid base i info data s) (himage : memoryOk s.image = true) {k : Chan}
    {x : Reading} (hother : k ≠ ch → ∀ u, s.volume k = some u → u.base + x.sector ≠ base + i) :
    StillSettled ch uid base i info data (s.takeReading k x) := by
  rcases s.takeReading_cases k x with heq | ⟨v, hv, -, heq⟩
  · rwa [heq]
  have hvolume : (s.takeReading k x).volume ch =
      if ch = k then some (v.withReading x.sector (s.readingWork k v x).record) else s.volume ch := by
    rw [heq]; exact State.volume_setVolume _ _ _ _
  have harea : v.base + x.sector ≠ base + i → areaOf (s.takeReading k x).image (base + i) = areaOf s.image (base + i) :=
    fun hne => by rw [heq]; exact Work.takeReading_area _ _ hne.symm
  refine ⟨by rw [State.takeReading_nextVolume]; exact h.name, fun u hu hid => ?_, fun u hu hid => ?_⟩
  · rw [hvolume] at hu
    split at hu
    · next hk =>
      subst hk
      obtain rfl := Option.some.inj hu
      obtain ⟨hbase, hform, hsettled⟩ := h.volume v hv hid
      refine ⟨hbase, Volume.withReading_records_ok hform _ _, ?_⟩
      by_cases hi : i = x.sector
      · rw [hi, Volume.record_withReading_same hform]
        exact (Work.takeReading_settled (w := { record := v.record x.sector, pool := s.pool, image := s.image })
          (s.readingEnv ch v x) himage (hi ▸ hsettled)).1
      · rw [Volume.record_withReading_ne hi]
        exact hsettled
    · exact h.volume u hu hid
  · rw [hvolume] at hu
    split at hu
    · next hk =>
      subst hk
      obtain rfl := Option.some.inj hu
      obtain ⟨hbase, hform, hsettled⟩ := h.volume v hv hid
      rw [← h.data v hv hid]
      by_cases hi : i = x.sector
      · have hsame := (Work.takeReading_settled (w := { record := v.record x.sector, pool := s.pool, image := s.image })
          (s.readingEnv ch v x) himage (hi ▸ hsettled)).2
        rw [heq, ← hbase, hi]
        exact hsame
      · rw [harea fun he => hi (by omega)]
    · next hk =>
      rw [harea (hother (Ne.symm hk) v hv)]
      exact h.data u hu hid

end

/-- Settles O7: every write of a memory keeps its form; and a SETTLED record through moves, which keep it, and through the one
reading, which raises its matches at most. -/
theorem memoriesStayCanonical : Obligations.MemoriesStayCanonical := by
  refine ⟨fun s t => step_keeps (P := State.memoriesOk) (fun _ _ h => h) ?_
    (fun s ch x => State.takeReading_memories ch x) fun _ _ => Move.memories, ?_⟩
  · rintro s env banks carried memory (rfl | rfl) hs
    · exact ⟨rfl, rfl, rfl⟩
    · exact ⟨rfl, hs.2.1, rfl⟩
  · intro s t ch v w i info hstep hs hv hw huid hname hform hst hinfo hother
    obtain ⟨rest, heffect⟩ := step_effect hstep
    have hbefore : StillSettled ch v.uid v.base i info (areaOf s.image (v.base + i)).data (s.setPending rest) :=
      ⟨hname, fun u hu _ => by
        obtain rfl := Option.some.inj (hv.symm.trans hu)
        exact ⟨rfl, hform, hst, info.matchCount, hinfo⟩, fun _ _ _ => rfl⟩
    have hafter : StillSettled ch v.uid v.base i info (areaOf s.image (v.base + i)).data t := by
      have hmove : ∀ a b, Move a b → StillSettled ch v.uid v.base i info (areaOf s.image (v.base + i)).data a →
          StillSettled ch v.uid v.base i info (areaOf s.image (v.base + i)).data b := fun _ _ => Move.stillSettled
      cases heffect with
      | reset => rw [State.restarted_volume] at hw; cases hw
      | moves hmoves => exact Moves.keep hmove hmoves hbefore
      | reading hhanded hmoves =>
        refine Moves.keep hmove hmoves (StillSettled.reading (Moves.keep hmove (State.popHanded_moves _ _) hbefore) hs.1 ?_)
        exact fun hk u hu => hother _ _ _ u hk hhanded hu
    obtain ⟨hbase, -, hsettled⟩ := hafter.volume w hw huid
    exact ⟨hbase, hsettled.1, hsettled.2, hafter.data w hw huid⟩

end Sys2Proof.Machine
end

/-! # The step, the resets and the ladder -/

section
/-! SUPPORT. The statements that evaluate one definition: the step, what a reset leaves, the ladder, a link reset. -/

namespace Sys2Proof.Machine

/-- Settles O1: what a step is, with a command at the front. -/
theorem stepRunsFront : Obligations.StepRunsFront := fun _ _ _ => rfl

/-! ## A millisecond (R36, R40) -/

/-- Every channel rewritten in turn, from what it was. -/
theorem State.channel_foldl_putChannel (f : Channel → Channel) (l : List Chan) (hl : l.Nodup) (s : State) (ch : Chan) :
    (l.foldl (fun t k => t.putChannel k (f (t.channel k))) s).channel ch =
      if ch ∈ l then (f (s.channel ch)).drive else s.channel ch := by
  induction l generalizing s with
  | nil => rfl
  | cons k l ih =>
    obtain ⟨hk, hl⟩ := List.nodup_cons.mp hl
    rw [List.foldl_cons, ih hl, State.channel_putChannel]
    by_cases hch : ch = k
    · subst hch; simp [hk]
    · simp [hch]

theorem State.passTime_frame (s : State) : s.passTime = { s with channels := s.passTime.channels } := rfl

/-- Settles O2: time passes on the four channels, one after the other. -/
theorem idleStepPassesTime : Obligations.IdleStepPassesTime := by
  intro s hs
  refine ⟨s.passTime, by simp only [step, hs], s.passTime_frame, fun ch => ?_⟩
  refine (State.channel_foldl_putChannel Channel.passTime allChans (by decide) s ch).trans (if_pos ?_)
  match ch with
  | 0 | 1 | 2 | 3 => simp [allChans]

/-! ## After reset -/

theorem slotsFrom_all : slotsFrom 0 4096 = usableSlots ⟨true, true, true, true⟩ := by
  simp only [usableSlots_eq, bankSlotsOf, slotsFrom_eq_range', if_true]
  rw [List.range'_append_1, List.range'_append_1, List.range'_append_1]

theorem State.reset_volume (ch : Chan) : State.reset.volume ch = none := by
  match ch with
  | 0 | 1 | 2 | 3 => rfl

theorem State.reset_channel (ch : Chan) : State.reset.channel ch = .reset := by
  match ch with
  | 0 | 1 | 2 | 3 => rfl

theorem State.reset_slot (n : Nat) : State.reset.slot n = .empty := by
  change (List.replicate 8 ProfileSlot.empty).getD n .empty = .empty
  simp only [List.getD_eq_getElem?_getD, List.getElem?_replicate]
  split <;> rfl

/-- Settles O11: with no volume, no request and every slot free, each invariant by its own definition. -/
theorem resetMeetsInvariants : Obligations.ResetMeetsInvariants := by
  refine ⟨⟨Nat.zero_le _, Nat.zero_le _, nofun⟩, fun ch => ?_, fun ch => ?_, ⟨rfl, rfl, rfl⟩, ?_, ?_, ?_, ?_, ?_⟩
  · rw [State.reset_channel]; rfl
  · rw [State.reset_channel]; exact nofun
  · exact ⟨⟨Nat.zero_le _, Nat.zero_le _⟩, fun ch => by rw [State.reset_channel]; exact ⟨Nat.zero_le _, nofun⟩,
      by simp [State.reset_volume], by simp [State.reset_slot, ProfileSlot.empty]⟩
  · refine ⟨rfl, fun n _ => ?_, by simp [State.reset_volume], by simp [State.reset_channel, Channel.reset]⟩
    rw [State.usersOf_eq_zero_iff.mpr (by simp [State.reset_volume]), State.reset_slot]
    rfl
  · have hfree : State.reset.pool.freeList = usableSlots ⟨true, true, true, true⟩ := slotsFrom_all
    refine ⟨hfree ▸ usableSlots_ascending _, rfl, fun k => ?_, fun _ _ => rfl, by simp [State.reset_volume],
      by simp [State.reset_volume]⟩
    rw [hfree]
    exact (or_iff_left fun h => h rfl).trans mem_usableSlots
  · simp [State.runsOk, State.reset_volume]
  · simp [State.mapsOk, State.reset_volume, State.reset_slot, ProfileSlot.empty]

/-- Both test passes of R66 give their results. -/
theorem separatorTestPasses_eq : separatorTestPasses = true := by decide +kernel

theorem separatorsPass_eq (env : Environment) : separatorsPass env = (qlist env.separatorsOk).all (fun b => b) := by
  rw [separatorsPass, separatorTestPasses_eq, Bool.true_and]

theorem failedStages_lt (env : Environment) (banks : Quad Bool) : failedStages env banks < 2048 := by
  have hbit (k : Nat) (b : Bool) : flagBit k b ≤ 2 ^ k := by
    unfold flagBit
    split
    · exact Nat.le_refl _
    · exact Nat.zero_le _
  have h0 := hbit 0 (!env.tableRomOk)
  have h1 := hbit 1 (!env.imageMemoryOk)
  have h2 := hbit 2 (!banks.c0)
  have h3 := hbit 3 (!banks.c1)
  have h4 := hbit 4 (!banks.c2)
  have h5 := hbit 5 (!banks.c3)
  have h6 := hbit 6 (!separatorsPass env)
  unfold failedStages
  omega

theorem partFails_eq (env : Environment) (banks : Quad Bool) :
    partFails env banks = !(env.tableRomOk && env.imageMemoryOk && (qlist env.separatorsOk).all (fun b => b) &&
      (qlist banks).any (fun b => b)) := by
  rw [partFails, separatorsPass_eq, Bool.not_and, Bool.not_and, Bool.not_and, List.not_any_eq_all_not]

/-- A channel after reset (R23, R24, R50, R67). -/
theorem Channel.start_reset (lines : Lines) : ChannelReset lines (Channel.start lines) where
  kind := rfl
  state := by cases h : lines.kind <;> simp [Channel.start, Channel.sensed, Channel.drive, h]
  position := ⟨rfl, rfl, rfl⟩
  marks := ⟨rfl, rfl, rfl⟩
  fault := ⟨rfl, rfl⟩
  quiet := ⟨rfl, rfl, rfl, rfl⟩
  lines := by
    cases hk : lines.kind <;> cases hp : lines.present <;> cases hr : lines.ready <;> cases ht : lines.track0 <;>
      simp [Channel.start, Channel.sensed, Channel.drive, hk, hp, hr, ht, outputsOf, Channel.reset, motorOn, tapeMotion, Outputs.released]
  separator := ⟨rfl, rfl, rfl, rfl⟩
  decoder := ⟨rfl, rfl, rfl, rfl, rfl, rfl, rfl⟩

theorem State.restarted_partReset (s : State) (env : Environment) (banks : Quad Bool) (carried : Bool)
    (memory : SMap Area) : PartReset env banks carried (s.restarted env banks carried memory) where
  channels ch := by rw [State.restarted_channel]; exact Channel.start_reset _
  volumes ch := State.restarted_volume ..
  slots := rfl
  link := rfl
  fetches := rfl
  pool := ⟨rfl, rfl, Pool.length_usableSlots (s.restarted env banks carried memory).pool, fun _ => rfl, fun ch => by
    match ch with
    | 0 | 1 | 2 | 3 => rfl⟩
  selfTest := ⟨rfl, rfl, by
    change (BitVec.ofNat 11 (failedStages env banks)).toNat = _
    rw [BitVec.toNat_ofNat, Nat.mod_eq_of_lt (failedStages_lt env banks), failedStages, separatorsPass_eq]⟩
  failed := partFails_eq env banks

/-- Settles O28: power-on reset and a restart that is due leave every block as the chapters give. -/
theorem resetClearsPart : Obligations.ResetClearsPart := by
  refine ⟨fun env s => ⟨_, rfl, s.restarted_partReset .., rfl⟩, fun env s hdue => ⟨_, ?_, s.restarted_partReset .., rfl, rfl⟩,
    fun env s hnot => ?_⟩
  · exact congrArg _ (if_pos hdue)
  · exact congrArg _ (if_neg hnot)

/-! ## The ladder (R131) -/

/-- Settles O27: the six steps, row by row. -/
theorem ladderSteps : Obligations.LadderSteps := by
  refine fun p => ⟨rfl, rfl, rfl, ?_, fun h => ?_, fun h => ?_⟩
  · cases h : p.medium <;> simp [ladderRevolutions, h]
  · simp [nextStep, h]
  · simp [nextStep, h]

/-! ## A link reset (R164) -/

/-- Settles O29: what a link reset writes; with the function not enumerated no entry leaves, and a notice joins its channel's
pending set. -/
theorem linkResetClearsLink : Obligations.LinkResetClearsLink := by
  refine ⟨fun s => rfl, fun s hs => ?_, fun s ch k p hs hr hf => ?_⟩
  · have hlink : s.link.entryLeft s.fetching = s.link := if_pos (.inl (by simp [hs]))
    exact congrArg (fun l => Host.Outcome.next (s.setLink l)) hlink
  · simp [State.notify, State.setLink, Link.notify, hs, hr, hf]

end Sys2Proof.Machine
end

/-! # The receiver and the queues of the link -/

section
/-! SUPPORT. Bytes received (R159), acceptance (R160), room and SUMMARY notices (R162, R163), enumeration (R164) and RESTART
(R168). -/

namespace Sys2Proof.Machine

/-! ## Little-endian numbers -/

theorem byteAt_le2 {n : Nat} (l : List Byte) : le2At (le2 n ++ l) 0 = n % 65536 := by
  have hlo : ((BitVec.ofNat 8 n).toNat) = n % 256 := BitVec.toNat_ofNat ..
  have hhi : ((BitVec.ofNat 8 (n / 256)).toNat) = n / 256 % 256 := BitVec.toNat_ofNat ..
  change (BitVec.ofNat 8 n).toNat + 256 * (BitVec.ofNat 8 (n / 256)).toNat = _
  omega

theorem byteAt_append {a b : List Byte} {n k : Nat} (h : a.length = n) : byteAt (a ++ b) (n + k) = byteAt b k := by
  simp [byteAt, List.getD_eq_getElem?_getD, List.getElem?_append_right, ← h]

theorem le2At_append {a b : List Byte} {n : Nat} (h : a.length = n) : le2At (a ++ b) n = le2At b 0 := by
  have hlo := byteAt_append (b := b) (k := 0) h
  have hhi := byteAt_append (b := b) (k := 1) h
  simp only [le2At, Nat.add_zero] at hlo hhi ⊢
  rw [hlo, hhi]

/-! ## The receiver (R159) -/

/-- Bytes passed over are dropped. -/
theorem scanBytes_skip (l : List Byte) (n : Nat) : scanBytes l n = scanBytes (l.drop n) 0 := by
  induction l generalizing n with
  | nil => cases n <;> rfl
  | cons b l ih =>
    cases n with
    | zero => rfl
    | succ n => rw [scanBytes, ih]; rfl

theorem scanBytes_noSof {b : Byte} {rest : List Byte} (h : b ≠ Config.sof) : scanBytes (b :: rest) 0 = scanBytes rest 0 := by
  rw [scanBytes, if_pos h]

theorem scanBytes_short {rest : List Byte} (h : rest.length < 4) :
    scanBytes (Config.sof :: rest) 0 = ([], Config.sof :: rest) := by
  simp [scanBytes, h]

theorem scanBytes_badLength {rest : List Byte} (h : 4 ≤ rest.length) (hlen : 2048 < le2At rest 0) :
    scanBytes (Config.sof :: rest) 0 = (.abandoned :: (scanBytes rest 0).1, (scanBytes rest 0).2) := by
  simp [scanBytes, Nat.not_lt.mpr h, Config.maxPayload, hlen]

theorem scanBytes_body {rest : List Byte} (h : 4 ≤ rest.length) (hlen : le2At rest 0 ≤ 2048)
    (hshort : rest.length < le2At rest 0 + 6) : scanBytes (Config.sof :: rest) 0 = ([], Config.sof :: rest) := by
  simp [scanBytes, Nat.not_lt.mpr h, Config.maxPayload, Nat.not_lt.mpr hlen, hshort]

theorem scanBytes_frame {rest : List Byte} (hlen : le2At rest 0 ≤ 2048) (hlong : le2At rest 0 + 6 ≤ rest.length)
    (hcheck : crc16 0xFFFF (rest.take (le2At rest 0 + 4)) = le2At rest (le2At rest 0 + 4)) :
    scanBytes (Config.sof :: rest) 0 =
      (.frame (rest.getD 2 0) (rest.getD 3 0) ((rest.drop 4).take (le2At rest 0)) ::
        (scanBytes (rest.drop (le2At rest 0 + 6)) 0).1, (scanBytes (rest.drop (le2At rest 0 + 6)) 0).2) := by
  have h4 : ¬ rest.length < 4 := by omega
  rw [← scanBytes_skip]
  simp [scanBytes, h4, Config.maxPayload, Nat.not_lt.mpr hlen, Nat.not_lt.mpr hlong, hcheck]

theorem scanBytes_badCheck {rest : List Byte} (hlen : le2At rest 0 ≤ 2048) (hlong : le2At rest 0 + 6 ≤ rest.length)
    (hcheck : crc16 0xFFFF (rest.take (le2At rest 0 + 4)) ≠ le2At rest (le2At rest 0 + 4)) :
    scanBytes (Config.sof :: rest) 0 = (.abandoned :: (scanBytes rest 0).1, (scanBytes rest 0).2) := by
  have h4 : ¬ rest.length < 4 := by omega
  simp [scanBytes, h4, Config.maxPayload, Nat.not_lt.mpr hlen, Nat.not_lt.mpr hlong, hcheck]

theorem scanBytes_passed {l : List Byte} (h : Config.sof ∉ l) : scanBytes l 0 = ([], []) := by
  induction l with
  | nil => rfl
  | cons b l ih =>
    obtain ⟨hb, hl⟩ := not_or.mp (List.mem_cons.not.mp h)
    rw [scanBytes_noSof (Ne.symm hb), ih hl]

/-- The bytes of a body, cut at the length that its first two give. -/
structure Body (body : List Byte) (len : Nat) : Prop where
  len_eq : le2At body 0 = len
  length_eq : body.length = len + 4

theorem Body.le2At_append {body : List Byte} {len : Nat} (h : Body body len) (more : List Byte) :
    le2At (body ++ more) 0 = len := by
  have hlong : 1 < body.length := by rw [h.length_eq]; omega
  rw [← h.len_eq]
  simp [le2At, byteAt, List.getD_eq_getElem?_getD, List.getElem?_append_left hlong,
    List.getElem?_append_left (Nat.lt_of_succ_lt hlong)]

/-- A body with any check behind it. -/
theorem scanBytes_checked {body more : List Byte} {len c : Nat} (h : Body body len) (hlen : len ≤ 2048) (hc : c < 65536) :
    scanBytes (Config.sof :: (body ++ le2 c ++ more)) 0 =
      if crc16 0xFFFF body = c then
        (.frame (body.getD 2 0) (body.getD 3 0) (body.drop 4) :: (scanBytes more 0).1, (scanBytes more 0).2)
      else (.abandoned :: (scanBytes (body ++ le2 c ++ more) 0).1, (scanBytes (body ++ le2 c ++ more) 0).2) := by
  have hlenEq : le2At (body ++ le2 c ++ more) 0 = len := by rw [List.append_assoc]; exact h.le2At_append _
  have hlong : le2At (body ++ le2 c ++ more) 0 + 6 ≤ (body ++ le2 c ++ more).length := by
    rw [hlenEq]; simp only [List.length_append, h.length_eq, le2, List.length_cons, List.length_nil]; omega
  have htake : (body ++ le2 c ++ more).take (le2At (body ++ le2 c ++ more) 0 + 4) = body := by
    rw [hlenEq, List.append_assoc, ← h.length_eq, List.take_left]
  have hcheckBytes : le2At (body ++ le2 c ++ more) (le2At (body ++ le2 c ++ more) 0 + 4) = c := by
    rw [hlenEq, List.append_assoc, Machine.le2At_append h.length_eq, byteAt_le2, Nat.mod_eq_of_lt hc]
  split
  · next hcrc =>
    rw [scanBytes_frame (hlenEq ▸ hlen) hlong (by rw [htake, hcheckBytes, hcrc]), hlenEq]
    have hdrop : (body ++ le2 c ++ more).drop (len + 6) = more := by
      have : (body ++ le2 c).length = len + 6 := by simp [h.length_eq, le2]
      rw [← this, List.drop_left]
    have hpayload : ((body ++ le2 c ++ more).drop 4).take len = body.drop 4 := by
      have h4 : 4 ≤ body.length := by rw [h.length_eq]; omega
      have hlenBody : (body.drop 4).length = len := by rw [List.length_drop, h.length_eq]; omega
      rw [List.append_assoc, List.drop_append_of_le_length h4, ← hlenBody, List.take_left]
    have hget (k : Nat) (hk : k < 4) : (body ++ le2 c ++ more).getD k 0 = body.getD k 0 := by
      have : k < body.length := by rw [h.length_eq]; omega
      simp [List.getD_eq_getElem?_getD, List.getElem?_append_left, this]
    rw [hdrop, hpayload, hget 2 (by omega), hget 3 (by omega)]
  · next hcrc => exact scanBytes_badCheck (hlenEq ▸ hlen) hlong (by rw [htake, hcheckBytes]; exact hcrc)

theorem frameBytes_eq (f : OutFrame) : frameBytes f =
    Config.sof :: ((le2 f.payload.length ++ [f.kind, f.tag] ++ f.payload) ++
      le2 (crc16 0xFFFF (le2 f.payload.length ++ [f.kind, f.tag] ++ f.payload))) := rfl

/-- Settles O12: the length in the header leads to the check, which is that of the body. -/
theorem receiverFindsFrame : Obligations.ReceiverFindsFrame := by
  intro f rest hlen
  have hbody : Body (le2 f.payload.length ++ [f.kind, f.tag] ++ f.payload) f.payload.length :=
    ⟨by rw [List.append_assoc, byteAt_le2, Nat.mod_eq_of_lt (by omega)], by simp [le2]⟩
  rw [frameBytes_eq, List.cons_append, scanBytes_checked hbody hlen (crc16_lt _ _), if_pos rfl]
  rfl

/-- What was found in the first bytes stands; the bytes then held go before what follows. -/
theorem scanBytes_append (l m : List Byte) (n : Nat) (hn : n ≤ l.length) :
    scanBytes (l ++ m) n =
      ((scanBytes l n).1 ++ (scanBytes ((scanBytes l n).2 ++ m) 0).1, (scanBytes ((scanBytes l n).2 ++ m) 0).2) := by
  induction l generalizing n with
  | nil =>
    obtain rfl : n = 0 := Nat.le_zero.mp hn
    rfl
  | cons b l ih =>
    cases n with
    | succ n => exact ih n (Nat.le_of_succ_le_succ hn)
    | zero =>
      by_cases hb : b = Config.sof
      · subst hb
        by_cases h4 : l.length < 4
        · rw [scanBytes_short h4]; rfl
        have h4 : 4 ≤ l.length := Nat.not_lt.mp h4
        have h4m : 4 ≤ (l ++ m).length := by rw [List.length_append]; omega
        have hget (k : Nat) (hk : k < l.length) : byteAt (l ++ m) k = byteAt l k := by
          simp [byteAt, List.getD_eq_getElem?_getD, List.getElem?_append_left, hk]
        have hlenEq : le2At (l ++ m) 0 = le2At l 0 := by
          simp only [le2At, hget 0 (by omega), hget (0 + 1) (by omega)]
        rw [List.cons_append]
        by_cases hbad : 2048 < le2At l 0
        · rw [scanBytes_badLength h4m (hlenEq ▸ hbad), scanBytes_badLength h4 hbad, ih 0 (Nat.zero_le _)]
          rfl
        have hlen : le2At l 0 ≤ 2048 := Nat.not_lt.mp hbad
        by_cases hshort : l.length < le2At l 0 + 6
        · rw [scanBytes_body h4 hlen hshort]; rfl
        have hlong : le2At l 0 + 6 ≤ l.length := Nat.not_lt.mp hshort
        have hlongm : le2At (l ++ m) 0 + 6 ≤ (l ++ m).length := by rw [hlenEq, List.length_append]; omega
        have htake : (l ++ m).take (le2At l 0 + 4) = l.take (le2At l 0 + 4) := List.take_append_of_le_length (by omega)
        have hcheck : le2At (l ++ m) (le2At l 0 + 4) = le2At l (le2At l 0 + 4) := by
          simp only [le2At] at hlong ⊢
          rw [hget _ (by omega), hget _ (by omega)]
        by_cases hcrc : crc16 0xFFFF (l.take (le2At l 0 + 4)) = le2At l (le2At l 0 + 4)
        · have hpayload : ((l ++ m).drop 4).take (le2At l 0) = (l.drop 4).take (le2At l 0) := by
            rw [List.drop_append_of_le_length h4, List.take_append_of_le_length (by rw [List.length_drop]; omega)]
          have hkind (k : Nat) (hk : k < l.length) : (l ++ m).getD k 0 = l.getD k 0 := by
            simp [List.getD_eq_getElem?_getD, List.getElem?_append_left, hk]
          rw [scanBytes_frame (hlenEq ▸ hlen) hlongm (by rw [hlenEq, htake, hcheck, hcrc]), scanBytes_frame hlen hlong hcrc,
            hlenEq, hpayload, hkind 2 (by omega), hkind 3 (by omega), ← scanBytes_skip, ih _ hlong, scanBytes_skip l]
          rfl
        · rw [scanBytes_badCheck (hlenEq ▸ hlen) hlongm (by rw [hlenEq, htake, hcheck]; exact hcrc),
            scanBytes_badCheck hlen hlong hcrc, ih 0 (Nat.zero_le _)]
          rfl
      · rw [List.cons_append, scanBytes_noSof hb, scanBytes_noSof hb, ih 0 (Nat.zero_le _)]

/-! ### The receiver's bytes and what it takes -/

/-- The state with other bytes held by the receiver. -/
def State.holding (s : State) (bytes : List Byte) : State := s.setLink { s.link with received := bytes }

theorem State.holding_received (s : State) : s.holding s.link.received = s := rfl

@[simp] theorem State.holding_holding (s : State) (a b : List Byte) : (s.holding a).holding b = s.holding b := rfl

theorem State.takeReceived_holding (s : State) (bytes after : List Byte) (x : Received) :
    ((s.holding bytes).takeReceived x).holding after = (s.takeReceived x).holding after := by
  cases x <;> rfl

theorem State.foldl_takeReceived_holding (l : List Received) (s : State) (bytes after : List Byte) :
    (l.foldl State.takeReceived (s.holding bytes)).holding after = (l.foldl State.takeReceived s).holding after := by
  induction l generalizing s bytes with
  | nil => rfl
  | cons x l ih =>
    rw [List.foldl_cons, List.foldl_cons, ← ih (s.takeReceived x) [], ← s.takeReceived_holding bytes [] x, ih]

theorem State.takeBytes_eq (s : State) (bytes : List Byte) :
    s.takeBytes bytes = ((scanBytes (s.link.received ++ bytes) 0).1.foldl State.takeReceived s).holding
      (scanBytes (s.link.received ++ bytes) 0).2 := rfl

/-- Bytes that come in pieces (R159). -/
theorem State.takeBytes_takeBytes (s : State) (bytes more : List Byte) :
    (s.takeBytes bytes).takeBytes more = s.takeBytes (bytes ++ more) := by
  have happend := scanBytes_append (s.link.received ++ bytes) more 0 (Nat.zero_le _)
  rw [List.append_assoc] at happend
  rw [s.takeBytes_eq (bytes ++ more), happend, List.foldl_append, ← State.foldl_takeReceived_holding _ _
    (scanBytes (s.link.received ++ bytes) 0).2, ← s.takeBytes_eq bytes]
  rfl

theorem State.takeBytes_of_hunt {s : State} (h : s.link.received = []) (bytes : List Byte) :
    s.takeBytes bytes = ((scanBytes bytes 0).1.foldl State.takeReceived s).holding (scanBytes bytes 0).2 := by
  rw [s.takeBytes_eq, h, List.nil_append]

/-- The state after a frame was abandoned, with nothing held. -/
def State.counted (s : State) : State :=
  s.setLink { s.link with received := [], linkErrors := min 65535 (s.link.linkErrors + 1) }

/-- An abandoned frame is counted, and what follows its SOF is examined again. -/
theorem State.takeBytes_abandoned {s : State} (h : s.link.received = []) {bytes more : List Byte}
    (hscan : scanBytes bytes 0 = (.abandoned :: (scanBytes more 0).1, (scanBytes more 0).2)) :
    s.takeBytes bytes = s.counted.takeBytes more := by
  rw [State.takeBytes_of_hunt h, State.takeBytes_of_hunt (s := s.counted) rfl, hscan, List.foldl_cons,
    show s.counted = (s.takeReceived .abandoned).holding [] from rfl, State.foldl_takeReceived_holding]

theorem State.takeBytes_passed {s : State} (h : s.link.received = []) {bytes : List Byte} (hb : Config.sof ∉ bytes) :
    s.takeBytes bytes = s := by
  rw [State.takeBytes_of_hunt h, scanBytes_passed hb]
  exact h ▸ s.holding_received

/-- Settles O32: the receiver over each kind of bytes; and over bytes in two pieces, by what the receiver finds in each. -/
theorem bytesReceived : Obligations.BytesReceived := by
  refine ⟨fun s hs => ?_, fun s bytes more => ⟨_, rfl, congrArg _ (s.takeBytes_takeBytes bytes more)⟩⟩
  intro counted
  have hpassed : ∀ {bytes : List Byte}, Config.sof ∉ bytes → counted.takeBytes bytes = counted :=
    fun hb => State.takeBytes_passed (s := counted) rfl hb
  have hlong {lo hi kind tag : Byte} {more : List Byte} (hlen : 2048 < lo.toNat + 256 * hi.toNat) :
      s.takeBytes (0xB7 :: lo :: hi :: kind :: tag :: more) = counted.takeBytes (lo :: hi :: kind :: tag :: more) :=
    State.takeBytes_abandoned hs (scanBytes_badLength (by simp) hlen)
  have hcheck {body more : List Byte} {c : Nat} (hlen4 : 4 ≤ body.length) (heq : le2At body 0 + 4 = body.length)
      (hle : le2At body 0 ≤ 2048) (hc : c < 65536) (hne : c ≠ crc16 0xFFFF body) :
      s.takeBytes (0xB7 :: (body ++ le2 c ++ more)) = counted.takeBytes (body ++ le2 c ++ more) :=
    State.takeBytes_abandoned hs ((scanBytes_checked ⟨rfl, heq.symm⟩ hle hc).trans (if_neg hne.symm))
  refine ⟨fun bytes hb => congrArg _ (State.takeBytes_passed hs hb), fun kind tag payload hlen => ⟨_, rfl, ?_⟩,
    fun lo hi kind tag hlen hb => congrArg _ ((hlong hlen).trans (hpassed hb)), fun body c h4 heq hle hc hne hb => ?_,
    fun bytes hlen => ?_, fun b more hb => ?_, fun lo hi kind tag more hlen => congrArg _ (hlong hlen),
    fun body more c h4 heq hle hc hne => congrArg _ (hcheck h4 heq hle hc hne)⟩
  · have hscan := receiverFindsFrame { kind := kind, tag := tag, payload := payload } [] hlen
    rw [List.append_nil] at hscan
    rw [State.takeBytes_of_hunt hs, hscan]
    rfl
  · have hnone := hcheck (more := []) h4 heq hle hc hne
    rw [List.append_nil] at hnone
    exact congrArg _ (hnone.trans (hpassed hb))
  · refine congrArg _ ((State.takeBytes_of_hunt hs _).trans ?_)
    rw [show (0xB7 : Byte) = Config.sof from rfl, scanBytes_short hlen]
    rfl
  · change Host.Outcome.next (s.takeBytes (b :: more)) = Host.Outcome.next (s.takeBytes more)
    rw [State.takeBytes_of_hunt hs, State.takeBytes_of_hunt hs, scanBytes_noSof hb]

/-! ## Acceptance (R160) -/

/-- The request kinds with the least and the greatest payload length of each (section 9.7). -/
def requestTable : List (Byte × Nat × Nat) :=
  [(0x01, 0, 0), (0x02, 1, 1), (0x03, 0, 0), (0x10, 1, 2048), (0x11, 1, 1), (0x12, 1, 1), (0x20, 7, 7), (0x21, 1, 1),
   (0x22, 6, 6), (0x23, 5, 5), (0x24, 3, 3), (0x30, 1, 1), (0x31, 1, 1), (0x32, 1, 1), (0x33, 4, 4), (0x34, 3, 3),
   (0x38, 1, 1), (0x40, 6, 6)]

theorem requestLengths_eq_some {kind : Byte} {lengths : Nat × Nat} :
    requestLengths kind = some lengths ↔ (kind, lengths) ∈ requestTable := by
  have hlisted : ∀ e ∈ requestTable, requestLengths e.1 = some e.2 := by decide
  have hall : ∀ k : Byte, (requestLengths k).all (fun x => decide ((k, x) ∈ requestTable)) = true := by decide +kernel
  constructor
  · intro h
    have := hall kind
    rw [h] at this
    exact of_decide_eq_true this
  · exact hlisted (kind, lengths)

theorem requestLengths_eq_none {kind : Byte} : requestLengths kind = none ↔ ∀ least most, (kind, least, most) ∉ requestTable := by
  simp only [← requestLengths_eq_some]
  rcases requestLengths kind with _ | ⟨least, most⟩
  · simp
  · exact ⟨nofun, fun h => absurd rfl (h least most)⟩

section
variable {s : State} {kind tag : Byte} {payload : List Byte} {serve : State → Nat → State}

/-- What R160 answers to a frame that it does not accept. -/
def State.refused (s : State) (kind tag : Byte) (st : Status) : State :=
  s.setLink (Link.refuse { s.link with received := [] } s.fetching kind tag st)

theorem State.refused_eq (s : State) (k t : Byte) (st : Status) :
    s.refused k t st = if s.link.requests.length < 32 - s.link.outbound.length then
        s.setLink (Link.reportRoom { s.link with
          received := [], outbound := s.link.outbound ++ [{ kind := k, tag := t, payload := b1 (statusCode st) }] }
          s.fetching)
      else s.setLink { s.link with received := [], linkErrors := min 65535 (s.link.linkErrors + 1) } := by
  unfold State.refused Link.refuse
  exact apply_ite s.setLink _ _ _

theorem State.withRequest_none {l : Link}
    (h : s.link.takeFrame s.selfTest.partFailed s.fetching kind tag payload = (l, none)) :
    s.withRequest kind tag payload serve = s.setLink l := by
  simp only [State.withRequest, h]

theorem State.withRequest_restarting (h : s.link.restart ≠ .idle) :
    s.withRequest kind tag payload serve = s.setLink { s.link with received := [] } :=
  State.withRequest_none (by simp [Link.takeFrame, h])

theorem State.withRequest_unknownKind (h : s.link.restart = .idle) (hk : requestLengths kind = none) :
    s.withRequest kind tag payload serve = s.refused 0xFF tag .unknownKind :=
  State.withRequest_none (by simp [Link.takeFrame, h, hk])

variable {least most : Nat}

theorem State.withRequest_badLength (h : s.link.restart = .idle) (hk : requestLengths kind = some (least, most))
    (hlen : payload.length < least ∨ most < payload.length) :
    s.withRequest kind tag payload serve = s.refused (kind + 0x80) tag .badLength :=
  State.withRequest_none (by simp [Link.takeFrame, h, hk, hlen])

theorem State.withRequest_partFailed (h : s.link.restart = .idle) (hk : requestLengths kind = some (least, most))
    (hlen : least ≤ payload.length ∧ payload.length ≤ most)
    (hf : s.selfTest.partFailed = true ∧ kind ≠ 0x01 ∧ kind ≠ 0x03) :
    s.withRequest kind tag payload serve = s.refused (kind + 0x80) tag .partFailed := by
  have hlength : ¬ (payload.length < least ∨ most < payload.length) := by omega
  refine State.withRequest_none ?_
  simp only [Link.takeFrame, h, hk, ne_eq, not_true_eq_false, if_false, hlength, hf, not_false_eq_true, and_self, if_true]

theorem State.withRequest_queueFull (h : s.link.restart = .idle) (hk : requestLengths kind = some (least, most))
    (hlen : least ≤ payload.length ∧ payload.length ≤ most)
    (hf : s.selfTest.partFailed = false ∨ kind = 0x01 ∨ kind = 0x03)
    (hfull : 8 ≤ s.link.requests.length ∨ 32 - s.link.outbound.length ≤ s.link.requests.length) :
    s.withRequest kind tag payload serve = s.refused (kind + 0x80) tag .queueFull := by
  refine State.withRequest_none ?_
  have hserves : ¬ (s.selfTest.partFailed = true ∧ kind ≠ 0x01 ∧ kind ≠ 0x03) := by
    rcases hf with hf | hf | hf <;> simp [hf]
  have hroom : ¬ (s.link.requests.length < 8 ∧ s.link.requests.length < 32 - s.link.outbound.length) := by omega
  have hlength : ¬ (payload.length < least ∨ most < payload.length) := by omega
  simp only [ne_eq] at hserves
  simp only [Link.takeFrame, h, hk, ne_eq, not_true_eq_false, if_false, hlength, hserves, Link.unanswered, Link.free,
    Config.maxUnanswered, Config.outboundSize, hroom]

end

theorem Accepts.of_tests {s : State} {kind : Byte} {payload : List Byte} {least most : Nat} (h : s.link.restart = .idle)
    (hk : requestLengths kind = some (least, most)) (hlen : least ≤ payload.length ∧ payload.length ≤ most)
    (hf : s.selfTest.partFailed = false ∨ kind = 0x01 ∨ kind = 0x03) (hfew : s.link.requests.length < 8)
    (hroom : s.link.requests.length < 32 - s.link.outbound.length) : Accepts s kind payload :=
  ⟨h, ⟨least, most, hk, hlen⟩, hf, hfew, by omega⟩

/-- Settles O31: the tests of R160 in their order, over the table of section 9.7. -/
theorem acceptanceTests : Obligations.AcceptanceTests := by
  intro s kind tag payload serve refused
  have hrefused (k : Byte) (st : Status) : s.refused k tag st = refused k st := s.refused_eq k tag st
  refine ⟨State.withRequest_restarting, fun h => ⟨fun hnone => ?_, fun least most hmem => ?_⟩, fun h => ?_⟩
  · have hk := requestLengths_eq_none.mpr hnone
    rw [← hrefused]
    exact ⟨State.withRequest_unknownKind h hk, congrArg _ (State.withRequest_unknownKind h hk)⟩
  · have hk : requestLengths kind = some (least, most) := requestLengths_eq_some.mpr hmem
    refine ⟨fun hlen => ?_, fun hle hge => ⟨fun hf => ?_, fun hf hfull => ?_, fun hf hfew hroom => ?_⟩⟩
    · rw [← hrefused]; exact State.withRequest_badLength h hk hlen
    · rw [← hrefused]; exact State.withRequest_partFailed h hk ⟨hle, hge⟩ hf
    · rw [← hrefused]; exact State.withRequest_queueFull h hk ⟨hle, hge⟩ hf hfull
    · have hacc := Accepts.of_tests h hk ⟨hle, hge⟩ hf hfew hroom
      exact ⟨hacc, State.withRequest_accepted hacc⟩
  · obtain ⟨least, most, hk, hlen⟩ := h.length
    have hroom := h.room
    exact ⟨h.idle, ⟨least, most, requestLengths_eq_some.mp hk, hlen⟩, h.serves, h.few, by omega⟩

/-! ## Room (R162, R163) -/

theorem Link.noticeRoom_iff {l : Link} :
    l.noticeRoom = true ↔ l.outbound.length + 1 + l.requests.length + 4 ≤ 32 := by
  rw [Link.noticeRoom, decide_eq_true_eq]
  simp only [Link.unanswered, Config.noticeReserve, Config.outboundSize]
  omega

theorem Link.offerFrom_cons_empty {l : Link} {ch : Chan} (chs : List Chan) (h : qget l.pendingSets ch = .empty) :
    l.offerFrom (ch :: chs) = l.offerFrom chs := by
  rw [Link.offerFrom, if_pos h]

theorem Link.offerFrom_cons_room {l : Link} {ch : Chan} (chs : List Chan) (h : qget l.pendingSets ch ≠ .empty)
    (hroom : l.outbound.length + 1 + l.requests.length + 4 ≤ 32) :
    l.offerFrom (ch :: chs) = Link.offerFrom { l with
      outbound := l.outbound ++ [summaryFrame ch (qget l.pendingSets ch)]
      pendingSets := qset l.pendingSets ch .empty } chs := by
  rw [Link.offerFrom, if_neg h, if_pos (Link.noticeRoom_iff.mpr hroom)]
  rfl

theorem Link.offerFrom_cons_full {l : Link} {ch : Chan} (chs : List Chan) (h : qget l.pendingSets ch ≠ .empty)
    (hroom : 32 < l.outbound.length + 1 + l.requests.length + 4) : l.offerFrom (ch :: chs) = l := by
  rw [Link.offerFrom, if_neg h, if_neg (Link.noticeRoom_iff.not.mpr (Nat.not_le.mpr hroom))]

/-- With a RESTART taken a report of room changes nothing (R168). -/
theorem Link.reportRoom_restarting {l : Link} (h : l.restart ≠ .idle) (b : Bool) : l.reportRoom b = l := by
  simp [Link.reportRoom, Link.summaryWaits, Link.offerSummaries, h]

theorem mem_allChans (ch : Chan) : ch ∈ allChans := by
  match ch with
  | 0 | 1 | 2 | 3 => simp [allChans]

theorem Link.summaryWaits_iff {l : Link} (hr : l.restart = .idle) (he : l.enumerated = true) :
    l.summaryWaits = true ↔ ∃ ch, qget l.pendingSets ch ≠ .empty := by
  simp [Link.summaryWaits, hr, he, mem_allChans]

theorem Link.offerSummaries_of_idle {l : Link} (hr : l.restart = .idle) (he : l.enumerated = true) :
    l.offerSummaries = l.offerFrom allChans := if_pos ⟨hr, he⟩

theorem State.fetching_iff {s : State} : s.fetching = true ↔ s.fetches ≠ [] := by
  simp [State.fetching]

/-- Settles O35: the entry leaves, room is reported, and the notices are offered in channel order. -/
theorem entryLeftReportsRoom : Obligations.EntryLeftReportsRoom := by
  refine ⟨fun s f rest he hr hq => ?_, fun _ => rfl, fun l ch chs h => Link.offerFrom_cons_empty chs h,
    fun l ch chs h => ⟨Link.offerFrom_cons_room chs h, Link.offerFrom_cons_full chs h⟩⟩
  intro left meeting
  have hleft : s.link.entryLeft s.fetching = left.reportRoom s.fetching := by
    simp [Link.entryLeft, he, hr, hq, Link.isRestartReply, left]
  have hmeeting : (s.fetching && left.summaryWaits) = true ↔ meeting := by
    rw [Bool.and_eq_true, State.fetching_iff, Link.summaryWaits_iff (l := left) hr he]
  refine ⟨fun hno => congrArg (fun l => Host.Outcome.next (s.setLink l)) ?_,
    fun hyes => congrArg (fun l => Host.Outcome.next (s.setLink l)) ?_⟩
  · rw [hleft, Link.reportRoom, if_neg (hmeeting.not.mpr hno), Link.offerSummaries_of_idle (l := left) hr he]
  · rw [hleft, Link.reportRoom, if_pos (hmeeting.mpr hyes)]
    dsimp only
    rw [Link.offerSummaries_of_idle (l := { left with meetings := left.meetings + 1 }) hr he]

/-! ## Enumeration (R164) -/

/-- Every SUMMARY notice of the channels listed finds room. -/
theorem Link.offerFrom_all (chs : List Chan) (hchs : chs.Nodup) (l : Link)
    (hroom : l.outbound.length + chs.length + l.requests.length + 4 ≤ 32) :
    l.offerFrom chs = { l with
      outbound := l.outbound ++ (chs.filter (fun ch => decide (qget l.pendingSets ch ≠ .empty))).map
        (fun ch => summaryFrame ch (qget l.pendingSets ch))
      pendingSets := chs.foldl (fun q ch => qset q ch .empty) l.pendingSets } := by
  induction chs generalizing l with
  | nil => simp [Link.offerFrom]
  | cons ch chs ih =>
    obtain ⟨hnot, hchs⟩ := List.nodup_cons.mp hchs
    rw [List.length_cons] at hroom
    by_cases h : qget l.pendingSets ch = .empty
    · have hset : qset l.pendingSets ch .empty = l.pendingSets := h ▸ qset_qget _ _
      rw [Link.offerFrom_cons_empty chs h, ih hchs l (by omega), List.filter_cons_of_neg (by simp [h]), List.foldl_cons, hset]
    · have hother : ∀ k ∈ chs, qget (qset l.pendingSets ch .empty) k = qget l.pendingSets k :=
        fun k hk => qget_qset_ne _ _ _ _ fun he => hnot (he ▸ hk)
      rw [Link.offerFrom_cons_room chs h (by omega), ih hchs _ (by simp; omega), List.filter_cons_of_pos (by simp [h])]
      simp only [List.map_cons, List.append_assoc, List.singleton_append, List.foldl_cons]
      rw [List.filter_congr (q := fun k => decide (qget l.pendingSets k ≠ .empty)) fun k hk => by simp only [hother k hk]]
      rw [List.map_congr_left fun k hk => by rw [hother k (List.mem_filter.mp hk).1]]

/-- Settles O30: HELLO goes first into the empty queue, and the SUMMARY notices of four channels find room behind it. -/
theorem enumerationSendsHello : Obligations.EnumerationSendsHello := by
  intro s hr hreq hout
  have hlen (n : Nat) : (le2 n).length = 2 := rfl
  have hlen1 (n : Nat) : (b1 n).length = 1 := rfl
  have hyes (b : Bool) : (yesNo b).length = 1 := by cases b <;> rfl
  refine ⟨{ kind := 0x60, tag := 0, payload := helloPayload s }, rfl, rfl, ?_, rfl, ?_⟩
  · simp only [helloPayload, List.length_append, hlen, hlen1, hyes]
  · refine congrArg Host.Outcome.next ?_
    have hoffer := Link.offerFrom_all allChans (by decide) { s.link with
      enumerated := true, outbound := { kind := 0x60, tag := 0, payload := helloPayload s } :: s.link.outbound }
      (by simp [hreq, hout, allChans])
    have hroom : Link.unanswered { s.link with enumerated := true } < Link.free { s.link with enumerated := true } := by
      simp [Link.unanswered, Link.free, Config.outboundSize, hreq, hout]
    rw [State.enumerate, if_neg (by rw [hr]; nofun)]
    dsimp only
    rw [if_pos hroom, Link.offerSummaries_of_idle (by exact hr) rfl, hoffer, hout]
    rfl

/-! ## RESTART (R168) -/

/-- A frame's notice after RESTART is discarded. -/
theorem State.notify_restarting {s : State} (h : s.link.restart ≠ .idle) (ch : Chan) (k : NoticeKind) (p : List Byte) :
    s.notify ch k p = s := by
  have hlink : s.link.notify s.selfTest.partFailed ch k p = s.link := if_pos (.inr h)
  rw [State.notify, hlink]
  rfl

theorem State.offerFrame_restarting {s : State} (h : s.link.restart ≠ .idle) : s.offerFrame = s := by
  unfold State.offerFrame
  split
  · rfl
  · rw [if_pos h]

/-- A reply after RESTART is enqueued, and no room is reported. -/
theorem State.reply_restarting {s : State} {id : Nat} {r : RequestEntry} (h : s.link.restart ≠ .idle)
    (hr : s.link.requests.find? (fun x => x.id == id) = some r) (st : Status) (fields : List Byte) :
    s.reply id st fields = s.setLink { s.link with
      requests := s.link.requests.eraseP (fun x => x.id == id)
      outbound := s.link.outbound ++ [{ kind := r.kind + 0x80, tag := r.tag, payload := b1 (statusCode st) ++ fields }] } := by
  unfold State.reply Link.reply
  simp only [hr]
  rw [Link.reportRoom_restarting (by exact h)]
  rfl

theorem Link.entryLeft_due {l : Link} (h : l.restart = .due) (b : Bool) : l.entryLeft b = l := if_pos (.inr h)

/-- After RESTART an entry that is not its reply leaves, and nothing else happens. -/
theorem Link.entryLeft_restarting {l : Link} {f : OutFrame} {rest : List OutFrame} (he : l.enumerated = true)
    (hr : l.restart = .replyQueued) (hq : l.outbound = f :: rest) (hf : f.kind ≠ 0x83 ∨ f.payload ≠ b1 (statusCode .ok))
    (b : Bool) : l.entryLeft b = { l with outbound := rest } := by
  have hnot : ¬ l.isRestartReply f = true := by
    simp only [Link.isRestartReply, Bool.and_eq_true, decide_eq_true_eq]
    exact fun h => hf.elim (fun hk => hk h.1.2) fun hp => hp h.2
  rw [Link.entryLeft, if_neg (by simp [he, hr]), hq]
  dsimp only
  rw [if_neg hnot, Link.reportRoom_restarting (by simp [hr])]

/-- The RESTART reply leaves, and the restart is due. -/
theorem Link.entryLeft_restartReply {l : Link} {tag : Byte} {rest : List OutFrame} (he : l.enumerated = true)
    (hr : l.restart = .replyQueued) (hq : l.outbound = replyFrame 0x03 tag .ok [] :: rest) (b : Bool) :
    l.entryLeft b = { l with outbound := rest, restart := .due } := by
  have hyes : l.isRestartReply (replyFrame 0x03 tag .ok []) = true := by
    simp [Link.isRestartReply, hr, replyFrame]
  rw [Link.entryLeft, if_neg (by simp [he, hr]), hq]
  exact if_pos hyes

/-- Settles O34: the reply stands last in the queue; what stood before it leaves first, then the reply, and the restart is due. -/
theorem restartTaken : Obligations.RestartTaken := by
  intro s tag hfresh hacc
  have ht : exec (.restart tag []) s = .next (s.setLink { s.link with
      received := [], nextId := s.link.nextId + 1, restart := .replyQueued
      outbound := s.link.outbound ++ [replyFrame 0x03 tag .ok []] }) := by
    refine congrArg Host.Outcome.next ((State.withRequest_accepted hacc).trans ?_)
    have hfind := find_fresh (r := { id := s.link.nextId, kind := 0x03, tag := tag }) hfresh rfl
    have herase := erase_fresh (r := { id := s.link.nextId, kind := 0x03, tag := tag }) hfresh rfl
    have hreply := State.reply_restarting (s := s.setLink { s.link.accepted 0x03 tag with restart := .replyQueued })
      (by simp) hfind .ok []
    rw [show (s.setLink { s.link.accepted 0x03 tag with restart := .replyQueued }).link.requests =
      s.link.requests ++ [{ id := s.link.nextId, kind := 0x03, tag := tag }] from rfl, herase] at hreply
    exact hreply
  refine ⟨_, ht, rfl, State.notify_restarting (by simp), congrArg _ (State.offerFrame_restarting (by simp)),
    fun kind tag' payload => congrArg _ (State.withRequest_restarting (by simp)),
    fun u id st fields r hu hr => State.reply_restarting (by simp [hu]) hr st fields, fun he hothers behind => ?_,
    ⟨_, rfl, rfl, rfl⟩⟩
  intro queued due
  have hleft (gone : Nat) (hgone : gone < s.link.outbound.length) :
      (s.link.outbound ++ [replyFrame 0x03 tag .ok []]).drop gone ++ behind =
        s.link.outbound[gone] :: ((s.link.outbound ++ [replyFrame 0x03 tag .ok []]).drop (gone + 1) ++ behind) := by
    rw [List.drop_eq_getElem_cons (by simp; omega), List.getElem_append_left hgone, List.cons_append]
  have hlast : (s.link.outbound ++ [replyFrame 0x03 tag .ok []]).drop s.link.outbound.length ++ behind =
      replyFrame 0x03 tag .ok [] :: behind := by rw [List.drop_left]; rfl
  refine ⟨fun gone hgone => ?_, ?_, ?_⟩
  · exact congrArg (fun l => Host.Outcome.next ((queued gone).setLink l)) (Link.entryLeft_restarting (l := (queued gone).link)
      he rfl (hleft gone hgone) (hothers _ (List.getElem_mem hgone)) _)
  · exact congrArg (fun l => Host.Outcome.next ((queued s.link.outbound.length).setLink l))
      (Link.entryLeft_restartReply (l := (queued s.link.outbound.length).link) he rfl hlast _)
  · exact congrArg (fun l => Host.Outcome.next (due.setLink l)) (Link.entryLeft_due (l := due.link) rfl _)

end Sys2Proof.Machine
end

/-! # Profile images: validation, held form, round trip (R13 to R18, R170) -/

section
/-! SUPPORT. The eleven validation steps in the terms of the layout, the image put together again, and PROFILE_LOAD. -/

namespace Sys2Proof.Machine

/-! ## The held form (R17) -/

theorem clampTo_eq {n least most : Nat} (h : least ≤ most) :
    clampTo n least most = if n < least then least else if most < n then most else n := by
  unfold clampTo
  split_ifs <;> omega

theorem clampTo_ne_iff {n least most : Nat} (h : least ≤ most) :
    decide (clampTo n least most ≠ n) = true ↔ n < least ∨ most < n := by
  rw [decide_eq_true_iff]
  unfold clampTo
  omega

theorem clampTo_clampTo {n least most : Nat} (h : least ≤ most) :
    clampTo (clampTo n least most) least most = clampTo n least most := by
  unfold clampTo
  omega

/-- A budget that 0 stands for is held as another. -/
theorem budget_ne_zero {n most : Nat} (h : most ≠ 0) : (if n = 0 then most else n) ≠ 0 := by
  split_ifs with hn
  · exact h
  · exact hn

theorem heldForm_heldForm (p : Profile) : heldForm (heldForm p) = heldForm p := by
  have hpass : (heldForm p).trackPassBudget ≠ 0 := budget_ne_zero (by decide)
  have hwear : (heldForm p).wearBudget ≠ 0 := budget_ne_zero (by decide)
  rw [heldForm, if_neg hpass, if_neg hwear]
  simp only [heldForm, clampTo_clampTo (show 1 ≤ 16 by decide), clampTo_clampTo (show 1 ≤ 63 by decide),
    clampTo_clampTo (show 100 ≤ 1000 by decide), clampTo_clampTo (show 2 ≤ 20 by decide),
    clampTo_clampTo (show 5 ≤ 50 by decide), clampTo_clampTo (show 150 ≤ 600 by decide),
    clampTo_clampTo (show 1 ≤ 600 by decide), clampTo_clampTo (show 1 ≤ 7 by decide)]

/-- The held form clamps nothing. -/
theorem clampedSet_heldForm (p : Profile) : clampedSetByte (clampedSet (heldForm p)) = 0 := by
  simp [clampedSet, heldForm, clampTo_clampTo, clampedSetByte, flagBit]

/-- Settles O14: a clamped value is the nearest limit; what is held is in its range. -/
theorem heldFormStable : Obligations.HeldFormStable := by
  refine fun p => ⟨?_, clampTo_ne_iff (by decide), clampTo_ne_iff (by decide), clampTo_ne_iff (by decide),
    clampTo_ne_iff (by decide), clampTo_ne_iff (by decide), clampTo_ne_iff (by decide), clampTo_ne_iff (by decide),
    clampTo_ne_iff (by decide), heldForm_heldForm p, clampedSet_heldForm p⟩
  simp only [heldForm, clampTo_eq (show 1 ≤ 16 by decide), clampTo_eq (show 1 ≤ 63 by decide),
    clampTo_eq (show 100 ≤ 1000 by decide), clampTo_eq (show 2 ≤ 20 by decide), clampTo_eq (show 5 ≤ 50 by decide),
    clampTo_eq (show 150 ≤ 600 by decide), clampTo_eq (show 1 ≤ 600 by decide), clampTo_eq (show 1 ≤ 7 by decide)]

/-! ## The validation steps (R13 to R16) -/

section
variable {img : List Byte}

/-- The bytes of an image that code an item in range. -/
structure ImageCodes (img : List Byte) : Prop where
  medium : byteAt img 21 ≤ 2
  encoding : byteAt img 22 ≤ 2
  yes : ∀ n ∈ [71, 90, 58, 93, 97, 98, 61, 64, 67], byteAt img n ≤ 1

/-- A byte as the layout's steps read it. -/
theorem mediumOf_eq_iff {n : Nat} (h : n ≤ 2) :
    (mediumOf n = .floppySoft ↔ n = 0) ∧ (mediumOf n = .floppyHard ↔ n = 1) ∧ (mediumOf n = .cartridge ↔ n = 2) := by
  match n with
  | 0 | 1 | 2 => decide

theorem encodingOf_eq_gcr {n : Nat} : encodingOf n = .gcr ↔ n = 2 := by
  unfold encodingOf
  split <;> simp_all

theorem signatureOk_iff : signatureOk img = true ↔ ValidationStep img 1 := decide_eq_true_iff

theorem versionOk_iff : versionOk img = true ↔ ValidationStep img 2 := by
  simp [versionOk, ValidationStep, byteAt]

theorem lengthOk_iff : lengthOk img = true ↔ ValidationStep img 3 := by
  simp only [lengthOk, Bool.and_eq_true, decide_eq_true_eq, beq_iff_eq]
  change (7 ≤ img.length ∧ le2At img 5 = 99) ∧ img.length = 99 ↔ img.length = 99 ∧ le2At img 5 = 99
  omega

theorem checkOkOf_iff (hlen : img.length = 99) : checkOkOf img = true ↔ ValidationStep img 4 := by
  simp only [checkOkOf, Bool.and_eq_true, decide_eq_true_eq, beq_iff_eq]
  change _ ↔ crc16 0xFFFF (img.take 19 ++ img.drop 21) = le2At img 19
  exact and_iff_right (by omega)

theorem mediumOk_iff : mediumOk img = true ↔ ValidationStep img 5 := by
  change _ ↔ byteAt img 21 ≤ 2 ∧ byteAt img 22 ≤ 2 ∧ (∀ n ∈ [71, 90, 58, 93, 97, 98, 61, 64, 67], byteAt img n ≤ 1) ∧
    (byteAt img 98 = 1 → byteAt img 21 = 2)
  simp only [mediumOk, Bool.and_eq_true, within_iff, Nat.zero_le, true_and, Bool.or_eq_true, beq_iff_eq, List.mem_cons,
    List.not_mem_nil, or_false, forall_eq_or_imp, forall_eq]
  constructor
  · rintro ⟨⟨⟨⟨⟨⟨⟨⟨⟨⟨⟨_, _⟩, _⟩, _⟩, _⟩, _⟩, _⟩, _⟩, _⟩, _⟩, _⟩, _⟩
    omega
  · rintro ⟨_, _, ⟨_, _, _, _, _, _, _, _, _⟩, _⟩
    omega

theorem ImageCodes.of_step (h : ValidationStep img 5) : ImageCodes img := ⟨h.1, h.2.1, h.2.2.1⟩

/-- Step 6 for any profile: the match on the medium as what each medium asks. -/
theorem geometryOk_profile {p : Profile} : geometryOk p = true ↔
    (320 ≤ p.cellPeriod ∧ p.cellPeriod ≤ 8000) ∧ (1 ≤ p.cylinders ∧ p.cylinders ≤ 255) ∧ (1 ≤ p.heads ∧ p.heads ≤ 2) ∧
      (p.medium = .cartridge → p.heads = 1) ∧ trackCountOf p ≤ 512 ∧ (1 ≤ p.sectors ∧ p.sectors ≤ 1024) ∧
      trackCountOf p * p.sectors ≤ Config.recordCount ∧
      (p.medium = .floppyHard → (1 ≤ p.sectorPulses ∧ p.sectorPulses ≤ 32) ∧ p.sectorPulses = p.sectors) ∧
      (p.medium ≠ .floppyHard → p.sectorPulses = 0) := by
  cases hm : p.medium <;> simp [geometryOk, hm, within_iff, and_assoc]

theorem geometryOk_iff (hc : ImageCodes img) : geometryOk (profileOfImage img) = true ↔ ValidationStep img 6 := by
  have hcylinders := byteAt_lt img 27
  obtain ⟨-, hhard, hcart⟩ := mediumOf_eq_iff hc.medium
  rw [geometryOk_profile]
  change (320 ≤ le2At img 23 ∧ le2At img 23 ≤ 8000) ∧ (1 ≤ byteAt img 27 ∧ byteAt img 27 ≤ 255) ∧
      (1 ≤ byteAt img 28 ∧ byteAt img 28 ≤ 2) ∧ (mediumOf (byteAt img 21) = .cartridge → byteAt img 28 = 1) ∧
      byteAt img 27 * byteAt img 28 ≤ 512 ∧ (1 ≤ le2At img 29 ∧ le2At img 29 ≤ 1024) ∧
      byteAt img 27 * byteAt img 28 * le2At img 29 ≤ 32768 ∧
      (mediumOf (byteAt img 21) = .floppyHard → (1 ≤ byteAt img 31 ∧ byteAt img 31 ≤ 32) ∧ byteAt img 31 = le2At img 29) ∧
      (mediumOf (byteAt img 21) ≠ .floppyHard → byteAt img 31 = 0) ↔
    320 ≤ le2At img 23 ∧ le2At img 23 ≤ 8000 ∧ 1 ≤ byteAt img 27 ∧ 1 ≤ byteAt img 28 ∧ byteAt img 28 ≤ 2 ∧
      (byteAt img 21 = 2 → byteAt img 28 = 1) ∧
      byteAt img 27 * byteAt img 28 ≤ 512 ∧ 1 ≤ le2At img 29 ∧ le2At img 29 ≤ 1024 ∧
      byteAt img 27 * byteAt img 28 * le2At img 29 ≤ 32768 ∧
      (byteAt img 21 = 1 → 1 ≤ byteAt img 31 ∧ byteAt img 31 ≤ 32 ∧ byteAt img 31 = le2At img 29) ∧
      (byteAt img 21 ≠ 1 → byteAt img 31 = 0)
  rw [ne_eq, hhard, hcart]
  have hle : byteAt img 27 ≤ 255 := by omega
  simp only [hle, and_true, and_assoc, ne_eq]

/-! ### Patterns -/

/-- The four bytes of a pattern side by side. -/
theorem patternAt_eq (k : Nat) :
    patternAt img k = img.getD k 0 ++ img.getD (k + 1) 0 ++ img.getD (k + 2) 0 ++ img.getD (k + 3) 0 := by
  have happend {w : Nat} (x : BitVec w) (b : Byte) : (x ++ b).toNat = x.toNat * 256 + b.toNat := by
    rw [BitVec.toNat_append, ← Nat.shiftLeft_add_eq_or_of_lt b.isLt, Nat.shiftLeft_eq]
  apply BitVec.eq_of_toNat_eq
  have h0 := byteAt_lt img k
  have h1 := byteAt_lt img (k + 1)
  have h2 := byteAt_lt img (k + 2)
  have h3 := byteAt_lt img (k + 3)
  rw [happend, happend, happend, patternAt, BitVec.toNat_ofNat]
  unfold byteAt at *
  omega

/-- A cell of a pattern is a bit of one of its bytes, the first cell the most significant. -/
theorem patternAt_getMsbD {k i : Nat} (hi : i < 32) :
    (patternAt img k).getMsbD i = (img.getD (k + i / 8) 0).getLsbD (7 - i % 8) := by
  have hmsb (b : Byte) (j : Nat) (hj : j < 8) : b.getMsbD j = b.getLsbD (7 - j) := by simp [BitVec.getMsbD, hj]
  rw [patternAt_eq]
  simp only [BitVec.getMsbD_append]
  split_ifs with h3 h2 h1
  · rw [hmsb _ _ (by omega)]; congr 2 <;> omega
  · rw [hmsb _ _ (by omega)]; congr 2 <;> omega
  · rw [hmsb _ _ (by omega)]; congr 2 <;> omega
  · rw [hmsb _ _ (by omega)]; congr 2 <;> omega

theorem patternCells_contains {k n : Nat} (hn : n ≤ 32) :
    (patternCells (patternAt img k) n).contains true = true ↔
      ∃ i, i < n ∧ (img.getD (k + i / 8) 0).getLsbD (7 - i % 8) = true := by
  simp only [patternCells, List.contains_iff_mem, List.mem_map, List.mem_range]
  exact exists_congr fun i => and_congr_right fun hi => by rw [patternAt_getMsbD (by omega)]

theorem syncOk_profile {p : Profile} : syncOk p = true ↔
    (1 ≤ p.syncLength ∧ p.syncLength ≤ 32) ∧ (patternCells p.syncPattern p.syncLength).contains true = true ∧
      (1 ≤ p.syncRepeat ∧ p.syncRepeat ≤ 4) ∧
      (p.medium = .cartridge →
        (1 ≤ p.endLength ∧ p.endLength ≤ 32) ∧ (patternCells p.endPattern p.endLength).contains true = true) ∧
      (p.medium ≠ .cartridge → p.endLength = 0) := by
  cases hm : p.medium <;> simp [syncOk, hm, within_iff, and_assoc]

theorem syncOk_iff (hc : ImageCodes img) : syncOk (profileOfImage img) = true ↔ ValidationStep img 7 := by
  obtain ⟨-, -, hcart⟩ := mediumOf_eq_iff hc.medium
  rw [syncOk_profile]
  change (1 ≤ byteAt img 40 ∧ byteAt img 40 ≤ 32) ∧ (patternCells (patternAt img 41) (byteAt img 40)).contains true = true ∧
      (1 ≤ byteAt img 45 ∧ byteAt img 45 ≤ 4) ∧
      (mediumOf (byteAt img 21) = .cartridge → (1 ≤ byteAt img 46 ∧ byteAt img 46 ≤ 32) ∧
        (patternCells (patternAt img 47) (byteAt img 46)).contains true = true) ∧
      (mediumOf (byteAt img 21) ≠ .cartridge → byteAt img 46 = 0) ↔
    1 ≤ byteAt img 40 ∧ byteAt img 40 ≤ 32 ∧
      (∃ i, i < byteAt img 40 ∧ (img.getD (41 + i / 8) 0).getLsbD (7 - i % 8) = true) ∧
      1 ≤ byteAt img 45 ∧ byteAt img 45 ≤ 4 ∧
      (byteAt img 21 = 2 → 1 ≤ byteAt img 46 ∧ byteAt img 46 ≤ 32 ∧
        ∃ i, i < byteAt img 46 ∧ (img.getD (47 + i / 8) 0).getLsbD (7 - i % 8) = true) ∧
      (byteAt img 21 ≠ 2 → byteAt img 46 = 0)
  rw [ne_eq, hcart, and_assoc]
  refine and_congr_right fun _ => and_congr_right fun hsync => ?_
  rw [patternCells_contains hsync, and_assoc]
  refine and_congr_right fun _ => and_congr_right fun _ => and_congr_right fun _ => and_congr_left fun _ =>
    forall_congr' fun _ => ?_
  rw [and_assoc]
  exact and_congr_right fun _ => and_congr_right fun hend => patternCells_contains hend

theorem marksOk_profile {p : Profile} : marksOk p = true ↔
    p.headerMark.mustOne &&& p.headerMark.mustZero = 0 ∧ p.dataMark.mustOne &&& p.dataMark.mustZero = 0 ∧
      p.deletedMark.mustOne &&& p.deletedMark.mustZero = 0 ∧ p.dataMark.used = true ∧
      (p.medium = .floppySoft → p.headerMark.used = true) ∧ (p.medium = .cartridge → ¬ p.headerMark.used = true) := by
  cases hm : p.medium <;> simp [marksOk, hm, and_assoc]

theorem MarkMask.used_iff {m : MarkMask} : m.used = true ↔ m.mustOne ≠ 0 ∨ m.mustZero ≠ 0 := by
  simp [MarkMask.used]

theorem marksOk_iff (hc : ImageCodes img) : marksOk (profileOfImage img) = true ↔ ValidationStep img 8 := by
  obtain ⟨hsoft, -, hcart⟩ := mediumOf_eq_iff hc.medium
  rw [marksOk_profile]
  change _ ∧ _ ∧ _ ∧ _ ∧ (mediumOf (byteAt img 21) = .floppySoft → _) ∧ (mediumOf (byteAt img 21) = .cartridge → _) ↔ _
  rw [hsoft, hcart, MarkMask.used_iff, MarkMask.used_iff]
  exact .rfl

theorem fieldOk_iff {f : FieldDesc} {n : Nat} : fieldOk f n = true ↔
    f.width ≤ 16 ∧ f.offset ≤ 95 ∧ (f.width ≠ 0 → f.offset + f.width ≤ 8 * n) ∧
      (f.swap = true → 9 ≤ f.width ∧ f.offset + 16 ≤ 8 * n) := by
  by_cases hs : f.swap <;> by_cases hw : f.width = 0 <;> simp [fieldOk, within_iff, hs, hw, and_assoc]
  omega

theorem fieldsOk_profile {p : Profile} : fieldsOk p = true ↔
    p.headerLength ≤ 12 ∧ (p.medium = .floppyHard → (p.headerMark.used = true ↔ 0 < p.headerLength)) ∧
      (p.medium ≠ .floppyHard → 0 < p.headerLength) ∧ (p.headerCheck = true → 0 < p.headerLength) ∧
      (1 ≤ p.dataGapLimit ∧ p.dataGapLimit ≤ 255) ∧ fieldOk p.cylField p.headerLength = true ∧
      fieldOk p.headField p.headerLength = true ∧ fieldOk p.sectorField p.headerLength = true ∧
      (p.medium ≠ .floppyHard → 0 < p.sectorField.width) := by
  have hbool (a b : Bool) : (a == b) = true ↔ (a = true ↔ b = true) := by cases a <;> cases b <;> simp
  by_cases hm : p.medium = .floppyHard
  · simp [fieldsOk, hm, within_iff, and_assoc, hbool, imp_iff_not_or]
  · cases hm' : p.medium <;> simp_all [fieldsOk, within_iff, and_assoc, imp_iff_not_or]

theorem fieldsOk_iff (hc : ImageCodes img) : fieldsOk (profileOfImage img) = true ↔ ValidationStep img 9 := by
  obtain ⟨-, hhard, -⟩ := mediumOf_eq_iff hc.medium
  have hgap := byteAt_lt img 91
  have hcheck : byteAt img 58 ≤ 1 := hc.yes 58 (by simp)
  rw [fieldsOk_profile]
  simp only [fieldOk_iff, MarkMask.used_iff]
  change byteAt img 57 ≤ 12 ∧ (mediumOf (byteAt img 21) = .floppyHard →
        ((img.getD 51 0 ≠ 0 ∨ img.getD 52 0 ≠ 0) ↔ 0 < byteAt img 57)) ∧
      (mediumOf (byteAt img 21) ≠ .floppyHard → 0 < byteAt img 57) ∧
      ((byteAt img 58 == 1) = true → 0 < byteAt img 57) ∧ (1 ≤ byteAt img 91 ∧ byteAt img 91 ≤ 255) ∧
      (byteAt img 60 ≤ 16 ∧ byteAt img 59 ≤ 95 ∧ (byteAt img 60 ≠ 0 → byteAt img 59 + byteAt img 60 ≤ 8 * byteAt img 57) ∧
        ((byteAt img 61 == 1) = true → 9 ≤ byteAt img 60 ∧ byteAt img 59 + 16 ≤ 8 * byteAt img 57)) ∧
      (byteAt img 63 ≤ 16 ∧ byteAt img 62 ≤ 95 ∧ (byteAt img 63 ≠ 0 → byteAt img 62 + byteAt img 63 ≤ 8 * byteAt img 57) ∧
        ((byteAt img 64 == 1) = true → 9 ≤ byteAt img 63 ∧ byteAt img 62 + 16 ≤ 8 * byteAt img 57)) ∧
      (byteAt img 66 ≤ 16 ∧ byteAt img 65 ≤ 95 ∧ (byteAt img 66 ≠ 0 → byteAt img 65 + byteAt img 66 ≤ 8 * byteAt img 57) ∧
        ((byteAt img 67 == 1) = true → 9 ≤ byteAt img 66 ∧ byteAt img 65 + 16 ≤ 8 * byteAt img 57)) ∧
      (mediumOf (byteAt img 21) ≠ .floppyHard → 0 < byteAt img 66) ↔
    byteAt img 57 ≤ 12 ∧ (byteAt img 57 = 0 → byteAt img 21 = 1) ∧
      (byteAt img 21 = 1 → ((img.getD 51 0 ≠ 0 ∨ img.getD 52 0 ≠ 0) ↔ 0 < byteAt img 57)) ∧
      (byteAt img 57 = 0 → byteAt img 58 = 0) ∧ 1 ≤ byteAt img 91 ∧
      (byteAt img 60 ≤ 16 ∧ byteAt img 59 ≤ 95 ∧ (byteAt img 60 ≠ 0 → byteAt img 59 + byteAt img 60 ≤ 8 * byteAt img 57) ∧
        (byteAt img 61 = 1 → 9 ≤ byteAt img 60 ∧ byteAt img 59 + 16 ≤ 8 * byteAt img 57)) ∧
      (byteAt img 63 ≤ 16 ∧ byteAt img 62 ≤ 95 ∧ (byteAt img 63 ≠ 0 → byteAt img 62 + byteAt img 63 ≤ 8 * byteAt img 57) ∧
        (byteAt img 64 = 1 → 9 ≤ byteAt img 63 ∧ byteAt img 62 + 16 ≤ 8 * byteAt img 57)) ∧
      (byteAt img 66 ≤ 16 ∧ byteAt img 65 ≤ 95 ∧ (byteAt img 66 ≠ 0 → byteAt img 65 + byteAt img 66 ≤ 8 * byteAt img 57) ∧
        (byteAt img 67 = 1 → 9 ≤ byteAt img 66 ∧ byteAt img 65 + 16 ≤ 8 * byteAt img 57)) ∧
      (byteAt img 21 ≠ 1 → byteAt img 66 ≠ 0)
  simp only [ne_eq, hhard, beq_iff_eq]
  constructor
  · rintro ⟨hle, hused, hhead, hchk, ⟨hgap1, -⟩, hcyl, hhd, hsec, hsecw⟩
    exact ⟨hle, by omega, hused, by omega, hgap1, hcyl, hhd, hsec, by omega⟩
  · rintro ⟨hle, hhead, hused, hchk, hgap1, hcyl, hhd, hsec, hsecw⟩
    exact ⟨hle, hused, by omega, by omega, ⟨hgap1, by omega⟩, hcyl, hhd, hsec, by omega⟩

theorem dataLengthOk_iff : dataLengthOk (profileOfImage img) = true ↔ ValidationStep img 10 := within_iff

theorem distinct_iff {l : List Byte} : distinct l = true ↔ l.Nodup := by
  induction l with
  | nil => simp [distinct]
  | cons b l ih => simp [distinct, ih]

theorem gcrOk_profile {p : Profile} : gcrOk p = true ↔
    (p.encoding = .gcr → (∀ c ∈ p.gcrTable, 1 ≤ c.toNat ∧ c.toNat ≤ 31) ∧ p.gcrTable.Nodup) := by
  cases he : p.encoding <;> simp [gcrOk, he, within_iff, distinct_iff]

theorem gcrOk_iff (hlen : img.length = 99) : gcrOk (profileOfImage img) = true ↔ ValidationStep img 11 := by
  have htable : ((img.drop 74).take 16).length = 16 := by simp [hlen]
  have hget (i : Nat) (hi : i < 16) : ((img.drop 74).take 16)[i] = img.getD (74 + i) 0 := by
    have : 74 + i < img.length := by omega
    simp [List.getD_eq_getElem?_getD, this]
  rw [gcrOk_profile]
  change (encodingOf (byteAt img 22) = .gcr → (∀ c ∈ (img.drop 74).take 16, _) ∧ ((img.drop 74).take 16).Nodup) ↔
    (byteAt img 22 = 2 → (∀ i, i < 16 → 1 ≤ byteAt img (74 + i) ∧ byteAt img (74 + i) ≤ 31) ∧
      ∀ i j, i < j → j < 16 → byteAt img (74 + i) ≠ byteAt img (74 + j))
  rw [encodingOf_eq_gcr]
  refine forall_congr' fun _ => and_congr ?_ ?_
  · rw [List.forall_mem_iff_getElem]
    refine forall_congr' fun i => ⟨fun h hi => ?_, fun h hi => ?_⟩
    · have := h (by rw [htable]; exact hi)
      rwa [hget i hi] at this
    · rw [hget i (by rwa [htable] at hi)]
      exact h (by rwa [htable] at hi)
  · rw [List.Nodup, List.pairwise_iff_getElem]
    refine forall_congr' fun i => forall_congr' fun j => ?_
    constructor
    · intro h hij hj
      have := h (by rw [htable]; omega) (by rw [htable]; omega) hij
      rw [hget i (by omega), hget j hj] at this
      exact fun he => this (BitVec.eq_of_toNat_eq he)
    · intro h hi hj hij
      rw [hget i (by omega), hget j (by omega)]
      exact fun he => h hij (by omega) (congrArg BitVec.toNat he)

/-! ### The eleven in order -/

/-- The validation tests, in order. -/
def validationTests (img : List Byte) : List Bool :=
  [signatureOk img, versionOk img, lengthOk img, checkOkOf img, mediumOk img, geometryOk (profileOfImage img),
    syncOk (profileOfImage img), marksOk (profileOfImage img), fieldsOk (profileOfImage img),
    dataLengthOk (profileOfImage img), gcrOk (profileOfImage img)]

/-- Where all steps before it pass, a test is what its step asks. -/
theorem validationTests_iff {k : Nat} (h1 : 1 ≤ k) (h11 : k ≤ 11) (hbefore : ∀ j, 1 ≤ j → j < k → ValidationStep img j) :
    (validationTests img)[k - 1]? = some true ↔ ValidationStep img k := by
  have hlen : 3 < k → img.length = 99 := fun hk => (hbefore 3 (by omega) hk).1
  have hcodes : 5 < k → ImageCodes img := fun hk => .of_step (hbefore 5 (by omega) hk)
  have hsome (b : Bool) : some b = some true ↔ b = true := by simp
  interval_cases k
  · exact (hsome _).trans signatureOk_iff
  · exact (hsome _).trans versionOk_iff
  · exact (hsome _).trans lengthOk_iff
  · exact (hsome _).trans (checkOkOf_iff (hlen (by omega)))
  · exact (hsome _).trans mediumOk_iff
  · exact (hsome _).trans (geometryOk_iff (hcodes (by omega)))
  · exact (hsome _).trans (syncOk_iff (hcodes (by omega)))
  · exact (hsome _).trans (marksOk_iff (hcodes (by omega)))
  · exact (hsome _).trans (fieldsOk_iff (hcodes (by omega)))
  · exact (hsome _).trans dataLengthOk_iff
  · exact (hsome _).trans (gcrOk_iff (hlen (by omega)))

/-- The first test that fails, those before it having passed. -/
theorem firstFailure_eq_some {l : List Bool} {i n : Nat} (hpass : ∀ j, j < i → l[j]? = some true)
    (hfail : l[i]? = some false) : firstFailure n l = some (n + i) := by
  induction l generalizing i n with
  | nil => cases hfail
  | cons b l ih =>
    cases i with
    | zero =>
      obtain rfl : b = false := Option.some.inj hfail
      rfl
    | succ i =>
      obtain rfl : b = true := Option.some.inj (hpass 0 (Nat.succ_pos i))
      change firstFailure (n + 1) l = _
      rw [ih (fun j hj => hpass (j + 1) (Nat.succ_lt_succ hj)) hfail]
      congr 1
      omega

/-- The first step that an image fails is the reason validation names (R13). -/
theorem validate_eq_some {k : Nat} (h1 : 1 ≤ k) (h11 : k ≤ 11) (hfail : ¬ ValidationStep img k)
    (hbefore : ∀ j, 1 ≤ j → j < k → ValidationStep img j) : validate img = some k := by
  have hk : (validationTests img)[k - 1]? = some false := by
    obtain ⟨b, hb⟩ : ∃ b, (validationTests img)[k - 1]? = some b :=
      ⟨_, List.getElem?_eq_getElem (show k - 1 < (validationTests img).length by
        change k - 1 < 11; omega)⟩
    cases b with
    | false => exact hb
    | true => exact absurd ((validationTests_iff h1 h11 hbefore).mp hb) hfail
  have hpass : ∀ j, j < k - 1 → (validationTests img)[j]? = some true := fun j hj =>
    (validationTests_iff (k := j + 1) (by omega) (by omega) fun i hi hij => hbefore i hi (by omega)).mpr
      (hbefore (j + 1) (by omega) (by omega))
  refine (firstFailure_eq_some hpass hk).trans ?_
  congr 1
  omega

theorem validate_eq_none_iff : validate img = none ↔ ∀ k, 1 ≤ k → k ≤ 11 → ValidationStep img k := by
  constructor
  · intro h k
    induction k using Nat.strong_induction_on with
    | _ k ih =>
      intro h1 h11
      by_contra hfail
      rw [validate_eq_some h1 h11 hfail fun j hj hjk => ih j hjk hj (by omega)] at h
      cases h
  · intro h
    refine firstFailure_eq_none_iff.mpr fun b hb => ?_
    obtain ⟨i, hi, hget⟩ := List.mem_iff_getElem.mp hb
    change i < 11 at hi
    have := (validationTests_iff (k := i + 1) (by omega) (by omega) fun j hj hji => h j hj (by omega)).mpr
      (h (i + 1) (by omega) (by omega))
    rw [List.getElem?_eq_getElem (show i + 1 - 1 < (validationTests img).length from hi)] at this
    exact hget.symm.trans (Option.some.inj this)

end

/-! ## The image put together again (R170) -/

/-- The bytes of an image from an offset on. -/
def slice (img : List Byte) (k n : Nat) : List Byte := (img.drop k).take n

theorem slice_append {img : List Byte} (k a b : Nat) : slice img k a ++ slice img (k + a) b = slice img k (a + b) := by
  unfold slice
  rw [List.take_add, List.drop_drop]

theorem slice_join {img : List Byte} {k a m b : Nat} (h : k + a = m) :
    slice img k a ++ slice img m b = slice img k (a + b) := h ▸ slice_append k a b

section
variable {img : List Byte} (hlen : img.length = 99)
include hlen

theorem slice_one {k : Nat} (hk : k < 99) : slice img k 1 = [img.getD k 0] := by
  have : k < img.length := by omega
  simp [slice, List.take_one, List.getD_eq_getElem?_getD, this]

theorem b1_byteAt {k : Nat} (hk : k < 99) : b1 (byteAt img k) = slice img k 1 := by
  rw [slice_one hlen hk, b1, byteAt, BitVec.ofNat_toNat, BitVec.setWidth_eq]

theorem le2_le2At {k : Nat} (hk : k < 98) : le2 (le2At img k) = slice img k 2 := by
  have h0 := byteAt_lt img k
  have h1 := byteAt_lt img (k + 1)
  have hlow : BitVec.ofNat 8 (le2At img k) = BitVec.ofNat 8 (byteAt img k) := by
    apply BitVec.eq_of_toNat_eq
    rw [BitVec.toNat_ofNat, BitVec.toNat_ofNat, le2At]
    omega
  have hhigh : le2At img k / 256 = byteAt img (k + 1) := by rw [le2At]; omega
  rw [le2, hlow, hhigh, ← slice_append k 1 1, ← b1_byteAt hlen (by omega), ← b1_byteAt hlen (by omega)]
  rfl

theorem yesNo_byteAt {k : Nat} (hk : k < 99) (h : byteAt img k ≤ 1) : yesNo (byteAt img k == 1) = slice img k 1 := by
  rw [← b1_byteAt hlen hk]
  interval_cases byteAt img k <;> rfl

theorem medium_slice (h : byteAt img 21 ≤ 2) : b1 (mediumByte (mediumOf (byteAt img 21))) = slice img 21 1 := by
  rw [← b1_byteAt hlen (by omega)]
  interval_cases byteAt img 21 <;> rfl

theorem encoding_slice (h : byteAt img 22 ≤ 2) : b1 (encodingByte (encodingOf (byteAt img 22))) = slice img 22 1 := by
  rw [← b1_byteAt hlen (by omega)]
  interval_cases byteAt img 22 <;> rfl

theorem checkType_slice (h : byteAt img 71 ≤ 1) : b1 (checkTypeByte (checkTypeOf (byteAt img 71))) = slice img 71 1 := by
  rw [← b1_byteAt hlen (by omega)]
  interval_cases byteAt img 71 <;> rfl

theorem bitOrder_slice (h : byteAt img 90 ≤ 1) : b1 (bitOrderByte (bitOrderOf (byteAt img 90))) = slice img 90 1 := by
  rw [← b1_byteAt hlen (by omega)]
  interval_cases byteAt img 90 <;> rfl

theorem pattern_slice {k : Nat} (hk : k < 96) : patternBytes (patternAt img k) = slice img k 4 := by
  have h0 := byteAt_lt img k
  have h1 := byteAt_lt img (k + 1)
  have h2 := byteAt_lt img (k + 2)
  have h3 := byteAt_lt img (k + 3)
  have hbyte {n m : Nat} (h : n % 256 = m % 256) : BitVec.ofNat 8 n = BitVec.ofNat 8 m :=
    BitVec.eq_of_toNat_eq (by rw [BitVec.toNat_ofNat, BitVec.toNat_ofNat]; exact h)
  have hnat : (patternAt img k).toNat =
      16777216 * byteAt img k + 65536 * byteAt img (k + 1) + 256 * byteAt img (k + 2) + byteAt img (k + 3) := by
    rw [patternAt, BitVec.toNat_ofNat]
    omega
  have hcut : slice img k 4 =
      b1 (byteAt img k) ++ b1 (byteAt img (k + 1)) ++ b1 (byteAt img (k + 2)) ++ b1 (byteAt img (k + 3)) := by
    rw [b1_byteAt hlen (by omega), b1_byteAt hlen (by omega), b1_byteAt hlen (by omega), b1_byteAt hlen (by omega),
      slice_append, slice_append k 2, slice_append k 3]
  have e0 : BitVec.ofNat 8 ((patternAt img k).toNat / 16777216) = BitVec.ofNat 8 (byteAt img k) :=
    hbyte (by rw [hnat]; omega)
  have e1 : BitVec.ofNat 8 ((patternAt img k).toNat / 65536) = BitVec.ofNat 8 (byteAt img (k + 1)) :=
    hbyte (by rw [hnat]; omega)
  have e2 : BitVec.ofNat 8 ((patternAt img k).toNat / 256) = BitVec.ofNat 8 (byteAt img (k + 2)) :=
    hbyte (by rw [hnat]; omega)
  have e3 : BitVec.ofNat 8 (patternAt img k).toNat = BitVec.ofNat 8 (byteAt img (k + 3)) := hbyte (by rw [hnat]; omega)
  rw [hcut, patternBytes, e0, e1, e2, e3]
  rfl

theorem mark_slice {k : Nat} (hk : k < 98) : markMaskBytes (markMaskAt img k) = slice img k 2 := by
  rw [← slice_append k 1 1, slice_one hlen (by omega), slice_one hlen (by omega)]
  rfl

theorem field_slice {k : Nat} (hk : k < 97) (h : byteAt img (k + 2) ≤ 1) :
    fieldDescBytes (fieldDescAt img k) = slice img k 3 := by
  rw [← slice_append k 2 1, ← slice_append k 1 1, ← b1_byteAt hlen (by omega), ← b1_byteAt hlen (by omega),
    ← yesNo_byteAt hlen (by omega) h]
  rfl

/-- The part of the image behind its check. -/
theorem imageTail_slice (hc : ImageCodes img) : imageTail (profileOfImage img) = slice img 21 78 := by
  have hyes (k : Nat) (hmem : k ∈ [71, 90, 58, 93, 97, 98, 61, 64, 67]) (hk : k < 99) :
      yesNo (byteAt img k == 1) = slice img k 1 := yesNo_byteAt hlen hk (hc.yes k hmem)
  have hone {k : Nat} (hk : k < 99) := b1_byteAt hlen hk
  have htwo {k : Nat} (hk : k < 98) := le2_le2At hlen hk
  unfold imageTail
  simp only [profileOfImage]
  rw [medium_slice hlen hc.medium, encoding_slice hlen hc.encoding, checkType_slice hlen (hc.yes 71 (by simp)),
    bitOrder_slice hlen (hc.yes 90 (by simp)), hyes 58 (by simp) (by omega), hyes 93 (by simp) (by omega),
    hyes 97 (by simp) (by omega), hyes 98 (by simp) (by omega), field_slice hlen (by omega) (hc.yes 61 (by simp)),
    field_slice hlen (by omega) (hc.yes 64 (by simp)), field_slice hlen (by omega) (hc.yes 67 (by simp)),
    pattern_slice hlen (by omega), pattern_slice hlen (by omega), mark_slice hlen (by omega), mark_slice hlen (by omega),
    mark_slice hlen (by omega), htwo (by omega), htwo (by omega), htwo (by omega), htwo (by omega), htwo (by omega),
    htwo (by omega), htwo (by omega), htwo (by omega), hone (by omega), hone (by omega), hone (by omega),
    hone (by omega), hone (by omega), hone (by omega), hone (by omega), hone (by omega), hone (by omega), hone (by omega),
    hone (by omega), hone (by omega), hone (by omega), hone (by omega), hone (by omega)]
  change slice img 21 1 ++ slice img 22 1 ++ slice img 23 2 ++ slice img 25 1 ++ slice img 26 1 ++ slice img 27 1 ++
    slice img 28 1 ++ slice img 29 2 ++ slice img 31 1 ++ slice img 32 2 ++ slice img 34 2 ++ slice img 36 2 ++
    slice img 38 1 ++ slice img 39 1 ++ slice img 40 1 ++ slice img 41 4 ++ slice img 45 1 ++ slice img 46 1 ++
    slice img 47 4 ++ slice img 51 2 ++ slice img 53 2 ++ slice img 55 2 ++ slice img 57 1 ++ slice img 58 1 ++
    slice img 59 3 ++ slice img 62 3 ++ slice img 65 3 ++ slice img 68 1 ++ slice img 69 2 ++ slice img 71 1 ++
    slice img 72 2 ++ slice img 74 16 ++ slice img 90 1 ++ slice img 91 1 ++ slice img 92 1 ++ slice img 93 1 ++
    slice img 94 1 ++ slice img 95 2 ++ slice img 97 1 ++ slice img 98 1 = _
  simp only [slice_join, Nat.reduceAdd]

/-- The part of the image before its check. -/
theorem imageHead_slice (h1 : ValidationStep img 1) (h2 : ValidationStep img 2) (h3 : ValidationStep img 3) :
    imageHead (profileOfImage img) = slice img 0 19 := by
  have hsig : slice img 0 4 = [0x49, 0x5A, 0x50, 0x46] := h1
  have hversion : slice img 4 1 = [1] := by
    rw [← b1_byteAt hlen (by omega), show byteAt img 4 = 1 from h2.2]; rfl
  have hword : slice img 5 2 = le2 99 := by
    rw [← le2_le2At hlen (by omega), show le2At img 5 = 99 from h3.2]
  change [0x49, 0x5A, 0x50, 0x46, 0x01] ++ le2 99 ++ slice img 7 12 = _
  rw [← hword, show [0x49, 0x5A, 0x50, 0x46, 0x01] = slice img 0 4 ++ slice img (0 + 4) 1 by rw [hsig, hversion]; rfl,
    slice_append, show slice img 5 2 = slice img (0 + (4 + 1)) 2 from rfl, slice_append,
    show slice img 7 12 = slice img (0 + (4 + 1 + 2)) 12 from rfl, slice_append]

end

/-- Settles O13: each field of a valid image codes its bytes again, and the check is that of the other bytes. -/
theorem profileImageRoundTrip : Obligations.ProfileImageRoundTrip := by
  intro img hvalid
  have hstep := validate_eq_none_iff.mp hvalid
  have hlen : img.length = 99 := (hstep 3 (by omega) (by omega)).1
  have htail := imageTail_slice hlen (.of_step (hstep 5 (by omega) (by omega)))
  have hhead := imageHead_slice hlen (hstep 1 (by omega) (by omega)) (hstep 2 (by omega) (by omega))
    (hstep 3 (by omega) (by omega))
  have hrest : slice img 21 78 = img.drop 21 := List.take_of_length_le (by rw [List.length_drop, hlen])
  have hcheck : le2 (heldCheck (profileOfImage img)) = slice img 19 2 := by
    rw [← le2_le2At hlen (by omega), heldCheck, hhead, htail, hrest]
    exact congrArg le2 (hstep 4 (by omega) (by omega))
  rw [imageOfProfile, hcheck, hhead, htail, show slice img 19 2 = slice img (0 + 19) 2 from rfl, slice_append,
    show slice img 21 78 = slice img (0 + (19 + 2)) 78 from rfl, slice_append]
  exact List.take_of_length_le (by rw [List.length_drop, hlen])

/-! ## PROFILE_LOAD (R18) -/

section
variable {s : State} {tag n : Byte} {img : List Byte}

theorem exec_profileLoad_accepted {payload : List Byte} (h : Accepts s 0x10 payload) :
    exec (.profileLoad tag payload) s =
      .next ((s.setLink (s.link.accepted 0x10 tag)).serveProfileLoad s.link.nextId payload) :=
  congrArg Host.Outcome.next (State.withRequest_accepted h)

theorem State.serveProfileLoad_range (id : Nat) (hn : 8 ≤ n.toNat) :
    s.serveProfileLoad id (n :: img) = s.reply id .range [] :=
  if_pos (c := 7 < byteAt (n :: img) 0) hn

theorem State.serveProfileLoad_inUse (id : Nat) (hn : n.toNat < 8) (huse : 0 < (s.slot n.toNat).useCount) :
    s.serveProfileLoad id (n :: img) = s.reply id .profileInUse [] :=
  (if_neg (c := 7 < byteAt (n :: img) 0) (Nat.not_lt.mpr (Nat.le_of_lt_succ hn))).trans (if_pos huse)

/-- A slot in range that no volume uses: validation decides. -/
theorem State.serveProfileLoad_unused (id : Nat) (hn : n.toNat < 8) (huse : (s.slot n.toNat).useCount = 0) :
    (∀ reason, validate img = some reason →
      s.serveProfileLoad id (n :: img) = s.reply id .profileBad (b1 reason)) ∧
    (validate img = none → s.serveProfileLoad id (n :: img) =
      (s.setSlots (s.slots.set n.toNat { held := some (heldForm (profileOfImage img)), useCount := 0 })).reply id .ok
        (b1 n.toNat ++ b1 (clampedSetByte (clampedSet (profileOfImage img))) ++
          le2 (heldCheck (heldForm (profileOfImage img))))) := by
  have hrange : ¬ 7 < byteAt (n :: img) 0 := Nat.not_lt.mpr (Nat.le_of_lt_succ hn)
  have hfree : ¬ 0 < (s.slot (byteAt (n :: img) 0)).useCount := Nat.not_lt.mpr (Nat.le_zero.mpr huse)
  constructor
  · intro reason hv
    rw [State.serveProfileLoad, if_neg hrange, if_neg hfree, List.drop_one, List.tail_cons, hv]
  · intro hv
    rw [State.serveProfileLoad, if_neg hrange, if_neg hfree, List.drop_one, List.tail_cons, hv]
    rfl

end

/-- Settles O36: the tests of R18 in order, validation by its eleven steps. -/
theorem profileLoadStores : Obligations.ProfileLoadStores := by
  intro s tag n img hids hacc
  rw [exec_profileLoad_accepted hacc]
  have hslot (k : Nat) : (s.setLink (s.link.accepted 0x10 tag)).slot k = s.slot k := rfl
  refine ⟨fun hn => ?_, fun hn huse => ?_, fun hn huse reason h1 h11 hfail hbefore => ?_, fun hn huse hall => ?_⟩
  · rw [State.serveProfileLoad_range _ hn, State.setLink_accepted_reply hids]
  · rw [State.serveProfileLoad_inUse _ hn (hslot _ ▸ huse), State.setLink_accepted_reply hids]
  · rw [(State.serveProfileLoad_unused _ hn (hslot _ ▸ huse)).1 reason (validate_eq_some h1 h11 hfail hbefore),
      State.setLink_accepted_reply hids]
  · rw [(State.serveProfileLoad_unused _ hn (hslot _ ▸ huse)).2 (validate_eq_none_iff.mpr hall)]
    exact congrArg _ (State.setSlots_accepted_reply hids _ _ _ _ _)

end Sys2Proof.Machine
end


/-! # Requests received, IDENT and STATUS, FETCH accepted (R148, R160, R161, R166, R167, R173) -/

section
/-! SUPPORT. The frame of each request row, the two tests that the volume requests share, and the groups of IDENT and STATUS. -/

namespace Sys2Proof.Machine

/-! ## Request rows as frames (R160, R161) -/

theorem payloadChan_large {c : Byte} (h : 4 ≤ c.toNat) (rest : List Byte) : payloadChan (c :: rest) = none :=
  dif_neg h.not_gt

theorem State.withVolume_badChannel {c : Byte} (h : 4 ≤ c.toNat) (s : State) (id : Nat) (rest : List Byte)
    (serve : Chan → Volume → State) : s.withVolume id (c :: rest) serve = s.reply id .badChannel [] := by
  rw [State.withVolume, payloadChan_large h]

theorem State.withVolume_noVolume {s : State} {ch : Chan} (h : s.volume ch = none) (id : Nat) (rest : List Byte)
    (serve : Chan → Volume → State) : s.withVolume id (chanByte ch :: rest) serve = s.reply id .noVolume [] := by
  simp [State.withVolume, h]

/-- The requests that name a volume are served behind the tests they share (5.8, 7.7, R107, R148). -/
theorem State.serveKind_volume {kind : Byte} (h : kind ∈ [0x21, 0x22, 0x23, 0x24, 0x30, 0x31, 0x32, 0x33, 0x34, 0x40])
    (s : State) (id : Nat) (tag : Byte) (payload : List Byte) :
    ∃ serve, s.serveKind id kind tag payload = s.withVolume id payload serve := by
  simp only [List.mem_cons, List.not_mem_nil, or_false] at h
  rcases h with rfl | rfl | rfl | rfl | rfl | rfl | rfl | rfl | rfl | rfl <;> exact ⟨_, rfl⟩

/-- Settles O38: each row is its frame by unfolding; the shared tests by `State.withVolume`. -/
theorem requestsAreFrames : Obligations.RequestsAreFrames := by
  intro s tag payload
  refine ⟨rfl, fun kind c rest hp hids hacc hkind => ?_⟩
  obtain ⟨serve, hserve⟩ :=
    State.serveKind_volume hkind (s.setLink (s.link.accepted kind tag)) s.link.nextId tag payload
  have hframe : s.receiveFrame kind tag payload = _ := (State.withRequest_accepted hacc).trans hserve
  rw [hframe, ← State.setLink_accepted_reply hids, ← State.setLink_accepted_reply hids, hp]
  refine ⟨fun hlarge => State.withVolume_badChannel hlarge _ _ _ _, fun ch hc hnone => ?_⟩
  rw [hc]
  exact State.withVolume_noVolume (s := s.setLink (s.link.accepted kind tag)) hnone _ _ _

/-! ## FETCH accepted (R147 to R149) -/

theorem fetchModeOf_eq_none {n : Nat} (h : 1 < n) : fetchModeOf n = none := by
  match n, h with
  | _ + 2, _ => rfl

theorem yesNoOf_eq_none {n : Nat} (h : 1 < n) : yesNoOf n = none := by
  match n, h with
  | _ + 2, _ => rfl

theorem fetchModeOf_eq_some {n : Nat} (h : n ≤ 1) : fetchModeOf n = some (if n = 1 then .best else .settledOnly) := by
  match n, h with
  | 0, _ => rfl
  | 1, _ => rfl

theorem yesNoOf_eq_some {n : Nat} (h : n ≤ 1) : yesNoOf n = some (decide (n = 1)) := by
  match n, h with
  | 0, _ => rfl
  | 1, _ => rfl

section
variable {s : State} {ch : Chan} {v : Volume} {tag f0 f1 n mode conf : Byte}

theorem exec_fetch_range (hids : s.link.idsFresh) (hacc : Accepts s 0x40 [chanByte ch, f0, f1, n, mode, conf])
    (hv : s.volume ch = some v) (h : v.size ≤ f0.toNat + 256 * f1.toNat ∨ 1 < mode.toNat ∨ 1 < conf.toNat) :
    exec (.fetch tag [chanByte ch, f0, f1, n, mode, conf]) s = .next (s.answered 0x40 tag .range []) := by
  refine congrArg Host.Outcome.next ((State.withRequest_mounted hacc hv _).trans ?_)
  rw [← State.setLink_accepted_reply hids]
  dsimp only
  split
  · next m b hmode hconf =>
    refine if_pos (h.resolve_right ?_)
    rintro (hlarge | hlarge)
    · exact nomatch (fetchModeOf_eq_none hlarge).symm.trans hmode
    · exact nomatch (yesNoOf_eq_none hlarge).symm.trans hconf
  · rfl

theorem exec_fetch_inRange (hacc : Accepts s 0x40 [chanByte ch, f0, f1, n, mode, conf])
    (hv : s.volume ch = some v) (hfirst : f0.toNat + 256 * f1.toNat < v.size) (hmode : mode.toNat ≤ 1)
    (hconf : conf.toNat ≤ 1) :
    exec (.fetch tag [chanByte ch, f0, f1, n, mode, conf]) s = .next
      (if Config.fetchQueueSize ≤ s.fetches.length then
        (s.setLink (s.link.accepted 0x40 tag)).reply s.link.nextId .busy []
      else (s.setLink (s.link.accepted 0x40 tag)).setFetches (s.fetches ++ [fetchEntry s.link.nextId tag ch v
        (f0.toNat + 256 * f1.toNat) n.toNat (if mode.toNat = 1 then .best else .settledOnly)
        (decide (conf.toNat = 1))])) := by
  refine congrArg Host.Outcome.next ((State.withRequest_mounted hacc hv _).trans ?_)
  have hm : fetchModeOf (byteAt [chanByte ch, f0, f1, n, mode, conf] 4) = _ := fetchModeOf_eq_some hmode
  have hc : yesNoOf (byteAt [chanByte ch, f0, f1, n, mode, conf] 5) = _ := yesNoOf_eq_some hconf
  simp only [hm, hc]
  exact if_neg hfirst.not_ge

end

/-- Settles O50: R148's tests in their order, and the entry of an accepted FETCH. -/
theorem fetchAccepted : Obligations.FetchAccepted := by
  intro s tag f0 f1 n mode conf ch v hids hacc hv first size counted
  refine ⟨fun hrange => exec_fetch_range hids hacc hv hrange, fun hfirst hmode hconf => ?_⟩
  rw [exec_fetch_inRange hacc hv hfirst hmode hconf]
  refine ⟨fun hfull => ?busy, fun hroom => ?joins⟩
  case busy => rw [if_pos (show Config.fetchQueueSize ≤ _ from hfull), State.setLink_accepted_reply hids]
  case joins => exact congrArg _ (if_neg (Nat.not_le.mpr hroom))

/-! ## IDENT and STATUS (R166, R167, R173) -/

@[simp] theorem length_b1 (n : Nat) : (b1 n).length = 1 := rfl
@[simp] theorem length_le2 (n : Nat) : (le2 n).length = 2 := rfl
@[simp] theorem length_le4 (n : Nat) : (le4 n).length = 4 := rfl
@[simp] theorem length_yesNo (b : Bool) : (yesNo b).length = 1 := by cases b <;> rfl

theorem length_channelGroup (c : Channel) : (channelGroup c).length = 19 := by simp [channelGroup]

theorem length_volumeGroup (v : Option Volume) : (volumeGroup v).length = 25 := by
  cases v <;> simp [volumeGroup, countsSettledFirst]

theorem length_partGroup (s : State) : (partGroup s).length = 13 := by simp [partGroup]

theorem length_channelReport (s : State) (ch : Chan) : (channelReport s ch).length = 45 := by
  simp [channelReport, length_channelGroup, length_volumeGroup]

theorem length_helloPayload (s : State) : (helloPayload s).length = 13 := by simp [helloPayload]

theorem channelSet_eq (q : Quad Bool) :
    channelSet q = q.c0.toNat + 2 * q.c1.toNat + 4 * q.c2.toNat + 8 * q.c3.toNat := by
  simp [channelSet, flagBit_eq]

theorem Pool.capacity_eq (p : Pool) : p.capacity = 1024 * (qlist p.bankPassed).count true := by
  simp [Pool.capacity, Pool.banksPassed, List.count, Config.bankSlots, beq_true]

theorem exec_ident_accepted {s : State} {tag : Byte} (hids : s.link.idsFresh) (h : Accepts s 0x01 []) :
    exec (.ident tag []) s = .next (s.answered 0x01 tag .ok (helloPayload s)) :=
  congrArg Host.Outcome.next ((State.withRequest_accepted h).trans (State.setLink_accepted_reply hids _ _ _ _))

section
variable {s : State} {tag n : Byte}

theorem exec_status_all (hids : s.link.idsFresh) (h : Accepts s 0x02 [n]) (hn : n.toNat = 255) :
    exec (.status tag [n]) s =
      .next (s.answered 0x02 tag .ok (allChans.flatMap (channelReport s) ++ partGroup s)) := by
  refine congrArg Host.Outcome.next ((State.withRequest_accepted h).trans ?_)
  rw [← State.setLink_accepted_reply hids]
  exact if_pos hn

theorem exec_status_badChannel (hids : s.link.idsFresh) (h : Accepts s 0x02 [n]) (hn : 4 ≤ n.toNat)
    (hall : n.toNat < 255) : exec (.status tag [n]) s = .next (s.answered 0x02 tag .badChannel []) := by
  refine congrArg Host.Outcome.next ((State.withRequest_accepted h).trans ?_)
  rw [← State.setLink_accepted_reply hids, State.serveStatus, payloadChan_large hn]
  exact if_neg hall.ne

theorem exec_status_one (hids : s.link.idsFresh) (h : Accepts s 0x02 [n]) {ch : Chan} (hn : n.toNat = ch.val) :
    exec (.status tag [n]) s = .next (s.answered 0x02 tag .ok (channelReport s ch ++ partGroup s)) := by
  refine congrArg Host.Outcome.next ((State.withRequest_accepted h).trans ?_)
  have hlt : byteAt [n] 0 < 4 := by rw [byteAt_singleton, hn]; exact ch.isLt
  have hchan : payloadChan [n] = some ch := by
    refine (dif_pos hlt).trans (congrArg some (Fin.ext hn))
  rw [← State.setLink_accepted_reply hids, State.serveStatus, hchan]
  exact if_neg (by omega)

end

/-- The lengths of the runs, summed over the channels. -/
theorem sum_runs (l : List (Option Volume)) :
    ((l.filterMap (fun v => v.map (fun w => (w.base, w.size)))).map (·.2)).sum =
      (l.map (fun v => (v.map Volume.size).getD 0)).sum := by
  induction l with
  | nil => rfl
  | cons v l ih => cases v <;> simp [ih]

theorem State.freeRecords_eq (s : State) : s.freeRecords =
    32768 - (allChans.map (fun ch => ((s.volume ch).map Volume.size).getD 0)).sum :=
  congrArg (32768 - ·) (sum_runs (qlist s.volumes))

/-- Settles O33: the fields of each group in the order of R173, and R172's codes. -/
theorem identAndStatusAnswered : Obligations.IdentAndStatusAnswered := by
  refine ⟨fun s tag n hids => ?_, rfl, rfl, rfl, rfl, rfl, rfl, rfl, rfl⟩
  intro chanGroup volGroup records whole groups bitsOf hello
  have hchan (c : Channel) : chanGroup c = channelGroup c := by
    dsimp only [chanGroup, channelGroup]
    by_cases hstate : c.state = .absent <;> cases c.holdTimer <;> cases c.pass <;> simp [hstate, yesNo, le2]
  have hvol (v : Option Volume) : volGroup v = volumeGroup v := by
    cases v with
    | none => rfl
    | some v => simp [volGroup, volumeGroup, countsSettledFirst]
  have hrecords (ch : Chan) : records ch = ((s.volume ch).map Volume.size).getD 0 := by
    dsimp only [records]
    cases s.volume ch <;> rfl
  have hwhole : whole = partGroup s := by
    simp [whole, partGroup, State.freeRecords_eq, allChans, hrecords, Pool.capacity_eq, Pool.freeCount, Nat.add_assoc]
  have hgroups (ch : Chan) : groups ch = channelReport s ch := by
    simp only [groups, channelReport, hchan, hvol]
  have hbits (f : Channel → Bool) : bitsOf f = b1 (channelSet (qmap f s.channels)) := by
    rw [channelSet_eq]
    rfl
  have hhello : hello = helloPayload s := by
    simp only [hello, hbits, helloPayload, Pool.capacity_eq]
    rfl
  have hall : groups 0 ++ groups 1 ++ groups 2 ++ groups 3 ++ whole =
      allChans.flatMap (channelReport s) ++ partGroup s := by
    simp [hgroups, hwhole, allChans]
  refine ⟨fun hacc => ?ident, fun hacc => ⟨fun hn => ?all, fun ch hn => ?one, fun hn hlt => ?bad⟩⟩
  case ident =>
    rw [hhello]
    exact ⟨exec_ident_accepted hids hacc, by simp [length_helloPayload]⟩
  case all =>
    rw [hall]
    exact ⟨exec_status_all hids hacc hn, by simp [allChans, length_channelReport, length_partGroup]⟩
  case one =>
    rw [hgroups, hwhole]
    exact ⟨exec_status_one hids hacc hn, by simp [length_channelReport, length_partGroup]⟩
  case bad => exact exec_status_badChannel hids hacc hn hlt

end Sys2Proof.Machine
end


/-! # The planner's choice in RECOVERY (R134, R136) -/

section
/-! SUPPORT. Where the scans of the pending-track map end, and what RECOVERY makes of them. -/

namespace Sys2Proof.Machine

/-! ## The scans of the pending-track map (R134) -/

theorem Volume.pendingBelow_eq_some {v : Volume} {t k : Nat} :
    v.pendingBelow t = some k ↔ k < t ∧ v.isPending k = true ∧ ∀ j, k < j → j < t → v.isPending j = false := by
  induction t with
  | zero => simp [Volume.pendingBelow]
  | succ t ih =>
    rw [Volume.pendingBelow]
    split
    · next hp =>
      rw [Option.some_inj]
      constructor
      · rintro rfl
        exact ⟨Nat.lt_succ_self _, hp, fun j hlow hhigh => absurd hhigh (Nat.not_lt.mpr hlow)⟩
      · rintro ⟨hk, _, hnone⟩
        by_contra hne
        exact Bool.false_ne_true ((hnone t (by omega) (Nat.lt_succ_self _)).symm.trans hp)
    · next hp =>
      have hfalse : v.isPending t = false := Bool.eq_false_iff.mpr hp
      rw [ih]
      constructor
      · rintro ⟨hk, hpk, hnone⟩
        refine ⟨by omega, hpk, fun j hlow hhigh => ?_⟩
        rcases Nat.lt_succ_iff_lt_or_eq.mp hhigh with h | rfl
        · exact hnone j hlow h
        · exact hfalse
      · rintro ⟨hk, hpk, hnone⟩
        have hne : k ≠ t := fun h => hp (h ▸ hpk)
        exact ⟨by omega, hpk, fun j hlow hhigh => hnone j hlow (by omega)⟩

theorem Volume.pendingUp_eq_some {v : Volume} {fuel t k : Nat} :
    v.pendingUp fuel t = some k ↔
      t ≤ k ∧ k < t + fuel ∧ v.isPending k = true ∧ ∀ j, t ≤ j → j < k → v.isPending j = false := by
  induction fuel generalizing t with
  | zero =>
    rw [Volume.pendingUp]
    exact ⟨nofun, fun ⟨hlow, hhigh, _⟩ => absurd hhigh (by omega)⟩
  | succ fuel ih =>
    rw [Volume.pendingUp]
    split
    · next hp =>
      rw [Option.some_inj]
      constructor
      · rintro rfl
        exact ⟨le_rfl, by omega, hp, fun j hlow hhigh => absurd hhigh (Nat.not_lt.mpr hlow)⟩
      · rintro ⟨hk, _, _, hnone⟩
        by_contra hne
        exact Bool.false_ne_true ((hnone t le_rfl (by omega)).symm.trans hp)
    · next hp =>
      have hfalse : v.isPending t = false := Bool.eq_false_iff.mpr hp
      rw [ih]
      constructor
      · rintro ⟨hk, hbound, hpk, hnone⟩
        refine ⟨by omega, by omega, hpk, fun j hlow hhigh => ?_⟩
        rcases Nat.eq_or_lt_of_le hlow with rfl | h
        · exact hfalse
        · exact hnone j h hhigh
      · rintro ⟨hk, hbound, hpk, hnone⟩
        have hne : t ≠ k := fun h => hp (h ▸ hpk)
        exact ⟨by omega, by omega, hpk, fun j hlow hhigh => hnone j (by omega) hhigh⟩

/-- No track beyond the last is pending: bits of the pending-track map stand for the volume's tracks alone (R130). -/
def Volume.PendingInRange (v : Volume) : Prop := ∀ k, v.trackCount ≤ k → v.isPending k = false

theorem Volume.PendingInRange.lt {v : Volume} (h : v.PendingInRange) {k : Nat} (hk : v.isPending k = true) :
    k < v.trackCount :=
  Nat.lt_of_not_le fun hle => Bool.false_ne_true ((h k hle).symm.trans hk)

theorem Volume.scanFrom_up {v : Volume} (h : v.PendingInRange) {t k : Nat} :
    v.scanFrom .up t = some k ↔ v.isPending k = true ∧ t < k ∧ ∀ j, t < j → j < k → v.isPending j = false := by
  rw [Volume.scanFrom, Volume.pendingUp_eq_some]
  constructor
  · rintro ⟨hlow, _, hpk, hnone⟩
    exact ⟨hpk, hlow, hnone⟩
  · rintro ⟨hpk, hlow, hnone⟩
    have hlt := h.lt hpk
    exact ⟨hlow, by omega, hpk, hnone⟩

theorem Volume.scanFrom_down {v : Volume} {t k : Nat} :
    v.scanFrom .down t = some k ↔ v.isPending k = true ∧ k < t ∧ ∀ j, k < j → j < t → v.isPending j = false :=
  Volume.pendingBelow_eq_some.trans and_left_comm

/-! ## RECOVERY's tests in order (R134) -/

section
variable {v : Volume}

/-- The track of the last pass is chosen again. -/
def Volume.again (v : Volume) : Prop := v.isPending v.planner.currentTrack = true ∧
  (v.planner.fruitful = true ∨ (v.plan v.planner.currentTrack).misplaced = true)

theorem Volume.recoveryChoice_again (h : v.again) :
    v.recoveryChoice = (some v.planner.currentTrack, v.planner.sweep) :=
  if_pos h

theorem Volume.recoveryChoice_sweep (h : ¬ v.again) {k : Nat}
    (hk : v.scanFrom v.planner.sweep v.planner.currentTrack = some k) :
    v.recoveryChoice = (some k, v.planner.sweep) := by
  refine (if_neg h).trans ?_
  rw [hk]

theorem Volume.recoveryChoice_back (h : ¬ v.again)
    (hnone : v.scanFrom v.planner.sweep v.planner.currentTrack = none) {k : Nat}
    (hk : v.scanFrom v.planner.sweep.opposite v.planner.currentTrack = some k) :
    v.recoveryChoice = (some k, v.planner.sweep.opposite) := by
  refine (if_neg h).trans ?_
  rw [hnone]
  dsimp only
  rw [hk]

theorem Volume.recoveryChoice_here (h : ¬ v.again)
    (hnone : v.scanFrom v.planner.sweep v.planner.currentTrack = none)
    (hback : v.scanFrom v.planner.sweep.opposite v.planner.currentTrack = none) :
    v.recoveryChoice = (if v.isPending v.planner.currentTrack then some v.planner.currentTrack else none,
      v.planner.sweep.opposite) := by
  refine (if_neg h).trans ?_
  rw [hnone]
  dsimp only
  rw [hback]

end

/-! ## Direction and winding of an order (R136) -/

theorem orderDirection_floppy {p : Profile} (h : p.medium ≠ .cartridge) (c : Channel) :
    orderDirection p c = (.forward, false) := by
  cases hm : p.medium <;> simp_all [orderDirection]

theorem orderDirection_notKnown {p : Profile} {c : Channel} (hm : p.medium = .cartridge)
    (h : c.positionKnown = false ∨ c.recal ≠ none) : orderDirection p c = (.forward, false) := by
  have hnot : ¬ c.positionKnown = true ∨ c.recal.isSome = true :=
    h.imp (fun h => by simp [h]) Option.isSome_iff_ne_none.mpr
  simp only [orderDirection, hm]
  exact if_pos hnot

theorem orderDirection_known {p : Profile} {c : Channel} (hm : p.medium = .cartridge) (hk : c.positionKnown = true)
    (hr : c.recal = none) :
    (c.tapeEnd = .bot → orderDirection p c = (.forward, false)) ∧
    (c.tapeEnd = .eot → p.reverseAllowed = true → orderDirection p c = (.reverse, false)) ∧
    (c.tapeEnd = .eot → p.reverseAllowed = false → orderDirection p c = (.forward, true)) ∧
    (c.tapeEnd = .none → orderDirection p c = (.forward, true)) := by
  refine ⟨fun ht => ?_, fun ht ha => ?_, fun ht ha => ?_, fun ht => ?_⟩ <;> simp [orderDirection, *]

/-- Settles O46: R134's tests by where the two scans end, R136's table by the tape end. -/
theorem recoveryChoice : Obligations.RecoveryChoice := by
  refine ⟨fun v hrange => ?_, fun p c => ⟨fun hm => orderDirection_floppy hm c, orderDirection_notKnown,
    orderDirection_known⟩⟩
  intro here back nearest noneThere again
  have hback : back = v.planner.sweep.opposite := rfl
  have hnear (dir : Sweep) (k : Nat) : nearest dir k ↔ v.scanFrom dir here = some k := by
    cases dir with
    | up => exact (Volume.scanFrom_up hrange).symm
    | down => exact Volume.scanFrom_down.symm
  have hnone (dir : Sweep) : noneThere dir ↔ v.scanFrom dir here = none := by
    simp only [noneThere, hnear, Option.eq_none_iff_forall_ne_some, ne_eq]
  simp only [hnear, hnone, hback]
  refine ⟨Volume.recoveryChoice_again, fun h k => Volume.recoveryChoice_sweep h,
    fun h hn k => Volume.recoveryChoice_back h hn, fun h hn hb hp => ?pending, fun h hn hb hp => ?notPending⟩
  case pending => rw [Volume.recoveryChoice_here h hn hb, if_pos hp]
  case notPending => rw [Volume.recoveryChoice_here h hn hb, if_neg (Bool.eq_false_iff.mp hp)]

end Sys2Proof.Machine
end


/-! # Channels whose pins change as a command is taken (R21, R22, R25, R26 to R49) -/

section
/-! SUPPORT. A command writes the pins before its rule reads the channel: the lines the channel held meanwhile do not matter.
Every operation of a channel leaves the lines and the pulse history alone, whatever they hold. -/

namespace Sys2Proof.Machine

/-! ## Lines held meanwhile -/

/-- A channel with other output lines and another pulse history. -/
def Channel.wired (c : Channel) (o : Outputs) (n : Option Nat) : Channel := { c with outputs := o, sincePulse := n }

/-- As a channel is written its lines follow its fields; the pulse history counts where MOTOR stays asserted alone. -/
theorem Channel.wired_drive {c : Channel} {n : Option Nat} (h : (outputsOf c).motor = true → n = c.sincePulse)
    (o : Outputs) : (c.wired o n).drive = c.drive := by
  have ho : outputsOf (c.wired o n) = outputsOf c := rfl
  unfold Channel.drive
  rw [ho]
  cases hm : (outputsOf c).motor with
  | false => simp [hm, Channel.wired]
  | true => simp [hm, Channel.wired, h hm]

theorem motor_of_motorOn {c : Channel} (hk : c.kind = .floppy) (h : motorOn c.state = true) :
    (outputsOf c).motor = true := by
  simp [outputsOf, hk, h]

theorem motor_cartridge {c : Channel} (hk : c.kind = .cartridge) : (outputsOf c).motor = false := by
  simp [outputsOf, hk]

/-- An operation that neither reads nor writes the lines and the pulse history, nor the strap. -/
structure Channel.LineBlind (f : Channel → Channel) : Prop where
  wired : ∀ c o n, f (c.wired o n) = (f c).wired o n
  kind : ∀ c, (f c).kind = c.kind

namespace Channel.LineBlind

variable {f g : Channel → Channel}

theorem sincePulse (hf : LineBlind f) (c : Channel) : (f c).sincePulse = c.sincePulse := by
  have h : f c = (f c).wired c.outputs c.sincePulse := hf.wired c c.outputs c.sincePulse
  rw [h]
  rfl

theorem comp (hf : LineBlind f) (hg : LineBlind g) : LineBlind (fun c => f (g c)) :=
  ⟨fun c o n => (congrArg f (hg.wired c o n)).trans (hf.wired (g c) o n), fun c => (hf.kind _).trans (hg.kind c)⟩

theorem ite {q : Channel → Prop} [DecidablePred q] (hf : LineBlind f) (hg : LineBlind g)
    (hq : ∀ c o n, q (c.wired o n) ↔ q c) : LineBlind (fun c => if q c then f c else g c) := by
  constructor
  · intro c o n
    simp only [hq, hf.wired c o n, hg.wired c o n]
    split <;> rfl
  · intro c
    split
    · exact hf.kind c
    · exact hg.kind c

/-- The lines a channel was written with before the operation leave no trace, where MOTOR was asserted or is released. -/
theorem drive_drive (hf : LineBlind f) {c : Channel}
    (hm : motorOn c.state = true ∨ (outputsOf (f c)).motor = false) : (f c.drive).drive = (f c).drive := by
  have hwired : c.drive = c.wired (outputsOf c) (if (outputsOf c).motor then c.sincePulse else none) := rfl
  rw [hwired, hf.wired]
  refine Channel.wired_drive (fun h => ?_) _
  have hmotor : (outputsOf c).motor = true := by
    cases hk : c.kind with
    | floppy => exact motor_of_motorOn hk (hm.resolve_right fun hfalse => Bool.false_ne_true (hfalse.symm.trans h))
    | cartridge => exact absurd ((motor_cartridge ((hf.kind c).trans hk)).symm.trans h) Bool.false_ne_true
  rw [if_pos hmotor, hf.sincePulse]

end Channel.LineBlind

/-! ## The operations of a channel -/

namespace Channel

theorem lineBlind_enterHolding : LineBlind enterHolding := ⟨fun _ _ _ => rfl, fun _ => rfl⟩
theorem lineBlind_expired : LineBlind expired := ⟨fun _ _ _ => rfl, fun _ => rfl⟩
theorem lineBlind_recalSucceeded : LineBlind recalSucceeded := ⟨fun _ _ _ => rfl, fun _ => rfl⟩
theorem lineBlind_startCapture (p : Profile) (a : Pass) : LineBlind (startCapture · p a) :=
  ⟨fun _ _ _ => rfl, fun _ => rfl⟩
theorem lineBlind_recalPulse (p : Profile) (n : Nat) : LineBlind (recalPulse · p n) := ⟨fun _ _ _ => rfl, fun _ => rfl⟩

theorem lineBlind_finishCompletion : LineBlind finishCompletion :=
  .ite (q := fun c => c.completing = true)
    (lineBlind_enterHolding.comp (g := fun c => { c with completing := false, pass := none })
      ⟨fun _ _ _ => rfl, fun _ => rfl⟩)
    (g := fun c => c) ⟨fun _ _ _ => rfl, fun _ => rfl⟩ (fun _ _ _ => Iff.rfl)

theorem lineBlind_enterArmed (p : Profile) (a : Pass) : LineBlind (enterArmed · p a) := by
  constructor
  · intro c o n
    dsimp only [enterArmed, wired]
    cases c.kind with
    | floppy => rfl
    | cartridge => cases a.direction <;> dsimp only <;> split <;> rfl
  · intro c
    unfold enterArmed
    split
    · rfl
    · cases a.direction <;> dsimp only <;> split <;> rfl

theorem lineBlind_enterWinding (p : Profile) (a : Pass) : LineBlind (enterWinding · p a) :=
  .ite (q := fun c => c.inputs.bot = true)
    ((lineBlind_enterArmed p _).comp (g := fun c => { c with tapeEnd := .bot }) ⟨fun _ _ _ => rfl, fun _ => rfl⟩)
    (g := fun c => { c with
      state := .winding, stageTimer := some (tapeTicks p)
      pass := some { a with windingBegun := true, direction := .forward } })
    ⟨fun _ _ _ => rfl, fun _ => rfl⟩ (fun _ _ _ => Iff.rfl)

theorem lineBlind_afterSettling (p : Profile) (a : Pass) : LineBlind (afterSettling · p a) :=
  .ite (q := fun c => windingNeeded c a = true) (lineBlind_enterWinding p a) (lineBlind_enterArmed p a)
    (fun _ _ _ => Iff.rfl)

theorem lineBlind_afterSeeking (p : Profile) (a : Pass) : LineBlind (afterSeeking · p a) :=
  .ite (q := fun c => c.moved = true)
    (f := fun c => { c with state := .settling, stageTimer := some (settleTicks p), pass := some a })
    ⟨fun _ _ _ => rfl, fun _ => rfl⟩ (lineBlind_afterSettling p a) (fun _ _ _ => Iff.rfl)

theorem lineBlind_seekDone (p : Profile) (a : Pass) : LineBlind (seekDone · p a) :=
  .ite (q := fun c => c.offset = a.order.offset) (lineBlind_afterSeeking p a)
    ((lineBlind_afterSeeking p a).comp (g := fun c => { c with offset := a.order.offset, moved := true })
      ⟨fun _ _ _ => rfl, fun _ => rfl⟩) (fun _ _ _ => Iff.rfl)

theorem lineBlind_seekPulse (p : Profile) (a : Pass) : LineBlind (seekPulse · p a) :=
  (LineBlind.ite (q := fun c => c.position = (orderTarget p a.order).1) (lineBlind_seekDone p a) (g := fun c => c)
    ⟨fun _ _ _ => rfl, fun _ => rfl⟩ (fun _ _ _ => Iff.rfl)).comp (g := fun c => { c with
      state := .seeking, position := stepToward c.position (orderTarget p a.order).1, moved := true
      pulses := c.pulses + 1, stageTimer := some (stepTicks p), pass := some a }) ⟨fun _ _ _ => rfl, fun _ => rfl⟩

theorem lineBlind_enterSeeking (p : Profile) (a : Pass) : LineBlind (enterSeeking · p a) :=
  .ite (q := fun c => c.position = (orderTarget p a.order).1)
    ((lineBlind_seekDone p a).comp (g := fun c => { c with state := .seeking, pass := some a })
      ⟨fun _ _ _ => rfl, fun _ => rfl⟩)
    ((lineBlind_seekPulse p a).comp
      (g := fun c => { c with dirAsserted := decide (c.position < (orderTarget p a.order).1) })
      ⟨fun _ _ _ => rfl, fun _ => rfl⟩)
    (fun _ _ _ => Iff.rfl)

theorem lineBlind_afterRecal (p : Profile) (a : Pass) : LineBlind (afterRecal · p a) :=
  .ite (q := fun c => seekNeeded p c a.order = true) (lineBlind_enterSeeking p a) (lineBlind_afterSeeking p a)
    (fun _ _ _ => Iff.rfl)

theorem lineBlind_resume (p : Profile) (o : PassOrder) : LineBlind (resume · p o) :=
  (lineBlind_afterRecal p _).comp (g := fun c => { c with heldOrder := none, pass := some (Pass.ofOrder o) })
    ⟨fun _ _ _ => rfl, fun _ => rfl⟩

theorem recalSteps_floppy {c : Channel} (hk : c.kind = .floppy) (p : Profile) :
    c.recalSteps p = if c.inputs.track0 then ({ c with dirAsserted := false }, true)
      else ({ c with dirAsserted := false }.recalPulse p 0, false) := by
  unfold recalSteps
  split
  · rfl
  · next h => exact nomatch hk.symm.trans h

theorem recalSteps_cartridge {c : Channel} (hk : c.kind = .cartridge) (p : Profile) :
    c.recalSteps p = if c.inputs.lane0 then (c, true) else ({ c with dirAsserted := false }.recalPulse p 0, false) := by
  unfold recalSteps
  split
  · next h => exact nomatch hk.symm.trans h
  · rfl

/-- RECAL as either kind of channel enters it (R28, R29). -/
def recalEntered (c : Channel) : Channel := { c with
  state := .recal, positionKnown := false, holdTimer := none, moved := c.moved || decide (c.offset ≠ Offset.zero)
  offset := Offset.zero, recalStage := some { rewinding := false, pulses := 0 } }

theorem enterRecal_floppy {c : Channel} (hk : c.kind = .floppy) (p : Profile) :
    c.enterRecal p = c.recalEntered.recalSteps p := by
  unfold enterRecal
  dsimp only
  split
  · rfl
  · next h => exact nomatch hk.symm.trans h

theorem enterRecal_cartridge {c : Channel} (hk : c.kind = .cartridge) (p : Profile) :
    c.enterRecal p = if c.inputs.bot then { c.recalEntered with tapeEnd := .bot }.recalSteps p
      else ({ c.recalEntered with
        tapeEnd := .none, recalStage := some { rewinding := true, pulses := 0 }
        stageTimer := some (tapeTicks p) }, false) := by
  unfold enterRecal
  dsimp only
  split
  · next h => exact nomatch hk.symm.trans h
  · rfl

theorem recalSteps_wired (c : Channel) (p : Profile) (o : Outputs) (n : Option Nat) :
    (c.wired o n).recalSteps p = ((c.recalSteps p).1.wired o n, (c.recalSteps p).2) := by
  cases hk : c.kind with
  | floppy =>
    rw [recalSteps_floppy (c := c.wired o n) hk, recalSteps_floppy hk]
    change (if c.inputs.track0 = true then _ else _) = _
    split <;> rfl
  | cartridge =>
    rw [recalSteps_cartridge (c := c.wired o n) hk, recalSteps_cartridge hk]
    change (if c.inputs.lane0 = true then _ else _) = _
    split <;> rfl

theorem enterRecal_wired (c : Channel) (p : Profile) (o : Outputs) (n : Option Nat) :
    (c.wired o n).enterRecal p = ((c.enterRecal p).1.wired o n, (c.enterRecal p).2) := by
  cases hk : c.kind with
  | floppy =>
    rw [enterRecal_floppy (c := c.wired o n) hk, enterRecal_floppy hk]
    exact recalSteps_wired c.recalEntered p o n
  | cartridge =>
    rw [enterRecal_cartridge (c := c.wired o n) hk, enterRecal_cartridge hk]
    change (if c.inputs.bot = true then _ else _) = _
    split
    · exact recalSteps_wired { c.recalEntered with tapeEnd := .bot } p o n
    · rfl

end Channel

/-! ## A channel written again behind its pins -/

/-- The channel of a command once its pins are in. -/
def Channel.withInputs (c : Channel) (lines : Lines) : Channel := { c with inputs := lines }

theorem State.pins_eq (s : State) (ch : Chan) (lines : Lines) :
    s.pins ch lines = s.putChannel ch ((s.channel ch).withInputs lines) := rfl

theorem State.pins_channel (s : State) (ch : Chan) (lines : Lines) :
    (s.pins ch lines).channel ch = ((s.channel ch).withInputs lines).drive := by
  rw [State.pins_eq, State.putChannel_channel]

/-- What an operation gives behind the pins is what it gives without them, but for the lines. -/
theorem State.pins_apply {f : Channel → Channel} (hf : Channel.LineBlind f) (s : State) (ch : Chan) (lines : Lines) :
    ∃ o n, f ((s.pins ch lines).channel ch) = (f ((s.channel ch).withInputs lines)).wired o n := by
  rw [State.pins_channel]
  exact ⟨_, _, hf.wired _ _ _⟩

theorem State.pins_putChannel {f : Channel → Channel} (hf : Channel.LineBlind f) (s : State) (ch : Chan) (lines : Lines)
    (hm : motorOn (s.channel ch).state = true ∨ (outputsOf (f ((s.channel ch).withInputs lines))).motor = false) :
    (s.pins ch lines).putChannel ch (f ((s.pins ch lines).channel ch)) =
      s.putChannel ch (f ((s.channel ch).withInputs lines)) := by
  rw [State.pins_eq, State.putChannel_putChannel, State.putChannel_channel]
  exact congrArg (fun d => { s with channels := qset s.channels ch d })
    (hf.drive_drive (c := (s.channel ch).withInputs lines) hm)

end Sys2Proof.Machine
end


/-! # The interval counter, the hold timer and RECAL's tests (R36, R40, R47) -/

section
/-! SUPPORT. What each state of the interval counter makes of its events, and how RECAL is taken by a quiet channel and by one
in HOLDING. -/

namespace Sys2Proof.Machine

/-! ## The interval counter and the hold timer (R36, R40) -/

section
variable {s : State} {ch : Chan} {a : Pass}

theorem exec_fluxTransition_pass (h : (s.channel ch).pass = some a) (ticks : Nat) :
    exec (.fluxTransition ch ticks) s =
      .next (s.putChannel ch ((s.channel ch).takeTransition (s.chanProfile ch) a.order.volume ticks)) := by
  simp only [exec, execFluxTransition, h]

theorem exec_counterSaturation_pass (h : (s.channel ch).pass = some a) :
    exec (.counterSaturation ch) s =
      .next (s.putChannel ch ((s.channel ch).saturateCounter (s.chanProfile ch) a.order.volume)) := by
  simp only [exec, execCounterSaturation, h]

theorem exec_fluxTransition_idle (h : (s.channel ch).pass = none) (ticks : Nat) :
    exec (.fluxTransition ch ticks) s = .next s := by
  simp only [exec, execFluxTransition, h]

theorem exec_counterSaturation_idle (h : (s.channel ch).pass = none) : exec (.counterSaturation ch) s = .next s := by
  simp only [exec, execCounterSaturation, h]

end

section
variable {c : Channel} {p : Profile} {volume ticks n : Nat}

theorem Channel.takeTransition_stopped (h : c.counter = .stopped) : c.takeTransition p volume ticks = c := by
  simp only [Channel.takeTransition, h]

theorem Channel.takeTransition_notCounting (h : c.counter = .idle ∨ c.counter = .held) :
    c.takeTransition p volume ticks = { c with counter := .counting 0 } := by
  rcases h with h | h <;> simp only [Channel.takeTransition, h]

theorem Channel.takeTransition_counting (h : c.counter = .counting n) : c.takeTransition p volume ticks =
    if n + ticks = 0 then c else { c with counter := .counting 0 }.deliver p volume (min (n + ticks) 65535) := by
  simp only [Channel.takeTransition, h]
  rfl

theorem Channel.saturateCounter_notCounting (h : ∀ n, c.counter ≠ .counting n) : c.saturateCounter p volume = c := by
  unfold Channel.saturateCounter
  split
  · next n hn => exact absurd hn (h n)
  all_goals rfl

theorem Channel.saturateCounter_counting (h : c.counter = .counting n) :
    c.saturateCounter p volume = { c with counter := .held }.deliver p volume 65535 := by
  simp only [Channel.saturateCounter, h]
  rfl

end

section
variable {s : State} {ch : Chan}

theorem exec_holdTimerExpiry_other (h : (s.channel ch).state ≠ .holding) (lines : Lines) :
    exec (.holdTimerExpiry ch lines) s = .next (s.pins ch lines) :=
  congrArg Host.Outcome.next (if_neg h)

theorem exec_holdTimerExpiry_holding (h : (s.channel ch).state = .holding) (lines : Lines) :
    exec (.holdTimerExpiry ch lines) s = .next
      (s.putChannel ch { s.channel ch with inputs := lines, state := .idle, holdTimer := none }) := by
  refine congrArg Host.Outcome.next ((if_pos h).trans ?_)
  exact State.pins_putChannel (f := fun c => { c with state := .idle, holdTimer := none })
    ⟨fun _ _ _ => rfl, fun _ => rfl⟩ s ch lines (.inl (by rw [h]; rfl))

end

/-- Settles O57: by the state of the counter, and by whether the channel holds. -/
theorem fluxAndHold : Obligations.FluxAndHold := by
  intro s ch c hc p
  subst hc
  refine ⟨fun a ticks hpass => ?_, fun hpass ticks => ⟨exec_fluxTransition_idle hpass ticks,
    exec_counterSaturation_idle hpass⟩, fun lines => ⟨fun hstate hprobe => ?expires, fun hstate =>
    exec_holdTimerExpiry_other hstate lines⟩⟩
  case expires =>
    refine ⟨_, exec_holdTimerExpiry_holding hstate lines, rfl, ?_⟩
    rw [State.putChannel_channel]
    refine ⟨?_, ?_, rfl, rfl, rfl⟩ <;> cases hk : (s.channel ch).kind <;> simp [outputsOf, hk, hprobe, motorOn]
  intro env given
  rw [exec_fluxTransition_pass hpass, exec_counterSaturation_pass hpass]
  refine ⟨fun hstop => ?stopped, fun hidle => ?notCounting, fun n hcount hrun => ?counting⟩
  case stopped =>
    rw [Channel.takeTransition_stopped hstop, Channel.saturateCounter_notCounting (by simp [hstop])]
    exact ⟨rfl, rfl⟩
  case notCounting =>
    rw [Channel.takeTransition_notCounting hidle,
      Channel.saturateCounter_notCounting (by rcases hidle with h | h <;> simp [h])]
    exact ⟨rfl, rfl⟩
  case counting =>
    rw [Channel.takeTransition_counting hcount, Channel.saturateCounter_counting hcount]
    refine ⟨fun hpos => ?_, fun hzero => by rw [if_pos hzero], ?_⟩
    · rw [if_neg (Nat.ne_of_gt hpos)]
      exact congrArg (fun d => Host.Outcome.next (s.putChannel ch d)) (if_pos hrun)
    · exact congrArg (fun d => Host.Outcome.next (s.putChannel ch d)) (if_pos hrun)

/-! ## RECAL's tests (R47) -/

section
variable {s : State} {ch : Chan} {tag cb : Byte}

theorem exec_recal_badChannel (hids : s.link.idsFresh) (hacc : Accepts s 0x38 [cb]) (h : 4 ≤ cb.toNat) :
    exec (.recal tag [cb]) s = .next (s.answered 0x38 tag .badChannel []) := by
  refine congrArg Host.Outcome.next ((State.withRequest_accepted hacc).trans ?_)
  rw [← State.setLink_accepted_reply hids, State.serveRecal, payloadChan_large h]

theorem exec_recal_taken (hacc : Accepts s 0x38 [chanByte ch]) (hprobe : (s.channel ch).probe = none) :
    exec (.recal tag [chanByte ch]) s =
      .next ((s.setLink (s.link.accepted 0x38 tag)).takeRecal ch s.link.nextId tag) := by
  refine congrArg Host.Outcome.next ((State.withRequest_accepted hacc).trans ?_)
  rw [State.serveRecal, payloadChan_chanByte]
  dsimp only [State.setLink_channel]
  rw [hprobe]

end

theorem Volume.inRun_iff {v : Volume} : v.inRun = true ↔ v.planner.run = .running ∨ v.planner.run = .pausing := by
  simp [Volume.inRun]

theorem State.anyInRun_iff {s : State} {ch : Chan} : (s.volume ch).any Volume.inRun = true ↔
    ∃ v, s.volume ch = some v ∧ (v.planner.run = .running ∨ v.planner.run = .pausing) := by
  cases s.volume ch <;> simp [Volume.inRun_iff]

/-- A RECAL that passes every test, as the channel takes it. -/
theorem State.takeRecal_passes {s : State} {ch : Chan} (habsent : (s.channel ch).state ≠ .absent)
    (hrun : ¬ (s.volume ch).any Volume.inRun = true) (hfree : (s.channel ch).recal = none) {c : Channel} {id : Nat} {tag : Byte}
    (hc : c = { s.channel ch with
      recal := some { id := id, tag := tag, noVolume := (s.volume ch).isNone }, moved := false, holdTimer := none }) :
    s.takeRecal ch id tag = if motorOn (s.channel ch).state then s.startRecal ch c
      else s.putChannel ch (c.enterSpinup (s.recalProfile ch c)) := by
  subst hc
  unfold State.takeRecal
  dsimp only
  rw [if_neg habsent, if_neg hrun, if_neg (by simp [hfree])]

/-- The times of a request taken with no volume mounted are those of R47. -/
theorem State.recalProfile_flight {s : State} {ch : Chan} {c : Channel} {f : RecalFlight} (h : c.recal = some f) :
    s.recalProfile ch c = if f.noVolume then noVolumeProfile else s.chanProfile ch := by
  simp only [State.recalProfile, h]

theorem State.recalProfile_pass {s : State} {ch : Chan} {c : Channel} (h : c.recal = none) :
    s.recalProfile ch c = s.chanProfile ch := by
  simp only [State.recalProfile, h]

theorem Channel.enterRecal_floppy_away {c : Channel} (hk : c.kind = .floppy) (h : c.inputs.track0 = false) (p : Profile) :
    c.enterRecal p = ({ c.recalEntered with dirAsserted := false }.recalPulse p 0, false) := by
  rw [Channel.enterRecal_floppy hk, Channel.recalSteps_floppy (c := c.recalEntered) hk]
  exact if_neg (Bool.eq_false_iff.mp h)

theorem Channel.enterRecal_cartridge_away {c : Channel} (hk : c.kind = .cartridge) (h : c.inputs.bot = false)
    (p : Profile) : c.enterRecal p = ({ c.recalEntered with
      tapeEnd := .none, recalStage := some { rewinding := true, pulses := 0 }
      stageTimer := some (tapeTicks p) }, false) := by
  rw [Channel.enterRecal_cartridge hk]
  exact if_neg (Bool.eq_false_iff.mp h)

/-- RECAL entered by a channel away from its end sensor. -/
theorem State.startRecal_away {s : State} {ch : Chan} {c d : Channel}
    (h : c.enterRecal (s.recalProfile ch c) = (d, false)) : s.startRecal ch c = s.putChannel ch d := by
  unfold State.startRecal
  rw [h]
  rfl

/-- Settles O49: R47's tests in their order, and R27's or R28's beginning of an accepted request. -/
theorem recalAccepted : Obligations.RecalAccepted := by
  intro s tag cb hids hacc
  refine ⟨fun h => exec_recal_badChannel hids hacc h, fun ch hcb hprobe => ?_⟩
  subst hcb
  rw [exec_recal_taken hacc hprobe]
  refine ⟨fun habsent => ?absent, fun habsent => ⟨fun hbusy => ?busy, fun hrun hfree => ?_⟩⟩
  case absent =>
    rw [← State.setLink_accepted_reply hids]
    exact congrArg Host.Outcome.next (if_pos habsent)
  case busy =>
    rw [← State.setLink_accepted_reply hids]
    refine congrArg Host.Outcome.next ((if_neg habsent).trans ?_)
    by_cases hany : (s.volume ch).any Volume.inRun = true
    · exact if_pos hany
    · refine (if_neg hany).trans (if_pos ?_)
      exact Option.isSome_iff_ne_none.mpr (hbusy.resolve_left fun h => hany (State.anyInRun_iff.mpr h))
  intro flight p
  have hquiet : ¬ (s.volume ch).any Volume.inRun = true := fun h => by
    obtain ⟨v, hv, hin⟩ := State.anyInRun_iff.mp h
    exact hin.elim (hrun v hv).1 (hrun v hv).2
  generalize hc : ({ s.channel ch with recal := some flight, moved := false, holdTimer := none } : Channel) = c
  have hflight : flight = { id := s.link.nextId, tag := tag, noVolume := (s.volume ch).isNone } := by
    simp only [flight]
    cases s.volume ch <;> rfl
  have htaken : (s.setLink (s.link.accepted 0x38 tag)).takeRecal ch s.link.nextId tag = _ :=
    State.takeRecal_passes (s := s.setLink (s.link.accepted 0x38 tag)) habsent hquiet hfree
      (hc.symm.trans (by rw [hflight]; rfl))
  have hp : (s.setLink (s.link.accepted 0x38 tag)).recalProfile ch c = p := by
    rw [State.recalProfile_flight (f := flight) (by rw [← hc])]
    simp only [flight, p, decide_eq_true_eq]
    rfl
  rw [htaken]
  refine ⟨fun hstill => ?spinup, fun hhold hk htrack => ?floppy, fun hhold hk hbot => ?cartridge⟩
  case spinup =>
    have hmotor : ¬ motorOn (s.channel ch).state = true := by rcases hstill with h | h <;> simp [h, motorOn]
    rw [State.setLink_channel, if_neg hmotor, hp, ← hc]
    rfl
  case floppy =>
    rw [State.setLink_channel, if_pos (by rw [hhold]; rfl), State.startRecal_away
      (Channel.enterRecal_floppy_away (by rw [← hc]; exact hk) (by rw [← hc]; exact htrack) _), hp, ← hc]
    rfl
  case cartridge =>
    rw [State.setLink_channel, if_pos (by rw [hhold]; rfl), State.startRecal_away
      (Channel.enterRecal_cartridge_away (by rw [← hc]; exact hk) (by rw [← hc]; exact hbot) _), hp, ← hc]
    refine ⟨_, rfl, rfl, ?_⟩
    rw [State.putChannel_channel]
    refine ⟨rfl, ?_, rfl, rfl, rfl, rfl, rfl, rfl, fun k hne => State.putChannel_channel_ne _ _ _ _ hne⟩
    simp [outputsOf, Channel.recalEntered, hk, tapeMotion]

end Sys2Proof.Machine
end


/-! # The stages of a pass and of a recalibration (R26 to R32, R37, R38, R48) -/

section
/-! SUPPORT. What each stage goes on to, one equation per case of its rule, and the commands that end a stage. -/

namespace Sys2Proof.Machine

/-! ## SETTLING, WINDING and ARMED (R31, R32, R37, R38) -/

namespace Channel

section
variable {c : Channel} {p : Profile} {a : Pass}

theorem enterArmed_floppy (hk : c.kind = .floppy) : c.enterArmed p a =
    { c with state := .armed, stageTimer := some (6000000000 / p.rpm), pass := some a } := by
  unfold enterArmed
  split
  · rfl
  · next h => exact nomatch hk.symm.trans h

/-- The channel armed on a cartridge (R38). -/
def armedAtMarker (c : Channel) (p : Profile) (a : Pass) : Channel :=
  { c with state := .armed, stageTimer := some (p.laneTime * 60000000), tapeEnd := .none, pass := some a }

theorem enterArmed_cartridge (hk : c.kind = .cartridge) : c.enterArmed p a =
    if (if a.direction = .forward then c.inputs.bot else c.inputs.eot) = true then c.armedAtMarker p a
    else (c.armedAtMarker p a).startCapture p a := by
  unfold enterArmed
  split
  · next h => exact nomatch hk.symm.trans h
  · cases hd : a.direction <;> rfl

theorem startCapture_cartridge (hk : c.kind = .cartridge) : c.startCapture p a = { c with
    state := .capturing, counter := .idle, pass := some { a with revolutionsDone := 0 }
    separator := c.separator.startPass p a.order.gain a.order.window
    decoder := c.decoder.startPass a.direction a.order.track a.order.passNumber } := by
  unfold startCapture
  split
  · next h => exact nomatch hk.symm.trans h
  · rfl

theorem windingNeeded_iff : windingNeeded c a = true ↔ ¬ (c.kind = .floppy ∨
    c.tapeEnd = (if a.direction = .forward then TapeEnd.bot else TapeEnd.eot)) := by
  cases hk : c.kind <;> cases hd : a.direction <;> simp [windingNeeded, hk, hd]

theorem afterSettling_arms
    (h : c.kind = .floppy ∨ c.tapeEnd = (if a.direction = .forward then TapeEnd.bot else TapeEnd.eot)) :
    c.afterSettling p a = c.enterArmed p a :=
  if_neg fun hw => windingNeeded_iff.mp hw h

theorem afterSettling_winds
    (h : ¬ (c.kind = .floppy ∨ c.tapeEnd = (if a.direction = .forward then TapeEnd.bot else TapeEnd.eot)))
    (hbot : c.inputs.bot = false) : c.afterSettling p a = { c with
      state := .winding, stageTimer := some (p.laneTime * 60000000)
      pass := some { a with windingBegun := true, direction := .forward } } :=
  (if_pos (windingNeeded_iff.mpr h)).trans (if_neg (Bool.eq_false_iff.mp hbot))

/-- A tape that stands at BOT ends its winding at once; ARMED sets the tape end anew. -/
theorem afterSettling_wound
    (h : ¬ (c.kind = .floppy ∨ c.tapeEnd = (if a.direction = .forward then TapeEnd.bot else TapeEnd.eot)))
    (hbot : c.inputs.bot = true) :
    c.afterSettling p a = c.enterArmed p { a with windingBegun := true, direction := .forward } := by
  have hk : c.kind = .cartridge := by
    cases hk : c.kind with
    | floppy => exact absurd (.inl hk) h
    | cartridge => rfl
  refine (if_pos (windingNeeded_iff.mpr h)).trans ((if_pos hbot).trans ?_)
  rw [enterArmed_cartridge (c := { c with tapeEnd := .bot }) hk, enterArmed_cartridge hk]
  rfl

/-! ## SEEKING (R30) -/

theorem seekPulse_goesOn (h : stepToward c.position (orderTarget p a.order).1 ≠ (orderTarget p a.order).1) :
    c.seekPulse p a = { c with
      state := .seeking, position := stepToward c.position (orderTarget p a.order).1, moved := true
      pulses := c.pulses + 1, stageTimer := some (p.stepInterval * 40000), pass := some a } :=
  if_neg h

theorem seekDone_moved (h : c.moved = true) : c.seekDone p a = { c with
    state := .settling, moved := true, stageTimer := some (p.settleTime * 40000), pass := some a
    offset := a.order.offset } := by
  unfold seekDone
  split
  · next ho => rw [← ho, afterSeeking, if_pos h, ← h]; rfl
  · rfl

/-- The pulse that reaches the target: the offset level is set, and SETTLING follows. -/
theorem seekPulse_arrives (h : stepToward c.position (orderTarget p a.order).1 = (orderTarget p a.order).1) :
    c.seekPulse p a = { c with
      state := .settling, position := (orderTarget p a.order).1, moved := true, pulses := c.pulses + 1
      stageTimer := some (p.settleTime * 40000), pass := some a, offset := a.order.offset } := by
  refine (if_pos h).trans ((seekDone_moved rfl).trans ?_)
  rw [h]

theorem stepToward_eq_iff {position target : Nat} (hne : position ≠ target) :
    stepToward position target = target ↔ position + 1 = target ∨ target + 1 = position := by
  unfold stepToward
  split <;> omega

/-! ## On from RECAL, or from SPINUP with the position known (R26, R28) -/

theorem afterRecal_seeks (hne : c.position ≠ (orderTarget p a.order).1) : c.afterRecal p a =
    { c with dirAsserted := decide (c.position < (orderTarget p a.order).1) }.seekPulse p a := by
  have hneed : seekNeeded p c a.order = true := by simp [seekNeeded, hne]
  exact (if_pos hneed).trans (if_neg hne)

theorem afterRecal_offsets (hpos : c.position = (orderTarget p a.order).1) (ho : c.offset ≠ a.order.offset) :
    c.afterRecal p a = { c with
      state := .settling, moved := true, stageTimer := some (p.settleTime * 40000), pass := some a
      offset := a.order.offset } := by
  have hneed : seekNeeded p c a.order = true := by simp [seekNeeded, ho]
  exact (if_pos hneed).trans ((if_pos hpos).trans (if_neg ho))

theorem afterRecal_there (hpos : c.position = (orderTarget p a.order).1) (ho : c.offset = a.order.offset) :
    c.afterRecal p a = c.afterSeeking p a := by
  have hneed : ¬ seekNeeded p c a.order = true := by simp [seekNeeded, ho, hpos]
  exact if_neg hneed

theorem afterSeeking_moved (h : c.moved = true) : c.afterSeeking p a =
    { c with state := .settling, stageTimer := some (p.settleTime * 40000), pass := some a } :=
  if_pos h

theorem afterSeeking_unmoved (h : ¬ c.moved = true) : c.afterSeeking p a = c.afterSettling p a :=
  if_neg h

end

end Channel

/-! ## SEEK_PULSE_DUE, SETTLE_TIMER_EXPIRY, WINDING_BOT -/

section
variable {s : State} {ch : Chan} {a : Pass}

theorem exec_seekPulseDue_seeking (hs : (s.channel ch).state = .seeking) (hp : (s.channel ch).pass = some a)
    (lines : Lines) : exec (.seekPulseDue ch lines) s = .next
      (s.putChannel ch (((s.channel ch).withInputs lines).seekPulse (s.chanProfile ch) a)) := by
  simp only [exec, execSeekPulseDue, hs, hp]
  exact congrArg Host.Outcome.next (State.pins_putChannel (Channel.lineBlind_seekPulse (s.chanProfile ch) a) s ch lines
    (.inl (by rw [hs]; rfl)))

theorem exec_seekPulseDue_other (hs : (s.channel ch).state ≠ .seeking) (lines : Lines) :
    exec (.seekPulseDue ch lines) s = .next (s.pins ch lines) := by
  simp only [exec, execSeekPulseDue]
  split
  · next h _ => exact absurd h hs
  · rfl

theorem exec_settleTimerExpiry_settling (hs : (s.channel ch).state = .settling) (hp : (s.channel ch).pass = some a)
    (lines : Lines) : exec (.settleTimerExpiry ch lines) s = .next
      (s.putChannel ch (((s.channel ch).withInputs lines).expired.afterSettling (s.chanProfile ch) a)) := by
  simp only [exec, execSettleTimerExpiry, hs, hp]
  exact congrArg Host.Outcome.next (State.pins_putChannel
    ((Channel.lineBlind_afterSettling (s.chanProfile ch) a).comp Channel.lineBlind_expired) s ch lines
    (.inl (by rw [hs]; rfl)))

theorem exec_windingBot_winding (hs : (s.channel ch).state = .winding) (hp : (s.channel ch).pass = some a)
    (lines : Lines) : exec (.windingBot ch lines) s = .next
      (s.putChannel ch ({ ((s.channel ch).withInputs { lines with bot := true }).expired with tapeEnd := .bot }.enterArmed
        (s.chanProfile ch) a)) := by
  simp only [exec, execWindingBot, hs, hp]
  exact congrArg Host.Outcome.next (State.pins_putChannel
    ((Channel.lineBlind_enterArmed (s.chanProfile ch) a).comp (g := fun c => { c.expired with tapeEnd := .bot })
      ⟨fun _ _ _ => rfl, fun _ => rfl⟩) s ch { lines with bot := true } (.inl (by rw [hs]; rfl)))

theorem exec_windingBot_other (hs : (s.channel ch).state ≠ .winding) (lines : Lines) :
    exec (.windingBot ch lines) s = .next (s.pins ch { lines with bot := true }) := by
  simp only [exec, execWindingBot]
  split
  · next h _ => exact absurd h hs
  · rfl

end

/-- Settles O54: each stage by the equation of what it goes on to. -/
theorem seekSettleWind : Obligations.SeekSettleWind := by
  intro s ch lines c a hc hpass
  subst hc
  intro p target moved
  refine ⟨fun hs => ?seeking, fun hs => exec_seekPulseDue_other hs lines, fun hs => ?settling,
    fun hs hk hd => ?winding, fun hs => exec_windingBot_other hs lines⟩
  case seeking =>
    rw [exec_seekPulseDue_seeking hs hpass]
    have goesOn (hne : stepToward (s.channel ch).position target ≠ target) :=
      Channel.seekPulse_goesOn (c := (s.channel ch).withInputs lines) (p := p) (a := a) hne
    refine ⟨fun hup => ?_, fun hdown => ?_, fun hnear => ?_⟩
    · have hstep : stepToward (s.channel ch).position target = (s.channel ch).position + 1 := if_pos (by omega)
      rw [goesOn (by omega)]
      simp only [moved, ← hpass, ← hs, ← hstep]
      dsimp only [Channel.withInputs, Channel.expired]
    · have hstep : stepToward (s.channel ch).position target = (s.channel ch).position - 1 := if_neg (by omega)
      rw [goesOn (by omega)]
      simp only [moved, ← hpass, ← hs, ← hstep]
      dsimp only [Channel.withInputs, Channel.expired]
    · have hstep : stepToward (s.channel ch).position target = target :=
        (Channel.stepToward_eq_iff (by omega)).mpr hnear
      rw [Channel.seekPulse_arrives (c := (s.channel ch).withInputs lines) hstep, ← hpass]
      dsimp only [Channel.withInputs, Channel.expired]
  case settling =>
    rw [exec_settleTimerExpiry_settling hs hpass]
    have hnot (hk : (s.channel ch).kind = .cartridge) (hd : a.direction = .forward) (he : (s.channel ch).tapeEnd ≠ .bot) :
        ¬ ((s.channel ch).kind = .floppy ∨
          (s.channel ch).tapeEnd = (if a.direction = .forward then TapeEnd.bot else TapeEnd.eot)) := by
      simp [hk, hd, he]
    refine ⟨fun hk => ?_, fun hk hd he hb => ?_, fun hk hd he hb => ?_⟩
    · rw [Channel.afterSettling_arms (c := ((s.channel ch).withInputs lines).expired) (.inl hk),
        Channel.enterArmed_floppy (c := ((s.channel ch).withInputs lines).expired) hk, ← hpass]
      dsimp only [Channel.withInputs, Channel.expired]
    · rw [Channel.afterSettling_winds (c := ((s.channel ch).withInputs lines).expired) (hnot hk hd he) hb, ← hd]
      dsimp only [Channel.withInputs, Channel.expired]
    · rw [Channel.afterSettling_arms (c := ((s.channel ch).withInputs lines).expired) (.inr (by rw [if_pos hd]; exact he)),
        Channel.enterArmed_cartridge (c := ((s.channel ch).withInputs lines).expired) hk, if_pos hd]
      refine congrArg (fun d => Host.Outcome.next (s.putChannel ch d)) ((if_pos hb).trans ?_)
      rw [Channel.armedAtMarker, ← hpass]
      dsimp only [Channel.withInputs, Channel.expired]
  case winding =>
    rw [exec_windingBot_winding hs hpass]
    refine congrArg (fun d => Host.Outcome.next (s.putChannel ch d))
      ((Channel.enterArmed_cartridge (by exact hk)).trans ((if_pos (by rw [if_pos hd]; rfl)).trans ?_))
    rw [Channel.armedAtMarker, ← hpass]
    dsimp only [Channel.withInputs, Channel.expired]

/-! ## The end of a recalibration (R28, R29, R48, R49) -/

section
variable {s : State} {ch : Chan} {c : Channel} {f : RecalFlight}

/-- The channel of a request whose recalibration has succeeded, with no order held (R48). -/
def Channel.recalAnswered (c : Channel) : Channel := { c.recalSucceeded with recal := none }.enterHolding

/-- The channel of a request whose recalibration has succeeded, going on with the order it held (R49). -/
def Channel.recalResumed (c : Channel) (p : Profile) (o : PassOrder) : Channel :=
  { c.recalSucceeded with recal := none }.resume p o

theorem Channel.lineBlind_recalAnswered : LineBlind recalAnswered := ⟨fun _ _ _ => rfl, fun _ => rfl⟩

theorem Channel.lineBlind_recalResumed (p : Profile) (o : PassOrder) : LineBlind (recalResumed · p o) :=
  (Channel.lineBlind_resume p o).comp (g := fun c => { c.recalSucceeded with recal := none })
    ⟨fun _ _ _ => rfl, fun _ => rfl⟩

theorem State.recalEnds_answered (hf : c.recal = some f) (hh : c.heldOrder = none) :
    s.recalEnds ch c = (s.putChannel ch c.recalAnswered).reply f.id .ok [] := by
  unfold State.recalEnds
  rw [hf]
  dsimp only
  split
  · next o ho => exact nomatch hh.symm.trans ho
  · rfl

theorem State.recalEnds_resumed (hf : c.recal = some f) {o : PassOrder} (hh : c.heldOrder = some o) :
    s.recalEnds ch c = (s.putChannel ch (c.recalResumed (s.chanProfile ch) o)).reply f.id .ok [] := by
  unfold State.recalEnds
  rw [hf]
  dsimp only
  split
  · next o' ho =>
    obtain rfl : o' = o := Option.some.inj (ho.symm.trans hh)
    rfl
  · next ho => exact nomatch hh.symm.trans ho

theorem State.recalEnds_pass (hf : c.recal = none) {a : Pass} (hp : c.pass = some a) :
    s.recalEnds ch c = s.putChannel ch (c.recalSucceeded.afterRecal (s.chanProfile ch) a) := by
  simp only [State.recalEnds, hf, Channel.recalSucceeded, hp]

end

/-! ## RECAL_PULSE_DUE and REWIND_BOT (R28, R29) -/

theorem Channel.atOrigin_iff {c : Channel} :
    c.atOrigin = true ↔ if c.kind = .floppy then c.inputs.track0 = true else c.inputs.lane0 = true := by
  cases hk : c.kind <;> simp [Channel.atOrigin, hk]

theorem State.atOrigin_pins {s : State} {ch : Chan} {lines : Lines} : ((s.pins ch lines).channel ch).atOrigin = true ↔
    if (s.channel ch).kind = .floppy then lines.track0 = true else lines.lane0 = true := by
  rw [State.pins_channel]
  exact Channel.atOrigin_iff

theorem State.recalProfile_pins (s : State) (ch : Chan) (lines : Lines) :
    (s.pins ch lines).recalProfile ch ((s.pins ch lines).channel ch) = s.recalProfile ch (s.channel ch) := by
  rw [State.pins_channel]
  rfl

section
variable {s : State} {ch : Chan} {n : Nat}

theorem exec_recalPulseDue_due (hs : (s.channel ch).state = .recal)
    (hr : (s.channel ch).recalStage = some { rewinding := false, pulses := n }) (lines : Lines) :
    exec (.recalPulseDue ch lines) s = .next ((s.pins ch lines).recalPulseFalls ch n) := by
  simp only [exec, execRecalPulseDue, hs, hr]

theorem exec_recalPulseDue_other (hs : (s.channel ch).state ≠ .recal) (lines : Lines) :
    exec (.recalPulseDue ch lines) s = .next (s.pins ch lines) := by
  simp only [exec, execRecalPulseDue]
  split
  · next h _ => exact absurd h hs
  · rfl

theorem exec_rewindBot_due (hs : (s.channel ch).state = .recal)
    (hr : (s.channel ch).recalStage = some { rewinding := true, pulses := n }) (lines : Lines) :
    exec (.rewindBot ch lines) s = .next ((s.pins ch { lines with bot := true }).rewindEnds ch) := by
  simp only [exec, execRewindBot, hs, hr]

theorem exec_rewindBot_other (hs : (s.channel ch).state ≠ .recal) (lines : Lines) :
    exec (.rewindBot ch lines) s = .next (s.pins ch { lines with bot := true }) := by
  simp only [exec, execRewindBot]
  split
  · next h _ => exact absurd h hs
  · rfl

/-- A pulse that finds the end sensor ends the recalibration. -/
theorem State.recalPulseFalls_ends (h : (s.channel ch).atOrigin = true) :
    s.recalPulseFalls ch n = s.recalEnds ch (s.channel ch) :=
  if_pos h

theorem State.recalPulseFalls_goesOn (h : ¬ (s.channel ch).atOrigin = true) (hn : n < recalLimit (s.channel ch).kind) :
    s.recalPulseFalls ch n =
      s.putChannel ch ((s.channel ch).recalPulse (s.recalProfile ch (s.channel ch)) n) :=
  (if_neg h).trans (if_neg hn.not_ge)

/-- The channel as its rewind reaches BOT (R29). -/
def Channel.rewound (c : Channel) : Channel :=
  { c.expired with tapeEnd := .bot, recalStage := some { rewinding := false, pulses := 0 } }

theorem Channel.lineBlind_rewound : Channel.LineBlind Channel.rewound := ⟨fun _ _ _ => rfl, fun _ => rfl⟩

theorem State.rewindEnds_steps (hk : (s.channel ch).kind = .cartridge) (h : (s.channel ch).inputs.lane0 = false) :
    s.rewindEnds ch = s.putChannel ch ({ (s.channel ch).rewound with dirAsserted := false }.recalPulse
      (s.recalProfile ch (s.channel ch)) 0) := by
  have hsteps := (Channel.recalSteps_cartridge (c := (s.channel ch).rewound) hk
    (s.recalProfile ch (s.channel ch).rewound)).trans (if_neg (Bool.eq_false_iff.mp h))
  unfold State.rewindEnds
  rw [← Channel.rewound]
  dsimp only
  rw [hsteps]
  rfl

theorem State.rewindEnds_ends (hk : (s.channel ch).kind = .cartridge) (h : (s.channel ch).inputs.lane0 = true) :
    s.rewindEnds ch = s.recalEnds ch (s.channel ch).rewound := by
  have hsteps := (Channel.recalSteps_cartridge (c := (s.channel ch).rewound) hk
    (s.recalProfile ch (s.channel ch).rewound)).trans (if_pos h)
  unfold State.rewindEnds
  rw [← Channel.rewound]
  dsimp only
  rw [hsteps]
  rfl

end

section
variable {s : State} {ch : Chan} {lines : Lines} {f : RecalFlight} {o : PassOrder} {a : Pass}

/-! The recalibration's end behind the pins the command brought, for a channel whose MOTOR is asserted. -/

theorem State.pins_recalEnds_answered {g : Channel → Channel} (hg : Channel.LineBlind g)
    (hon : motorOn (s.channel ch).state = true) (hf : (g ((s.channel ch).withInputs lines)).recal = some f)
    (hh : (g ((s.channel ch).withInputs lines)).heldOrder = none) :
    (s.pins ch lines).recalEnds ch (g ((s.pins ch lines).channel ch)) =
      (s.putChannel ch (g ((s.channel ch).withInputs lines)).recalAnswered).reply f.id .ok [] := by
  obtain ⟨_, _, hg'⟩ := State.pins_apply hg s ch lines
  rw [State.recalEnds_answered (by rw [hg']; exact hf) (by rw [hg']; exact hh)]
  exact congrArg (fun t : State => t.reply f.id .ok [])
    (State.pins_putChannel (Channel.lineBlind_recalAnswered.comp hg) s ch lines (.inl hon))

theorem State.pins_recalEnds_resumed {g : Channel → Channel} (hg : Channel.LineBlind g)
    (hon : motorOn (s.channel ch).state = true) (hf : (g ((s.channel ch).withInputs lines)).recal = some f)
    (hh : (g ((s.channel ch).withInputs lines)).heldOrder = some o) :
    (s.pins ch lines).recalEnds ch (g ((s.pins ch lines).channel ch)) =
      (s.putChannel ch ((g ((s.channel ch).withInputs lines)).recalResumed (s.chanProfile ch) o)).reply f.id .ok [] := by
  obtain ⟨_, _, hg'⟩ := State.pins_apply hg s ch lines
  rw [State.recalEnds_resumed (by rw [hg']; exact hf) (by rw [hg']; exact hh)]
  exact congrArg (fun t : State => t.reply f.id .ok [])
    (State.pins_putChannel ((Channel.lineBlind_recalResumed (s.chanProfile ch) o).comp hg) s ch lines (.inl hon))

theorem State.pins_recalEnds_pass {g : Channel → Channel} (hg : Channel.LineBlind g)
    (hon : motorOn (s.channel ch).state = true) (hf : (g ((s.channel ch).withInputs lines)).recal = none)
    (hp : (g ((s.channel ch).withInputs lines)).pass = some a) :
    (s.pins ch lines).recalEnds ch (g ((s.pins ch lines).channel ch)) =
      s.putChannel ch ((g ((s.channel ch).withInputs lines)).recalSucceeded.afterRecal (s.chanProfile ch) a) := by
  obtain ⟨_, _, hg'⟩ := State.pins_apply hg s ch lines
  rw [State.recalEnds_pass (by rw [hg']; exact hf) (by rw [hg']; exact hp)]
  exact State.pins_putChannel (((Channel.lineBlind_afterRecal (s.chanProfile ch) a).comp
    Channel.lineBlind_recalSucceeded).comp hg) s ch lines (.inl hon)

end

theorem Channel.lineBlind_id : Channel.LineBlind (fun c => c) := ⟨fun _ _ _ => rfl, fun _ => rfl⟩

/-- Settles O53: the pulse goes on or finds the end sensor, the rewind ends at BOT. -/
theorem recalibrationGoesOn : Obligations.RecalibrationGoesOn := by
  intro s ch lines c hc
  subst hc
  intro p home
  refine ⟨fun hs => ⟨exec_recalPulseDue_other hs lines, exec_rewindBot_other hs lines⟩, fun n hs hr haway => ?pulse,
    fun n hs hr hfound => ?found, fun n hs hr hk => ?rewind⟩
  all_goals have hon : motorOn (s.channel ch).state = true := by rw [hs]; rfl
  case pulse =>
    have hlimit : n < recalLimit (s.channel ch).kind := by
      cases hk : (s.channel ch).kind with
      | floppy => rw [hk, if_pos rfl] at haway; exact haway.2
      | cartridge => rw [hk, if_neg nofun] at haway; exact haway.2
    have hnot : ¬ ((s.pins ch lines).channel ch).atOrigin = true := by
      rw [State.atOrigin_pins]
      split_ifs at haway ⊢ <;> simp [haway.1]
    rw [exec_recalPulseDue_due hs hr, State.recalPulseFalls_goesOn hnot (by rw [State.pins_channel]; exact hlimit),
      State.recalProfile_pins]
    refine congrArg Host.Outcome.next ((State.pins_putChannel (Channel.lineBlind_recalPulse p n) s ch lines (.inl hon)).trans ?_)
    dsimp only [Channel.withInputs, Channel.recalPulse, stepTicks, Config.ticksPerMs]
  case found =>
    have hat : ((s.pins ch lines).channel ch).atOrigin = true := by
      rw [State.atOrigin_pins]
      exact hfound
    rw [exec_recalPulseDue_due hs hr, State.recalPulseFalls_ends hat]
    refine ⟨fun f hf hh => ?_, fun a hf hp => ?_, fun f o hf hh => ?_⟩
    · rw [State.pins_recalEnds_answered (lines := lines) Channel.lineBlind_id hon hf hh]
      dsimp only [home, Channel.withInputs, Channel.recalAnswered, Channel.recalSucceeded, Channel.enterHolding, Config.holdTime]
    · rw [State.pins_recalEnds_pass (lines := lines) Channel.lineBlind_id hon hf hp]
      dsimp only [home, Channel.withInputs, Channel.recalSucceeded]
    · rw [State.pins_recalEnds_resumed (lines := lines) Channel.lineBlind_id hon hf hh]
      dsimp only [home, Channel.withInputs, Channel.recalSucceeded, Channel.recalResumed, Channel.resume, Pass.ofOrder]
  case rewind =>
    rw [exec_rewindBot_due hs hr]
    refine ⟨fun hl => ?_, fun f hl hf hh => ?_⟩
    · rw [State.rewindEnds_steps (by rw [State.pins_channel]; exact hk) (by rw [State.pins_channel]; exact hl),
        State.recalProfile_pins]
      refine congrArg Host.Outcome.next ((State.pins_putChannel ((Channel.lineBlind_recalPulse p 0).comp
        (g := fun c => { c.rewound with dirAsserted := false }) ⟨fun _ _ _ => rfl, fun _ => rfl⟩) s ch
        { lines with bot := true } (.inl hon)).trans ?_)
      dsimp only [Channel.withInputs, Channel.recalPulse, Channel.rewound, Channel.expired, stepTicks, Config.ticksPerMs]
    · rw [State.rewindEnds_ends (by rw [State.pins_channel]; exact hk) (by rw [State.pins_channel]; exact hl),
        State.pins_recalEnds_answered (lines := { lines with bot := true }) Channel.lineBlind_rewound hon hf hh]
      dsimp only [home, Channel.withInputs, Channel.rewound, Channel.expired, Channel.recalAnswered, Channel.recalSucceeded,
        Channel.enterHolding, Config.holdTime]

end Sys2Proof.Machine
end


/-! # The end of a spin-up (R26 to R32, R37, R38, R47 to R49) -/

section
/-! SUPPORT. RECAL entered by either kind of channel, and what a spin-up that ends with READY goes on to. -/

namespace Sys2Proof.Machine

namespace Channel

/-! ## RECAL entered (R28, R29) -/

/-- The channel stands where a recalibration ends: at TRACK0, or at BOT and LANE0. -/
def AtHome (c : Channel) : Prop :=
  if c.kind = .floppy then c.inputs.track0 = true else c.inputs.bot = true ∧ c.inputs.lane0 = true

theorem recalSteps_kind (c : Channel) (p : Profile) : (c.recalSteps p).1.kind = c.kind := by
  cases hk : c.kind with
  | floppy =>
    rw [recalSteps_floppy hk]
    split <;> exact hk
  | cartridge =>
    rw [recalSteps_cartridge hk]
    split <;> exact hk

theorem enterRecal_kind (c : Channel) (p : Profile) : (c.enterRecal p).1.kind = c.kind := by
  cases hk : c.kind with
  | floppy =>
    rw [enterRecal_floppy hk]
    exact (recalSteps_kind _ _).trans hk
  | cartridge =>
    rw [enterRecal_cartridge hk]
    split
    · exact (recalSteps_kind _ _).trans hk
    · exact hk

theorem lineBlind_enterRecal (p : Profile) : LineBlind (fun c => (c.enterRecal p).1) :=
  ⟨fun c o n => congrArg Prod.fst (enterRecal_wired c p o n), fun c => enterRecal_kind c p⟩

section
variable {c : Channel} {p : Profile}

theorem enterRecal_floppy_home (hk : c.kind = .floppy) (h : c.inputs.track0 = true) :
    c.enterRecal p = ({ c.recalEntered with dirAsserted := false }, true) := by
  rw [enterRecal_floppy hk, recalSteps_floppy (c := c.recalEntered) hk]
  exact if_pos h

theorem enterRecal_cartridge_home (hk : c.kind = .cartridge) (hb : c.inputs.bot = true) (hl : c.inputs.lane0 = true) :
    c.enterRecal p = ({ c.recalEntered with tapeEnd := .bot }, true) := by
  rw [enterRecal_cartridge hk, if_pos hb, recalSteps_cartridge (c := { c.recalEntered with tapeEnd := .bot }) hk]
  exact if_pos hl

theorem enterRecal_cartridge_steps (hk : c.kind = .cartridge) (hb : c.inputs.bot = true) (hl : c.inputs.lane0 = false) :
    c.enterRecal p =
      ({ c.recalEntered with tapeEnd := .bot, dirAsserted := false }.recalPulse p 0, false) := by
  rw [enterRecal_cartridge hk, if_pos hb, recalSteps_cartridge (c := { c.recalEntered with tapeEnd := .bot }) hk]
  exact if_neg (Bool.eq_false_iff.mp hl)

theorem enterRecal_snd : (c.enterRecal p).2 = true ↔ c.AtHome := by
  unfold AtHome
  cases hk : c.kind with
  | floppy =>
    rw [if_pos rfl]
    cases ht : c.inputs.track0 with
    | true => simp [enterRecal_floppy_home hk ht]
    | false => simp [enterRecal_floppy_away hk ht]
  | cartridge =>
    rw [if_neg nofun]
    cases hb : c.inputs.bot with
    | false => simp [enterRecal_cartridge_away hk hb]
    | true =>
      cases hl : c.inputs.lane0 with
      | true => simp [enterRecal_cartridge_home hk hb hl]
      | false => simp [enterRecal_cartridge_steps hk hb hl]

/-! ## On from SPINUP (R26) -/

theorem beginStages_known {a : Pass} (h : c.positionKnown = true) : c.beginStages p a = c.afterRecal p a := if_pos h

theorem beginStages_away {a : Pass} (h : c.positionKnown = false) (hp : c.pass = some a) (haway : ¬ c.AtHome) :
    c.beginStages p a = (c.enterRecal p).1 := by
  have hself : ({ c with pass := some a } : Channel) = c := by rw [← hp]
  refine (if_neg (Bool.eq_false_iff.mp h)).trans ?_
  rw [hself]
  exact if_neg fun h => haway (enterRecal_snd.mp h)

theorem beginStages_home {a : Pass} (h : c.positionKnown = false) (hp : c.pass = some a) (hhome : c.AtHome) :
    c.beginStages p a = (c.enterRecal p).1.recalSucceeded.afterRecal p a := by
  have hself : ({ c with pass := some a } : Channel) = c := by rw [← hp]
  refine (if_neg (Bool.eq_false_iff.mp h)).trans ?_
  rw [hself]
  exact if_pos (enterRecal_snd.mpr hhome)

end

theorem lineBlind_beginStages (p : Profile) (a : Pass) : LineBlind (beginStages · p a) :=
  .ite (q := fun c => c.positionKnown = true) (lineBlind_afterRecal p a)
    (.ite (q := fun c => (({ c with pass := some a } : Channel).enterRecal p).2 = true)
      ((lineBlind_afterRecal p a).comp (lineBlind_recalSucceeded.comp ((lineBlind_enterRecal p).comp
        (g := fun c => { c with pass := some a }) ⟨fun _ _ _ => rfl, fun _ => rfl⟩)))
      ((lineBlind_enterRecal p).comp (g := fun c => { c with pass := some a }) ⟨fun _ _ _ => rfl, fun _ => rfl⟩)
      (fun c o n => by rw [← congrArg Prod.snd (enterRecal_wired { c with pass := some a } p o n)]; rfl))
    (fun _ _ _ => Iff.rfl)

end Channel

/-! ## SPINUP_TIMER_EXPIRY (R27) -/

section
variable {s : State} {ch : Chan} {lines : Lines}

theorem exec_spinupTimerExpiry_other (h : (s.channel ch).state ≠ .spinup) :
    exec (.spinupTimerExpiry ch lines) s = .next (s.pins ch lines) :=
  congrArg Host.Outcome.next (if_neg h)

theorem exec_spinupTimerExpiry_spinup (h : (s.channel ch).state = .spinup) :
    exec (.spinupTimerExpiry ch lines) s = .next ((s.pins ch lines).spinupExpires ch) :=
  congrArg Host.Outcome.next (if_pos h)

theorem State.spinupExpires_recal (hready : (s.channel ch).inputs.ready = true) (hr : (s.channel ch).recal ≠ none) :
    s.spinupExpires ch = s.startRecal ch (s.channel ch).expired :=
  (if_neg (not_not.mpr hready)).trans (if_pos (Option.isSome_iff_ne_none.mpr hr))

theorem State.spinupExpires_pass (hready : (s.channel ch).inputs.ready = true) (hr : (s.channel ch).recal = none)
    {a : Pass} (hp : (s.channel ch).pass = some a) :
    s.spinupExpires ch = s.putChannel ch ((s.channel ch).expired.beginStages (s.chanProfile ch) a) := by
  have hrec : ¬ (s.channel ch).expired.recal.isSome = true := by simp [Channel.expired, hr]
  refine (if_neg (not_not.mpr hready)).trans ((if_neg hrec).trans ?_)
  have hpass : (s.channel ch).expired.pass = some a := hp
  rw [hpass]

theorem exec_spinupTimerExpiry_pass (h : (s.channel ch).state = .spinup) (hready : lines.ready = true)
    (hr : (s.channel ch).recal = none) {a : Pass} (hp : (s.channel ch).pass = some a) :
    exec (.spinupTimerExpiry ch lines) s = .next
      (s.putChannel ch (((s.channel ch).withInputs lines).expired.beginStages (s.chanProfile ch) a)) := by
  rw [exec_spinupTimerExpiry_spinup h, State.spinupExpires_pass (a := a) (by rw [State.pins_channel]; exact hready)
    (by rw [State.pins_channel]; exact hr) (by rw [State.pins_channel]; exact hp)]
  exact congrArg Host.Outcome.next (State.pins_putChannel
    ((Channel.lineBlind_beginStages (s.chanProfile ch) a).comp Channel.lineBlind_expired) s ch lines
    (.inl (by rw [h]; rfl)))

/-- A request's spin-up ends: RECAL is entered by the times of the request. -/
theorem exec_spinupTimerExpiry_recal (h : (s.channel ch).state = .spinup) (hready : lines.ready = true)
    {f : RecalFlight} (hf : (s.channel ch).recal = some f) :
    exec (.spinupTimerExpiry ch lines) s = .next
      ((s.pins ch lines).startRecal ch ((s.pins ch lines).channel ch).expired) := by
  rw [exec_spinupTimerExpiry_spinup h, State.spinupExpires_recal (by rw [State.pins_channel]; exact hready)
    (by rw [State.pins_channel]; exact Option.ne_none_iff_exists'.mpr ⟨f, hf⟩)]

theorem Channel.lineBlind_recalStart (q : Profile) : Channel.LineBlind (fun c => (c.expired.enterRecal q).1) :=
  (Channel.lineBlind_enterRecal q).comp Channel.lineBlind_expired

theorem State.startRecal_home {c : Channel} (h : c.AtHome) :
    s.startRecal ch c = s.recalEnds ch (c.enterRecal (s.recalProfile ch c)).1 :=
  if_pos (Channel.enterRecal_snd.mpr h)

theorem State.startRecal_notHome {c : Channel} (h : ¬ c.AtHome) :
    s.startRecal ch c = s.putChannel ch (c.enterRecal (s.recalProfile ch c)).1 :=
  if_neg fun hsnd => h (Channel.enterRecal_snd.mp hsnd)

theorem State.recalProfile_pins_expired (s : State) (ch : Chan) (lines : Lines) :
    (s.pins ch lines).recalProfile ch ((s.pins ch lines).channel ch).expired = s.recalProfile ch (s.channel ch) :=
  s.recalProfile_pins ch lines

theorem State.pins_atHome (s : State) (ch : Chan) (lines : Lines) :
    ((s.pins ch lines).channel ch).expired.AtHome ↔ ((s.channel ch).withInputs lines).AtHome := by
  simp only [State.pins_channel, Channel.AtHome, Channel.expired, Channel.drive_kind, Channel.drive_inputs]

end

theorem StrapKind.eq_cartridge {k : StrapKind} (h : k ≠ .floppy) : k = .cartridge := by
  cases k with
  | floppy => exact absurd rfl h
  | cartridge => rfl

/-- A channel at the end of a stage, its timer expired, with a pass to go on with. -/
def Channel.between (c : Channel) (pass : Option Pass) : Channel := { c with stageTimer := none, pass := pass }

theorem Channel.enterRecal_keeps_requests (c : Channel) (p : Profile) :
    (c.enterRecal p).1.recal = c.recal ∧ (c.enterRecal p).1.heldOrder = c.heldOrder := by
  have hsteps (d : Channel) : (d.recalSteps p).1.recal = d.recal ∧ (d.recalSteps p).1.heldOrder = d.heldOrder := by
    cases hk : d.kind with
    | floppy =>
      rw [Channel.recalSteps_floppy hk]
      split <;> exact ⟨rfl, rfl⟩
    | cartridge =>
      rw [Channel.recalSteps_cartridge hk]
      split <;> exact ⟨rfl, rfl⟩
  cases hk : c.kind with
  | floppy =>
    rw [Channel.enterRecal_floppy hk]
    exact hsteps c.recalEntered
  | cartridge =>
    rw [Channel.enterRecal_cartridge hk]
    split
    · exact hsteps { c.recalEntered with tapeEnd := .bot }
    · exact ⟨rfl, rfl⟩

/-- Settles O52: by whether the position is known, and by whether RECAL, once entered, is over at once. -/
theorem spinupEnds : Obligations.SpinupEnds := by
  intro s ch lines c hc
  subst hc
  intro p q seen captured armed settled settling onward recal pulse begun home atOrigin
  have harmed (d : Channel) (x : Option Pass) (a : Pass) (hin : d.inputs = lines) :
      (d.between x).enterArmed p a = armed d a := by
    dsimp only [armed]
    by_cases hk : d.kind = .floppy
    · rw [Channel.enterArmed_floppy (c := d.between x) hk, if_pos hk]
      dsimp only [Channel.between]
    · have hc := StrapKind.eq_cartridge hk
      rw [Channel.enterArmed_cartridge (c := d.between x) hc, if_neg hk,
        Channel.startCapture_cartridge (c := (d.between x).armedAtMarker p a) hc, ← hin]
      dsimp only [Channel.between, Channel.armedAtMarker, captured]
      rfl
  have hsettled (d : Channel) (x : Option Pass) (a : Pass) (hin : d.inputs = lines) :
      (d.between x).afterSettling p a = settled d a := by
    dsimp only [settled]
    by_cases hstill : d.kind = .floppy ∨ d.tapeEnd = (if a.direction = .forward then TapeEnd.bot else TapeEnd.eot)
    · rw [if_pos hstill, Channel.afterSettling_arms (c := d.between x) hstill]
      exact harmed d x a hin
    · rw [if_neg hstill]
      cases hb : lines.bot with
      | true =>
        rw [if_pos rfl, Channel.afterSettling_wound (c := d.between x) hstill (by rw [← hb, ← hin]; rfl)]
        exact harmed d x _ hin
      | false =>
        rw [if_neg Bool.false_ne_true, Channel.afterSettling_winds (c := d.between x) hstill (by rw [← hb, ← hin]; rfl)]
        dsimp only [Channel.between]
  have honward (d : Channel) (x : Option Pass) (a : Pass) (hin : d.inputs = lines) :
      (d.between x).afterRecal p a = onward d a := by
    dsimp only [onward]
    by_cases hpos : d.position = a.order.track / p.heads
    · rw [if_neg (by omega), if_neg (not_not.mpr hpos)]
      by_cases ho : d.offset = a.order.offset
      · rw [if_neg (not_not.mpr ho), Channel.afterRecal_there (c := d.between x) hpos ho]
        by_cases hm : d.moved = true
        · rw [if_pos hm, Channel.afterSeeking_moved (c := d.between x) hm]
          dsimp only [settling, Channel.between]
          rw [← ho]
        · rw [if_neg hm, Channel.afterSeeking_unmoved (c := d.between x) hm]
          exact hsettled d x a hin
      · rw [if_pos ho, Channel.afterRecal_offsets (c := d.between x) hpos ho]
        dsimp only [settling, Channel.between]
    · have hstep : stepToward d.position (a.order.track / p.heads) =
          if decide (d.position < a.order.track / p.heads) = true then d.position + 1 else d.position - 1 := by
        simp [stepToward]
      rw [Channel.afterRecal_seeks (c := d.between x) hpos]
      by_cases hnear : d.position + 1 = a.order.track / p.heads ∨ a.order.track / p.heads + 1 = d.position
      · have harrive := (Channel.stepToward_eq_iff hpos).mpr hnear
        rw [if_neg (by omega), if_pos hpos, Channel.seekPulse_arrives (by exact harrive), ← hstep, harrive]
        dsimp only [settling, Channel.between, orderTarget, placeOf]
        rfl
      · have hgoes := mt (Channel.stepToward_eq_iff hpos).mp hnear
        rw [if_pos (by omega), Channel.seekPulse_goesOn (by exact hgoes), ← hstep]
        dsimp only [Channel.between, orderTarget, placeOf]
        rfl
  have hbegun (haway : ¬ atOrigin) : (seen.expired.enterRecal q).1 = begun := by
    dsimp only [atOrigin, begun] at haway ⊢
    by_cases hk : (s.channel ch).kind = .floppy
    · rw [if_pos hk] at haway ⊢
      rw [Channel.enterRecal_floppy_away (c := seen.expired) hk (Bool.eq_false_iff.mpr haway)]
      rfl
    · rw [if_neg hk] at haway ⊢
      have hc := StrapKind.eq_cartridge hk
      by_cases hb : lines.bot = true
      · have hl : lines.lane0 = false := Bool.eq_false_iff.mpr fun hl => haway ⟨hb, hl⟩
        rw [if_pos hb, Channel.enterRecal_cartridge_steps (c := seen.expired) hc hb hl]
        rfl
      · rw [if_neg hb, Channel.enterRecal_cartridge_away (c := seen.expired) hc (Bool.eq_false_iff.mpr hb)]
        rfl
  have hhome (hat : atOrigin) : (seen.expired.enterRecal q).1.recalSucceeded = home := by
    dsimp only [atOrigin, home] at hat ⊢
    by_cases hk : (s.channel ch).kind = .floppy
    · rw [if_pos hk] at hat ⊢
      rw [Channel.enterRecal_floppy_home (c := seen.expired) hk hat]
      rfl
    · rw [if_neg hk] at hat ⊢
      rw [Channel.enterRecal_cartridge_home (c := seen.expired) (StrapKind.eq_cartridge hk) hat.1 hat.2]
      rfl
  have hinputs : home.inputs = lines := by
    dsimp only [home]
    split <;> rfl
  refine ⟨fun hs => exec_spinupTimerExpiry_other hs, fun hs hready => ⟨fun a hr hp => ?pass, fun f hf => ?request⟩⟩
  case pass =>
    rw [exec_spinupTimerExpiry_pass hs hready hr hp]
    have hq : q = p := State.recalProfile_pass hr
    refine ⟨fun hknown => ?_, fun hknown => ⟨fun haway => ?_, fun hat => ?_⟩⟩
    · rw [Channel.beginStages_known (by exact hknown)]
      have hself : ((s.channel ch).withInputs lines).expired = seen.between seen.pass := rfl
      rw [hself, honward seen seen.pass a rfl]
    · rw [Channel.beginStages_away (by exact hknown) (by exact hp) (by exact haway)]
      rw [hq] at hbegun
      exact congrArg (fun d => Host.Outcome.next (s.putChannel ch d)) (hbegun haway)
    · rw [Channel.beginStages_home (by exact hknown) (by exact hp) (by exact hat)]
      rw [hq] at hhome
      refine congrArg (fun d => Host.Outcome.next (s.putChannel ch d)) ?_
      have hself : home.between home.pass = home := by
        dsimp only [home, Channel.between]
        split <;> rfl
      rw [← honward home home.pass a hinputs, hself]
      exact congrArg (Channel.afterRecal · p a) (hhome hat)
  case request =>
    rw [exec_spinupTimerExpiry_recal hs hready hf]
    have hon : motorOn (s.channel ch).state = true := by rw [hs]; rfl
    refine ⟨fun haway => ?_, fun hat hh => ?_, fun o hat hh => ?_⟩
    · rw [State.startRecal_notHome (mt (s.pins_atHome ch lines).mp haway), State.recalProfile_pins_expired]
      refine congrArg Host.Outcome.next ((State.pins_putChannel (Channel.lineBlind_recalStart q) s ch lines
        (.inl hon)).trans (congrArg (s.putChannel ch) (hbegun haway)))
    all_goals
      rw [State.startRecal_home ((s.pins_atHome ch lines).mpr hat), State.recalProfile_pins_expired]
      obtain ⟨hrecal, hheld⟩ := Channel.enterRecal_keeps_requests seen.expired q
    · rw [State.pins_recalEnds_answered (Channel.lineBlind_recalStart q) hon (hrecal.trans hf) (hheld.trans hh)]
      refine congrArg (fun d => Host.Outcome.next ((s.putChannel ch d).reply f.id .ok [])) ?_
      refine (congrArg (fun d : Channel => { d with recal := none }.enterHolding) (hhome hat)).trans ?_
      dsimp only [home]
      split <;> rfl
    · rw [State.pins_recalEnds_resumed (Channel.lineBlind_recalStart q) hon (hrecal.trans hf) (hheld.trans hh)]
      refine congrArg (fun d => Host.Outcome.next ((s.putChannel ch d).reply f.id .ok [])) ?_
      refine Eq.trans ?_ (honward { home with recal := none, heldOrder := none } (some (Pass.ofOrder o)) (Pass.ofOrder o)
        hinputs)
      refine (congrArg (fun d : Channel => { d with recal := none }.resume p o) (hhome hat)).trans ?_
      dsimp only [home, Channel.resume, Channel.between]
      split <;> rfl

end Sys2Proof.Machine
end


/-! # Capture from its beginning to its completion (R34, R35, R37 to R40, R51, R68) -/

section
/-! SUPPORT. Index pulses told from sector pulses, capture begun, and the pass completed with its readings waiting or not. -/

namespace Sys2Proof.Machine

/-! ## Index pulses (R34, R35) -/

theorem isIndexPulse_of_soft {p : Profile} (h : p.medium = .floppySoft) (spacing : Option Nat) :
    isIndexPulse (some p) spacing = true := by
  simp only [isIndexPulse, h]

theorem isIndexPulse_of_short {p : Profile} (h : p.medium = .floppyHard) {t : Nat} (ht : t < indexThreshold p) :
    isIndexPulse (some p) (some t) = true := by
  simp [isIndexPulse, h, ht]

theorem isIndexPulse_of_long {p : Profile} (h : p.medium = .floppyHard) {t : Nat} (ht : indexThreshold p ≤ t) :
    isIndexPulse (some p) (some t) = false := by
  simp [isIndexPulse, h, ht]

theorem isIndexPulse_of_first {p : Profile} (h : p.medium = .floppyHard) : isIndexPulse (some p) none = false := by
  simp [isIndexPulse, h]

theorem sectorCounterAfter_index (p : Profile) (counter : Nat) : sectorCounterAfter (some p) true counter = 0 := by
  cases h : p.medium <;> simp [sectorCounterAfter, h]

theorem sectorCounterAfter_sector {p : Profile} (h : p.medium = .floppyHard) (counter : Nat) :
    sectorCounterAfter (some p) false counter = min (counter + 1) (p.sectors - 1) := by
  simp [sectorCounterAfter, h]

namespace Channel

section
variable {c : Channel} {p q : Profile} {a : Pass} {ticks : Nat}

theorem takeIndex_index (h : isIndexPulse (some p) (c.sincePulse.map (· + ticks)) = true) (ha : c.pass = some a) :
    c.takeIndex (some p) q ticks = { c with sincePulse := some 0, sectorCounter := 0 }.indexInPass q a := by
  unfold takeIndex
  simp only [h, sectorCounterAfter_index, if_true]
  rw [ha]

theorem takeIndex_sector (h : isIndexPulse (some p) (c.sincePulse.map (· + ticks)) = false) (hm : p.medium = .floppyHard) :
    c.takeIndex (some p) q ticks =
      { c with sincePulse := some 0, sectorCounter := min (c.sectorCounter + 1) (p.sectors - 1) } := by
  unfold takeIndex
  simp only [h, sectorCounterAfter_sector hm, Bool.false_eq_true, if_false]

/-! ## Capture begins, and goes on for another revolution (R37, R51, R68) -/

theorem startCapture_floppy (hk : c.kind = .floppy) : c.startCapture p a = { c with
    state := .capturing, counter := .idle, pass := some { a with revolutionsDone := 0 }
    stageTimer := some (6000000000 / p.rpm)
    separator := c.separator.startPass p a.order.gain a.order.window
    decoder := c.decoder.startPass a.direction a.order.track a.order.passNumber } := by
  unfold startCapture
  split
  · rfl
  · next h => exact nomatch hk.symm.trans h

theorem indexInPass_armed (hs : c.state = .armed) : c.indexInPass p a = c.startCapture p a := by
  simp only [indexInPass, hs]

theorem indexInPass_goesOn (hs : c.state = .capturing) (hc : c.completing = false)
    (h : a.revolutionsDone + 1 < a.order.revolutions) : c.indexInPass p a = { c with
      pass := some { a with revolutionsDone := a.revolutionsDone + 1 }, stageTimer := some (6000000000 / p.rpm) } := by
  simp only [indexInPass, hs, hc, Bool.false_eq_true, if_false]
  exact if_neg h.not_ge

theorem indexInPass_completes (hs : c.state = .capturing) (hc : c.completing = false)
    (h : a.order.revolutions ≤ a.revolutionsDone + 1) :
    c.indexInPass p a = c.completePass p { a with revolutionsDone := a.revolutionsDone + 1 } := by
  simp only [indexInPass, hs, hc, Bool.false_eq_true, if_false]
  exact if_pos h

end

/-! ## The pass completed (R39) -/

/-- The channel as its capture has ended on its last pulse or marker, its report behind its readings. -/
def captureClosed (c : Channel) (p : Profile) (a : Pass) : Channel := { c.endCapture p a.order.volume with
  stageTimer := none
  handed := (c.endCapture p a.order.volume).handed ++ [.report ((c.endCapture p a.order.volume).endReport a)] }

theorem noReadingWaits_iff {l : List Handed} : noReadingWaits l = true ↔ ∀ x, .reading x ∉ l := by
  rw [noReadingWaits, List.all_eq_true]
  constructor
  · intro h x hx
    exact Bool.false_ne_true (h _ hx)
  · intro h y hy
    cases y with
    | reading x => exact absurd hy (h x)
    | report r => rfl

section
variable {c : Channel} {p : Profile} {a : Pass}

theorem completePass_holds (h : ∀ x, .reading x ∉ (c.captureClosed p a).handed) : c.completePass p a =
    { c.captureClosed p a with
      completing := false, state := .holding, holdTimer := some 2000, recalStage := none, pass := none } :=
  (if_pos (noReadingWaits_iff.mpr h)).trans (if_pos rfl)

theorem completePass_waits (h : ∃ x, .reading x ∈ (c.captureClosed p a).handed) : c.completePass p a =
    { c.captureClosed p a with completing := true, pass := some a } := by
  obtain ⟨x, hx⟩ := h
  exact if_neg fun hno => noReadingWaits_iff.mp hno x hx

/-- The tape stands still once capture has ended. -/
theorem completePass_still (hk : c.kind = .cartridge) (hs : c.state = .capturing) :
    (outputsOf (c.completePass p a)).runFwd = false ∧ (outputsOf (c.completePass p a)).runRev = false ∧
      (outputsOf (c.completePass p a)).readEn = false := by
  have hkind : (c.captureClosed p a).kind = .cartridge := hk
  have hstate : (c.captureClosed p a).state = .capturing := hs
  by_cases h : ∃ x, .reading x ∈ (c.captureClosed p a).handed
  · rw [completePass_waits h]
    simp [outputsOf, tapeMotion, hkind, hstate]
  · rw [completePass_holds (not_exists.mp h)]
    simp [outputsOf, tapeMotion, hkind]

end

theorem lineBlind_completePass (p : Profile) (a : Pass) : LineBlind (completePass · p a) :=
  (LineBlind.ite (q := fun c => noReadingWaits c.handed = true) lineBlind_finishCompletion lineBlind_id
    (fun _ _ _ => Iff.rfl)).comp (g := fun c => { c.endCapture p a.order.volume with
      completing := true, stageTimer := none, pass := some a
      handed := (c.endCapture p a.order.volume).handed ++ [.report ((c.endCapture p a.order.volume).endReport a)] })
    ⟨fun _ _ _ => rfl, fun _ => rfl⟩

end Channel

/-! ## INDEX_PULSE, START_MARKER_RELEASED, FAR_MARKER_ASSERTED -/

section
variable {s : State} {ch : Chan} {a : Pass}

theorem exec_indexPulse_motor (h : (outputsOf (s.channel ch)).motor = true) (ticks : Nat) :
    exec (.indexPulse ch ticks) s = .next (s.putChannel ch
      ((s.channel ch).takeIndex (s.mountedProfile ch) (s.chanProfile ch) ticks)) :=
  congrArg Host.Outcome.next (if_pos h)

theorem exec_startMarkerReleased_armed (hk : (s.channel ch).kind = .cartridge) (hs : (s.channel ch).state = .armed)
    (ha : (s.channel ch).pass = some a) (lines : Lines) :
    exec (.startMarkerReleased ch lines) s = .next (s.putChannel ch
      (((s.channel ch).withInputs (releaseStart lines a.direction)).startCapture (s.chanProfile ch) a)) := by
  simp only [exec, execStartMarkerReleased, hk, hs, ha]
  exact congrArg Host.Outcome.next (State.pins_putChannel (Channel.lineBlind_startCapture (s.chanProfile ch) a) s ch
    (releaseStart lines a.direction) (.inl (by rw [hs]; rfl)))

theorem exec_farMarkerAsserted_capturing (hk : (s.channel ch).kind = .cartridge) (hs : (s.channel ch).state = .capturing)
    (hc : (s.channel ch).completing = false) (ha : (s.channel ch).pass = some a) (lines : Lines) :
    exec (.farMarkerAsserted ch lines) s = .next (s.putChannel ch
      ({ (s.channel ch).withInputs (assertFar lines a.direction) with tapeEnd := farEnd a.direction }.completePass
        (s.chanProfile ch) a)) := by
  simp only [exec, execFarMarkerAsserted, hk, hs, hc, ha]
  exact congrArg Host.Outcome.next (State.pins_putChannel ((Channel.lineBlind_completePass (s.chanProfile ch) a).comp
    (g := fun c => { c with tapeEnd := farEnd a.direction }) ⟨fun _ _ _ => rfl, fun _ => rfl⟩) s ch
    (assertFar lines a.direction) (.inl (by rw [hs]; rfl)))

end

/-- Settles O55: by the pulse or marker, and by whether a reading still waits as the pass completes. -/
theorem captureRuns : Obligations.CaptureRuns := by
  intro s ch c a p hc hpass hp hcompl
  subst hc
  intro began report threshold indexed completes
  have hchan : s.chanProfile ch = p := by simp [State.chanProfile, hp]
  have hmotor (hk : (s.channel ch).kind = .floppy) (hon : motorOn (s.channel ch).state = true) (ticks : Nat) :
      exec (.indexPulse ch ticks) s =
        .next (s.putChannel ch ((s.channel ch).takeIndex (some p) p ticks)) := by
    rw [exec_indexPulse_motor (motor_of_motorOn hk hon), hp, hchan]
  have hbegan : began (s.channel ch) = { s.channel ch with
      state := .capturing, counter := .idle, pass := some { a with revolutionsDone := 0 }
      separator := (s.channel ch).separator.startPass p a.order.gain a.order.window
      decoder := (s.channel ch).decoder.startPass a.direction a.order.track a.order.passNumber } := by
    dsimp only [began, Separator.startPass, Decoder.startPass]
    cases p.encoding <;> rfl
  have hindex (ticks : Nat) (h : indexed ticks) :
      isIndexPulse (some p) ((s.channel ch).sincePulse.map (· + ticks)) = true := by
    rcases h with hsoft | ⟨hhard, n, hn, hlt⟩
    · exact isIndexPulse_of_soft hsoft _
    · rw [hn]
      exact isIndexPulse_of_short hhard hlt
  have hcompletes (i : Instr) (d : Channel) (b : Pass) (units : Nat) (hd : d.completing = false)
      (horder : b.order = a.order) (hdir : b.direction = a.direction) (hwind : b.windingBegun = a.windingBegun)
      (hunits : (d.endReport b).units = units) (hi : exec i s = .next (s.putChannel ch (d.completePass p b))) :
      completes i d b units := by
    have hreport : (d.endCapture p b.order.volume).endReport b = report units d.tapeEnd := by
      dsimp only [Channel.endReport, Channel.endCapture] at hunits ⊢
      rw [hunits, horder, hdir, hwind]
    dsimp -zeta only [completes]
    intro last closed
    have hclosed : d.captureClosed p b = closed := by
      dsimp only [Channel.captureClosed]
      rw [hreport, horder]
      rfl
    rw [hi, ← hclosed]
    refine ⟨fun h => ?_, fun h => by rw [Channel.completePass_waits h]⟩
    rw [Channel.completePass_holds h, ← hd]
    rfl
  refine ⟨fun ticks hidx hk => ⟨fun hs => ?opens, fun hs hrev => ?goesOn, fun hs hrev => ?completes⟩,
    fun ticks hm hk hon hspace => ?sector, fun lines hk hs => ?marker, fun lines hk hs => ⟨?far, fun t ht => ?still⟩⟩
  case opens =>
    rw [hmotor hk (by rw [hs]; rfl), Channel.takeIndex_index (hindex ticks hidx) hpass,
      Channel.indexInPass_armed (by exact hs), Channel.startCapture_floppy (by exact hk), hbegan]
  case goesOn =>
    rw [hmotor hk (by rw [hs]; rfl), Channel.takeIndex_index (hindex ticks hidx) hpass,
      Channel.indexInPass_goesOn (by exact hs) (by exact hcompl) hrev]
  case completes =>
    refine hcompletes _ _ _ _ hcompl rfl rfl rfl (by simp [Channel.endReport, hk]) ?_
    rw [hmotor hk (by rw [hs]; rfl), Channel.takeIndex_index (hindex ticks hidx) hpass,
      Channel.indexInPass_completes (by exact hs) (by exact hcompl) hrev]
  case sector =>
    have hsector : isIndexPulse (some p) ((s.channel ch).sincePulse.map (· + ticks)) = false := by
      rcases hspace with hnone | ⟨n, hn, hle⟩
      · rw [hnone]
        exact isIndexPulse_of_first hm
      · rw [hn]
        exact isIndexPulse_of_long hm hle
    rw [hmotor hk hon, Channel.takeIndex_sector hsector hm]
  case marker =>
    rw [exec_startMarkerReleased_armed hk hs hpass, hchan, Channel.startCapture_cartridge (by exact hk), hbegan]
    rfl
  case far =>
    refine hcompletes _ _ _ _ hcompl rfl rfl rfl ?_ ?_
    · simp [Channel.endReport, hk]
    · rw [exec_farMarkerAsserted_capturing hk hs hcompl hpass, hchan]
      rfl
  case still =>
    rw [exec_farMarkerAsserted_capturing hk hs hcompl hpass, Host.Outcome.next.injEq] at ht
    rw [← ht, State.putChannel_channel]
    exact Channel.completePass_still hk hs

end Sys2Proof.Machine
end


/-! # PAUSE and ABORT, and the cut of a pass (R41, R42, R143, R144, R156) -/

section
/-! SUPPORT. What a cut order leaves of a channel, what a request meets while no SUMMARY notice waits, and the replies of an
ABORT. -/

namespace Sys2Proof.Machine

/-! ## Replies while no SUMMARY notice waits (R161 to R163) -/

/-- No SUMMARY notice waits on any channel. -/
def Link.NonePending (l : Link) : Prop := ∀ k, qget l.pendingSets k = .empty

theorem Link.NonePending.offerFrom {l : Link} (h : l.NonePending) (chs : List Chan) : l.offerFrom chs = l := by
  induction chs with
  | nil => rfl
  | cons k chs ih => rw [Link.offerFrom_cons_empty chs (h k), ih]

theorem Link.NonePending.offerSummaries {l : Link} (h : l.NonePending) : l.offerSummaries = l := by
  unfold Link.offerSummaries
  rw [h.offerFrom]
  split <;> rfl

theorem Link.NonePending.reportRoom {l : Link} (h : l.NonePending) (b : Bool) : l.reportRoom b = l := by
  have hwaits : l.summaryWaits = false := by
    have hany : allChans.any (fun ch => decide (qget l.pendingSets ch ≠ .empty)) = false :=
      List.any_eq_false.mpr fun k _ => by simp [h k]
    rw [Link.summaryWaits, hany, Bool.and_false]
  rw [Link.reportRoom, hwaits, Bool.and_false, if_neg Bool.false_ne_true, h.offerSummaries]

theorem Link.NonePending.reply {l : Link} (h : l.NonePending) {id : Nat} {r : RequestEntry}
    (hr : l.requests.find? (fun x => x.id == id) = some r) (b : Bool) (st : Status) (fs : List Byte) :
    l.reply b id st fs = { l with
      requests := l.requests.eraseP (fun x => x.id == id)
      outbound := l.outbound ++ [{ kind := r.kind + 0x80, tag := r.tag, payload := b1 (statusCode st) ++ fs }] } := by
  simp only [Link.reply, hr]
  exact Link.NonePending.reportRoom (l := Link.enqueue { l with requests := _ } _) h b

theorem find?_eraseP_of_ne {l : List RequestEntry} {m n : Nat} (h : m ≠ n) :
    (l.eraseP (fun x => x.id == m)).find? (fun x => x.id == n) = l.find? (fun x => x.id == n) := by
  induction l with
  | nil => rfl
  | cons x l ih =>
    by_cases hx : x.id = m
    · simp [hx, h]
    · simp [hx, List.find?_cons, ih]

/-- The replies of fetches that end, in the order of their list. -/
def Link.endReplies (l : Link) (b : Bool) (st : Status) (ended : List FetchEntry) : Link :=
  ended.foldl (fun l e => l.reply b e.id st (fetchFields e)) l

theorem Link.NonePending.endReplies {l : Link} (h : l.NonePending) {ended : List FetchEntry} (hnd : (ended.map (·.id)).Nodup)
    (hf : ∀ e ∈ ended, l.requests.find? (fun r => r.id == e.id) = some { id := e.id, kind := 0x40, tag := e.tag })
    (b : Bool) (st : Status) :
    (l.endReplies b st ended).NonePending ∧
    (l.endReplies b st ended).outbound = l.outbound ++ ended.map (fun e =>
      { kind := 0xC0, tag := e.tag, payload := b1 (statusCode st) ++ fetchFields e }) ∧
    ∀ n, n ∉ ended.map (·.id) → (l.endReplies b st ended).requests.find? (fun r => r.id == n) =
      l.requests.find? (fun r => r.id == n) := by
  induction ended generalizing l with
  | nil => exact ⟨h, (List.append_nil _).symm, fun _ _ => rfl⟩
  | cons e ended ih =>
    rw [List.map_cons, List.nodup_cons] at hnd
    have hreply := h.reply (hf e List.mem_cons_self) b st (fetchFields e)
    have hrest := ih (l := l.reply b e.id st (fetchFields e)) (by rw [hreply]; exact h) hnd.2 (fun e' he' => by
      have hne : e.id ≠ e'.id := fun heq => hnd.1 (List.mem_map.mpr ⟨e', he', heq.symm⟩)
      rw [hreply]
      exact (find?_eraseP_of_ne hne).trans (hf e' (List.mem_cons_of_mem _ he')))
    obtain ⟨hnone, hout, hfind⟩ := hrest
    refine ⟨hnone, ?_, fun n hn => ?_⟩
    · refine hout.trans ?_
      rw [hreply, List.map_cons]
      simp only [List.append_assoc, List.singleton_append]
      rfl
    · rw [List.map_cons, List.mem_cons, not_or] at hn
      refine (hfind n hn.2).trans ?_
      rw [hreply]
      exact find?_eraseP_of_ne (Ne.symm hn.1)

/-! ## What a cut order leaves (R41, R42) -/

namespace Channel

section
variable {c : Channel} {p : Profile} {a : Pass} {cause : Cause} {tapeEnd : TapeEnd}

theorem finishCompletion_of_not (h : c.completing = false) : c.finishCompletion = c := if_neg (Bool.eq_false_iff.mp h)

theorem finishCompletion_completing (h : c.completing = true) : c.finishCompletion = { c with
    completing := false, pass := none, state := .holding, holdTimer := some 2000, stageTimer := none
    recalStage := none } := if_pos h

theorem dropHeld_none (h : c.heldOrder = none) : c.dropHeld cause tapeEnd = c := by
  simp only [dropHeld, h]

theorem dropHeld_some {o : PassOrder} (h : c.heldOrder = some o) : c.dropHeld cause tapeEnd = { c with
    heldOrder := none, handed := c.handed ++ [.report (droppedReport o cause tapeEnd)] } := by
  simp only [dropHeld, h]

theorem cutPass_none (h : c.pass = none) : c.cutPass p cause tapeEnd = c := by
  simp only [cutPass, h]

theorem cutPass_outside (h : c.pass = some a) (hs : c.state ≠ .capturing) : c.cutPass p cause tapeEnd = { c with
    handed := c.handed ++ [.report (c.cutReportOf a cause tapeEnd)], pass := none, recalStage := none
    stageTimer := none } := by
  simp only [cutPass, h, if_neg hs]

theorem cutPass_capturing (h : c.pass = some a) (hs : c.state = .capturing) : c.cutPass p cause tapeEnd =
    { c.endCapture p a.order.volume with
      handed := (c.endCapture p a.order.volume).handed ++ [.report (c.cutReportOf a cause tapeEnd)], pass := none
      recalStage := none, stageTimer := none } := by
  simp only [cutPass, h, if_pos hs]

theorem takeCutOrder_completing (h : c.completing = true) : c.takeCutOrder p =
    c.finishCompletion.dropHeld .abort c.tapeEnd := by
  unfold takeCutOrder
  rw [finishCompletion_completing h]

theorem takeCutOrder_noPass (h : c.completing = false) (hp : c.pass = none) :
    c.takeCutOrder p = c.dropHeld .abort c.tapeEnd := by
  unfold takeCutOrder
  rw [finishCompletion_of_not h]
  dsimp only
  rw [hp]

/-- The tape moves: through a winding, a pass or a rewind (R22, R25, R41). -/
def TapeMoves (c : Channel) : Prop := c.kind = .cartridge ∧ (c.state = .winding ∨ c.state = .armed ∨
  c.state = .capturing ∨ (c.state = .recal ∧ c.recalStage.map (·.rewinding) = some true))

theorem tapeMotion_isSome (h : c.completing = false) (hp : c.pass = some a) : (tapeMotion c).isSome = true ↔
    c.state = .winding ∨ c.state = .armed ∨ c.state = .capturing ∨
      (c.state = .recal ∧ c.recalStage.map (·.rewinding) = some true) := by
  cases hs : c.state <;> simp [tapeMotion, hs, h, hp]
  case recal =>
    rcases c.recalStage with _ | ⟨rewinding, n⟩
    · simp
    · cases rewinding <;> simp

theorem takeCutOrder_cut (h : c.completing = false) (hp : c.pass = some a) {left : TapeEnd}
    (hmoves : c.TapeMoves → left = .none) (hstands : ¬ c.TapeMoves → left = c.tapeEnd) :
    c.takeCutOrder p = { c.cutPass p .abort left with
      tapeEnd := left, positionKnown := if c.state = ChanState.recal then false else c.positionKnown }.enterHolding := by
  have hleft : stoppedTapeEnd c = left ∨ c.kind = .floppy := by
    cases hk : c.kind with
    | floppy => exact .inr rfl
    | cartridge =>
      left
      by_cases hm : c.TapeMoves
      · rw [stoppedTapeEnd, if_pos ((tapeMotion_isSome h hp).mpr hm.2), hmoves hm]
      · rw [stoppedTapeEnd, if_neg fun hsome => hm ⟨hk, (tapeMotion_isSome h hp).mp hsome⟩, hstands hm]
  unfold takeCutOrder
  rw [finishCompletion_of_not h]
  dsimp only
  rw [hp]
  dsimp only
  split
  · next hk =>
    have hfloppy : c.tapeEnd = left := (hstands fun hm => nomatch hk.symm.trans hm.1).symm
    rw [hfloppy]
  · next hk => rw [hleft.resolve_right fun hf => nomatch hf.symm.trans hk]

end

end Channel

/-! ## The run aborted (R144) -/

/-- The volume of a run that ABORT or UNMOUNT stops. -/
def Volume.stopped (v : Volume) : Volume := { v with planner := { v.planner with run := .stopped } }

theorem State.chanProfile_setVolume {s : State} {ch : Chan} {v w : Volume} (hv : s.volume ch = some v)
    (hw : w.slot = v.slot) : (s.setVolume ch (some w)).chanProfile ch = s.chanProfile ch := by
  simp only [State.chanProfile, State.mountedProfile, State.setVolume_volume, hv, hw]
  rfl

section
variable {s : State} {ch : Chan} {v : Volume}

theorem State.abortRun_notRunning (hv : s.volume ch = some v) (h : v.inRun = false) : s.abortRun ch = s := by
  have hnot : ¬ (v.planner.run = .running ∨ v.planner.run = .pausing) := fun hr =>
    Bool.false_ne_true (h.symm.trans (Volume.inRun_iff.mpr hr))
  simp only [State.abortRun, hv, if_neg hnot]

theorem State.abortRun_noOrder (hv : s.volume ch = some v) (h : v.inRun = true) (ho : v.planner.outstanding = none) :
    s.abortRun ch = s.setVolume ch (some v.stopped) := by
  simp only [State.abortRun, hv, if_pos (Volume.inRun_iff.mp h), ho]
  rfl

theorem State.abortRun_order (hv : s.volume ch = some v) (h : v.inRun = true) (ho : v.planner.outstanding ≠ none) :
    s.abortRun ch = (s.setVolume ch (some v.stopped)).putChannel ch
      ((s.channel ch).takeCutOrder (s.chanProfile ch)) := by
  simp only [State.abortRun, hv, if_pos (Volume.inRun_iff.mp h), if_pos (Option.isSome_iff_ne_none.mpr ho)]
  rw [← State.chanProfile_setVolume (w := v.stopped) hv rfl]
  rfl

theorem State.abortRun_frame (s : State) (ch : Chan) :
    s.abortRun ch = { s with volumes := (s.abortRun ch).volumes, channels := (s.abortRun ch).channels } := by
  cases hv : s.volume ch with
  | none =>
    have hself : s.abortRun ch = s := by simp only [State.abortRun, hv]
    rw [hself]
  | some v =>
    cases h : v.inRun with
    | false => rw [State.abortRun_notRunning hv h]
    | true =>
      by_cases ho : v.planner.outstanding = none
      · rw [State.abortRun_noOrder hv h ho]
        rfl
      · rw [State.abortRun_order hv h ho]
        rfl

theorem State.setLink_abortRun (s : State) (l : Link) (ch : Chan) : (s.setLink l).abortRun ch = (s.abortRun ch).setLink l := by
  cases hv : s.volume ch with
  | none =>
    have hself (t : State) (ht : t.volume ch = none) : t.abortRun ch = t := by simp only [State.abortRun, ht]
    rw [hself s hv, hself (s.setLink l) hv]
  | some v =>
    cases h : v.inRun with
    | false => rw [State.abortRun_notRunning hv h, State.abortRun_notRunning (s := s.setLink l) hv h]
    | true =>
      by_cases ho : v.planner.outstanding = none
      · rw [State.abortRun_noOrder hv h ho, State.abortRun_noOrder (s := s.setLink l) hv h ho]
        rfl
      · rw [State.abortRun_order hv h ho, State.abortRun_order (s := s.setLink l) hv h ho]
        rfl

end

/-! ## The fetches of a volume ended (R155, R156) -/

/-- The fetches of a volume context, and the others. -/
def State.fetchesOf (s : State) (uid : Nat) : List FetchEntry := s.fetches.filter (fun e => e.volume == uid)
def State.otherFetches (s : State) (uid : Nat) : List FetchEntry := s.fetches.filter (fun e => e.volume != uid)

theorem State.foldl_reply (l : List FetchEntry) (st : Status) (s : State) :
    l.foldl (fun t e => t.reply e.id st (fetchFields e)) s = s.setLink (s.link.endReplies s.fetching st l) := by
  induction l generalizing s with
  | nil => rfl
  | cons e l ih =>
    rw [List.foldl_cons, ih]
    rfl

theorem State.endFetches_eq (s : State) (uid : Nat) (st : Status) : s.endFetches uid st =
    { s with
      link := s.link.endReplies (!(s.otherFetches uid).isEmpty) st (s.fetchesOf uid)
      fetches := s.otherFetches uid } :=
  State.foldl_reply _ _ _

theorem State.anyFetch_iff {s : State} {uid : Nat} :
    s.fetches.any (fun e => e.volume == uid) = true ↔ s.fetchesOf uid ≠ [] := by
  rw [State.fetchesOf, ne_eq, List.filter_eq_nil_iff, List.any_eq_true]
  push Not
  exact ⟨fun ⟨e, he, h⟩ => ⟨e, he, h⟩, fun ⟨e, he, h⟩ => ⟨e, he, h⟩⟩

/-- The link of an ABORT that ends fetches, by which reply comes first (R156). -/
def State.abortLink (s : State) (fetching : Bool) (tag : Byte) (uid : Nat) : Link :=
  if Config.abortReplyFirst s.races then
    (s.link.answered fetching 0x32 tag .ok []).endReplies (!(s.otherFetches uid).isEmpty) .aborted (s.fetchesOf uid)
  else
    ((s.link.accepted 0x32 tag).endReplies (!(s.otherFetches uid).isEmpty) .aborted (s.fetchesOf uid)).reply
      (!(s.otherFetches uid).isEmpty) s.link.nextId .ok []

section
variable {s : State} {ch : Chan} {v : Volume} {tag : Byte}

theorem exec_abort_run (hacc : Accepts s 0x32 [chanByte ch]) (hv : s.volume ch = some v) (hrun : v.inRun = true) :
    exec (.abort tag [chanByte ch]) s =
      .next (((s.abortRun ch).setLink (s.link.accepted 0x32 tag)).answerAbort s.link.nextId v.uid) := by
  refine congrArg Host.Outcome.next ((State.withRequest_mounted hacc hv _).trans ((if_pos hrun).trans ?_))
  rw [State.setLink_abortRun]

theorem exec_abort_noFetch (hids : s.link.idsFresh) (hacc : Accepts s 0x32 [chanByte ch]) (hv : s.volume ch = some v)
    (hrun : v.inRun = true) (h : s.fetchesOf v.uid = []) :
    exec (.abort tag [chanByte ch]) s = .next ((s.abortRun ch).answered 0x32 tag .ok []) := by
  have hnone : ¬ (s.abortRun ch).fetches.any (fun e => e.volume == v.uid) = true := by
    rw [State.abortRun_frame]
    exact fun hany => State.anyFetch_iff.mp hany h
  rw [exec_abort_run hacc hv hrun, State.answerAbort]
  refine congrArg Host.Outcome.next ((if_neg hnone).trans ?_)
  rw [State.accepted_reply hids _ _ _ _ rfl, State.abortRun_frame]
  rfl

theorem exec_abort_fetches (hids : s.link.idsFresh) (hacc : Accepts s 0x32 [chanByte ch]) (hv : s.volume ch = some v)
    (hrun : v.inRun = true) (h : s.fetchesOf v.uid ≠ []) :
    exec (.abort tag [chanByte ch]) s = .next { s.abortRun ch with
      link := s.abortLink true tag v.uid, fetches := s.otherFetches v.uid, races := s.races + 1 } := by
  have hsome : (s.abortRun ch).fetches.any (fun e => e.volume == v.uid) = true := by
    rw [State.abortRun_frame]
    exact State.anyFetch_iff.mpr h
  have hfetching : s.fetching = true := State.fetching_iff.mpr fun hnil => h (by simp [State.fetchesOf, hnil])
  rw [exec_abort_run hacc hv hrun, State.answerAbort]
  refine congrArg Host.Outcome.next ((if_pos hsome).trans ?_)
  rw [State.abortRun_frame, show s.abortLink true tag v.uid = s.abortLink s.fetching tag v.uid by rw [hfetching],
    State.abortLink, ← Link.accepted_reply hids]
  dsimp only [State.setLink_races]
  by_cases hfirst : Config.abortReplyFirst s.races = true
  · rw [if_pos hfirst]
    refine (if_pos hfirst).trans ?_
    rw [State.endFetches_eq]
    rfl
  · rw [if_neg hfirst]
    refine (if_neg hfirst).trans ?_
    rw [State.endFetches_eq]
    rfl

theorem exec_pause_running (hids : s.link.idsFresh) (hacc : Accepts s 0x31 [chanByte ch]) (hv : s.volume ch = some v)
    (h : v.planner.run = .running) : exec (.pause tag [chanByte ch]) s =
      .next ((s.setVolume ch (some { v with planner := { v.planner with run := .pausing } })).answered 0x31 tag .ok
        (b1 (runByte .pausing))) := by
  refine congrArg Host.Outcome.next ((State.withRequest_mounted hacc hv _).trans ((if_pos h).trans ?_))
  exact State.accepted_reply hids _ _ _ _ rfl

theorem exec_pause_other (hids : s.link.idsFresh) (hacc : Accepts s 0x31 [chanByte ch]) (hv : s.volume ch = some v)
    (h : v.planner.run ≠ .running) : exec (.pause tag [chanByte ch]) s =
      .next (s.answered 0x31 tag .ok (b1 (runByte v.planner.run))) := by
  refine congrArg Host.Outcome.next ((State.withRequest_mounted hacc hv _).trans ((if_neg h).trans ?_))
  exact State.setLink_accepted_reply hids _ _ _ _

theorem exec_abort_notRunning (hids : s.link.idsFresh) (hacc : Accepts s 0x32 [chanByte ch]) (hv : s.volume ch = some v)
    (h : v.inRun = false) : exec (.abort tag [chanByte ch]) s = .next (s.answered 0x32 tag .ok []) := by
  refine congrArg Host.Outcome.next
    ((State.withRequest_mounted hacc hv _).trans ((if_neg (Bool.eq_false_iff.mp h)).trans ?_))
  exact State.setLink_accepted_reply hids _ _ _ _

end

/-- Where no SUMMARY notice waits, the frames of an ABORT stand in one of R156's two orders. -/
theorem State.abortLink_outbound {s : State} (hids : s.link.idsFresh) (hnone : s.link.NonePending) (tag : Byte) {uid : Nat}
    (hnd : ((s.fetchesOf uid).map (·.id)).Nodup)
    (hfind : ∀ e ∈ s.fetchesOf uid, s.link.requests.find? (fun r => r.id == e.id) =
      some { id := e.id, kind := 0x40, tag := e.tag }) {own : OutFrame} {aborted : List OutFrame}
    (hown : own = { kind := 0xB2, tag := tag, payload := b1 (statusCode .ok) })
    (haborted : aborted = (s.fetchesOf uid).map (fun e =>
      { kind := 0xC0, tag := e.tag, payload := b1 (statusCode .aborted) ++ fetchFields e })) :
    (s.abortLink true tag uid).outbound =
      s.link.outbound ++ (if Config.abortReplyFirst s.races then own :: aborted else aborted ++ [own]) := by
  unfold State.abortLink
  by_cases hfirst : Config.abortReplyFirst s.races = true
  · rw [if_pos hfirst, if_pos hfirst]
    have hanswered : s.link.answered true 0x32 tag .ok [] = { s.link with
        received := [], nextId := s.link.nextId + 1, outbound := s.link.outbound ++ [own] } := by
      rw [hown]
      exact Link.NonePending.reportRoom (l := { s.link with
        received := [], nextId := s.link.nextId + 1, outbound := s.link.outbound ++ [replyFrame 0x32 tag .ok []] }) hnone true
    obtain ⟨_, hout, _⟩ := Link.NonePending.endReplies (l := s.link.answered true 0x32 tag .ok []) (by rw [hanswered]; exact hnone)
      hnd (by rw [hanswered]; exact hfind) (!(s.otherFetches uid).isEmpty) .aborted
    rw [hout, hanswered, haborted]
    exact List.append_assoc _ _ _
  · rw [if_neg hfirst, if_neg hfirst]
    obtain ⟨hnone', hout, hfound⟩ := Link.NonePending.endReplies (l := s.link.accepted 0x32 tag) hnone hnd
      (fun e he => by rw [Link.accepted, List.find?_append, hfind e he]; rfl) (!(s.otherFetches uid).isEmpty) .aborted
    have hfresh : s.link.nextId ∉ (s.fetchesOf uid).map (·.id) := by
      intro hmem
      obtain ⟨e, he, heq⟩ := List.mem_map.mp hmem
      have hlt := hids _ (List.mem_of_find?_eq_some (hfind e he))
      exact absurd heq (Nat.ne_of_lt hlt)
    have hlast := (hfound _ hfresh).trans
      (find_fresh (r := { id := s.link.nextId, kind := 0x32, tag := tag }) hids rfl)
    rw [hnone'.reply hlast, hout, haborted, hown]
    exact List.append_assoc _ _ _

/-- Settles O47: PAUSE by the run state; ABORT by the state of the pass it cuts, and by which reply comes first. -/
theorem pauseAndAbort : Obligations.PauseAndAbort := by
  intro s tag ch v hids hv
  refine ⟨fun hacc => ⟨exec_pause_running hids hacc hv, exec_pause_other hids hacc hv⟩,
    fun hacc => ⟨fun hnr hnp => ?_, fun hrun => ?_⟩⟩
  · exact exec_abort_notRunning hids hacc hv (Bool.eq_false_iff.mpr fun h => (Volume.inRun_iff.mp h).elim hnr hnp)
  intro c p stopped ended kept replies replied answers
  have hin : v.inRun = true := Volume.inRun_iff.mpr hrun
  have hanswers : answers (s.abortRun ch) :=
    ⟨exec_abort_noFetch hids hacc hv hin, exec_abort_fetches hids hacc hv hin⟩
  have hcut (ho : v.planner.outstanding ≠ none) {d : Channel} (hd : c.takeCutOrder p = d) :
      answers (stopped.putChannel ch d) := by
    rw [State.abortRun_order hv hin ho] at hanswers
    rw [← hd]
    exact hanswers
  refine ⟨fun hnone hnd hfind => ?outbound, fun ho => ?noOrder, fun ho hcompl hheld => ?completing,
    fun ho hcompl hpass => ⟨fun hheld => ?noPass, fun o hheld => ?held⟩, fun a ho hcompl hpass => ?cut⟩
  case outbound => exact State.abortLink_outbound hids hnone tag hnd hfind rfl rfl
  case noOrder =>
    rw [State.abortRun_noOrder hv hin ho] at hanswers
    exact hanswers
  case completing =>
    refine hcut ho ?_
    rw [Channel.takeCutOrder_completing hcompl, Channel.finishCompletion_completing hcompl, Channel.dropHeld_none (by exact hheld)]
  case noPass => exact hcut ho (by rw [Channel.takeCutOrder_noPass hcompl hpass, Channel.dropHeld_none hheld])
  case held =>
    exact hcut ho (by rw [Channel.takeCutOrder_noPass hcompl hpass, Channel.dropHeld_some hheld]; rfl)
  case cut =>
    intro moving left hmoves hstands report held last
    have hreport : c.cutReportOf a .abort left = report := by
      dsimp only [Channel.cutReportOf, cutUnits, report]
      cases c.kind with
      | floppy => cases c.state <;> rfl
      | cartridge => cases c.state <;> cases a.windingBegun <;> rfl
    have htaken := Channel.takeCutOrder_cut (p := p) hcompl hpass hmoves hstands
    refine ⟨fun hs => hcut ho ?_, fun hs => hcut ho ?_⟩
    · rw [htaken, Channel.cutPass_outside hpass hs, hreport]
      rfl
    · rw [htaken, Channel.cutPass_capturing hpass hs, hreport]
      rfl

end Sys2Proof.Machine
end


/-! # Faults and media changes (R42 to R46, R48, R49, R139) -/

section
/-! SUPPORT. What a cut by a fault or a media change leaves of a channel, what the planner makes of being told, and the state
after each. -/

namespace Sys2Proof.Machine

namespace Channel

/-! ## What a cut leaves (R42, R44) -/

/-- Units of a pass cut outside CAPTURING, and within it (R42's table). -/
def unitsOutside (c : Channel) (a : Pass) : Nat :=
  match c.kind, c.state with
  | .floppy, _ => 0
  | .cartridge, .winding => 1
  | .cartridge, .armed => if a.windingBegun then 1 else 0
  | .cartridge, _ => 0

def unitsCapturing (c : Channel) (a : Pass) : Nat :=
  match c.kind with
  | .floppy => a.revolutionsDone + 1
  | .cartridge => if a.windingBegun then 2 else 1

section
variable {c : Channel} {p : Profile} {a : Pass} {cause : Cause} {left : TapeEnd}

theorem cutUnits_outside (hs : c.state ≠ .capturing) : cutUnits c a = c.unitsOutside a := by
  unfold cutUnits unitsOutside
  cases c.kind with
  | floppy => exact if_neg hs
  | cartridge =>
    cases h : c.state
    case capturing => exact absurd h hs
    case armed => cases a.windingBegun <;> rfl
    all_goals rfl

theorem cutUnits_capturing (hs : c.state = .capturing) : cutUnits c a = c.unitsCapturing a := by
  unfold cutUnits unitsCapturing
  rw [hs]
  cases c.kind with
  | floppy => rfl
  | cartridge => cases a.windingBegun <;> rfl

theorem finishCompletion_frame (c : Channel) : c.finishCompletion = { c with
    completing := false, pass := c.finishCompletion.pass, state := c.finishCompletion.state
    holdTimer := c.finishCompletion.holdTimer, stageTimer := c.finishCompletion.stageTimer
    recalStage := c.finishCompletion.recalStage } := by
  cases h : c.completing with
  | true => rw [finishCompletion_completing h]
  | false =>
    rw [finishCompletion_of_not h, ← h]

theorem cutPass_frame (c : Channel) (p : Profile) (cause : Cause) (left : TapeEnd) : c.cutPass p cause left = { c with
    pass := none, recalStage := (c.cutPass p cause left).recalStage, stageTimer := (c.cutPass p cause left).stageTimer
    counter := (c.cutPass p cause left).counter, separator := (c.cutPass p cause left).separator
    decoder := (c.cutPass p cause left).decoder, handed := (c.cutPass p cause left).handed } := by
  cases hp : c.pass with
  | none =>
    rw [cutPass_none hp, ← hp]
  | some a =>
    by_cases hs : c.state = .capturing
    · rw [cutPass_capturing hp hs]
      rfl
    · rw [cutPass_outside hp hs]

theorem dropHeld_frame (c : Channel) (cause : Cause) (left : TapeEnd) : c.dropHeld cause left = { c with
    heldOrder := none, handed := (c.dropHeld cause left).handed } := by
  cases hh : c.heldOrder with
  | none => rw [dropHeld_none hh, ← hh]
  | some o => rw [dropHeld_some hh]

/-- What waits to be handed on, and the capture blocks, as a cut leaves them. -/
def cutShort (c : Channel) (p : Profile) (cause : Cause) : Channel := (c.cutPass p cause .none).dropHeld cause .none

theorem cutShort_frame (c : Channel) (p : Profile) (cause : Cause) : c.cutShort p cause = { c with
    pass := none, heldOrder := none, recalStage := (c.cutShort p cause).recalStage
    stageTimer := (c.cutShort p cause).stageTimer, counter := (c.cutShort p cause).counter
    separator := (c.cutShort p cause).separator, decoder := (c.cutShort p cause).decoder
    handed := (c.cutShort p cause).handed } := by
  unfold cutShort
  rw [dropHeld_frame, cutPass_frame]

theorem cutShort_outside (hp : c.pass = some a) (hs : c.state ≠ .capturing) (hh : c.heldOrder = none) :
    (c.cutShort p cause).handed = c.handed ++ [.report
      { volume := a.order.volume, track := a.order.track, direction := a.direction, completed := false
        captureBegan := false, units := c.unitsOutside a, winding := a.windingBegun, tapeEnd := .none
        cause := cause }] := by
  unfold cutShort
  rw [dropHeld_none (by rw [cutPass_outside hp hs]; exact hh), cutPass_outside hp hs, ← cutUnits_outside hs]
  simp only [cutReportOf, hs, decide_false]

theorem cutShort_capturing (hp : c.pass = some a) (hs : c.state = .capturing) (hh : c.heldOrder = none) :
    c.cutShort p cause = { c.endCapture p a.order.volume with
      pass := none, recalStage := none, stageTimer := none
      handed := (c.endCapture p a.order.volume).handed ++ [.report
        { volume := a.order.volume, track := a.order.track, direction := a.direction, completed := false
          captureBegan := true, units := c.unitsCapturing a, winding := a.windingBegun, tapeEnd := .none
          cause := cause }] } := by
  unfold cutShort
  rw [dropHeld_none (by rw [cutPass_capturing hp hs]; exact hh), cutPass_capturing hp hs, ← cutUnits_capturing hs]
  simp only [cutReportOf, hs, decide_true]

theorem cutShort_held (hp : c.pass = none) {o : PassOrder} (hh : c.heldOrder = some o) :
    (c.cutShort p cause).handed = c.handed ++ [.report
      { volume := o.volume, track := o.track, direction := o.direction, completed := false, captureBegan := false
        units := 0, winding := false, tapeEnd := .none, cause := cause }] := by
  unfold cutShort
  rw [cutPass_none hp, dropHeld_some hh]
  rfl

theorem cutShort_idle (hp : c.pass = none) (hh : c.heldOrder = none) : c.cutShort p cause = c := by
  unfold cutShort
  rw [cutPass_none hp, dropHeld_none hh]

end

/-! ## Nothing to cut -/

theorem drive_drive (c : Channel) : c.drive.drive = c.drive := by
  change { c with
    outputs := outputsOf c
    sincePulse := if (outputsOf c).motor then (if (outputsOf c).motor then c.sincePulse else none) else none } =
    { c with outputs := outputsOf c, sincePulse := if (outputsOf c).motor then c.sincePulse else none }
  cases (outputsOf c).motor <;> rfl

/-- A channel with no pass, no order and no completion to wait for: a cut order finds nothing. -/
structure NothingToCut (c : Channel) : Prop where
  completing : c.completing = false
  pass : c.pass = none
  heldOrder : c.heldOrder = none

theorem NothingToCut.takeCutOrder {c : Channel} (h : c.NothingToCut) (p : Profile) : c.takeCutOrder p = c := by
  rw [takeCutOrder_noPass h.completing h.pass, dropHeld_none h.heldOrder]

end Channel

theorem State.putChannel_self {s : State} {ch : Chan} (h : (s.channel ch).drive = s.channel ch) :
    s.putChannel ch (s.channel ch) = s := by
  unfold State.putChannel
  rw [h]
  exact congrArg (fun q => { s with channels := q }) (qset_qget s.channels ch)

/-! ## The planner told (R139) -/

/-- A volume halted for a reason (R138, R139). -/
def Volume.haltedFor (v : Volume) (reason : HaltReason) : Volume :=
  { v with planner := { v.planner with run := .halted, halt := reason } }

/-- The VOLUME notice of a halt (R141, R174). -/
def Volume.haltNotice (v : Volume) (ch : Chan) (reason : HaltReason) : List Byte :=
  b1 ch.val ++ le4 v.tag ++ b1 (runByte .halted) ++ b1 (haltByte reason) ++ b1 (phaseByte v.planner.phase) ++
    le2 v.planner.wearUsed ++ le2 v.planner.wearBudget ++ le2 v.totals.settled ++ le2 v.totals.opn ++
    le2 v.totals.lost ++ le2 v.totals.excluded

section
variable {s : State} {ch : Chan} {v : Volume} {reason : HaltReason}

theorem State.haltVolume_running (hv : s.volume ch = some v) (h : v.inRun = true) :
    s.haltVolume ch reason = (s.setVolume ch (some (v.haltedFor reason))).notify ch .volume (v.haltNotice ch reason) := by
  simp only [State.haltVolume, hv, if_pos (Volume.inRun_iff.mp h), State.volumeNotice, countsSettledFirst]
  simp only [Volume.haltNotice, List.append_assoc]
  rfl

theorem State.tellPlanner_noVolume (hv : s.volume ch = none) : s.tellPlanner ch reason = s := by
  simp only [State.tellPlanner, hv]

theorem State.tellPlanner_notRunning (hv : s.volume ch = some v) (h : v.inRun = false) : s.tellPlanner ch reason = s := by
  have hnot : ¬ (v.planner.run = .running ∨ v.planner.run = .pausing) := fun hr =>
    Bool.false_ne_true (h.symm.trans (Volume.inRun_iff.mpr hr))
  simp only [State.tellPlanner, hv, if_neg hnot]

/-- A cut order that finds nothing to cut leaves the halt alone. -/
theorem State.tellPlanner_running (hv : s.volume ch = some v) (h : v.inRun = true) (hcut : (s.channel ch).NothingToCut)
    (hdriven : (s.channel ch).drive = s.channel ch) : s.tellPlanner ch reason =
      (s.setVolume ch (some (v.haltedFor reason))).notify ch .volume (v.haltNotice ch reason) := by
  simp only [State.tellPlanner, hv, if_pos (Volume.inRun_iff.mp h), State.haltVolume_running hv h]
  split
  · rw [State.sendCutOrder, State.notify_channel, State.setVolume_channel, hcut.takeCutOrder]
    exact State.putChannel_self (s := (s.setVolume ch (some (v.haltedFor reason))).notify ch .volume
      (v.haltNotice ch reason)) hdriven
  · rfl

/-- Told or not, the state differs in the link and the run of the volume alone. -/
theorem State.tellPlanner_frame (hcut : (s.channel ch).NothingToCut) (hdriven : (s.channel ch).drive = s.channel ch)
    (reason : HaltReason) : s.tellPlanner ch reason = { s with
      link := (s.tellPlanner ch reason).link, volumes := (s.tellPlanner ch reason).volumes } ∧
    (∀ k, k ≠ ch → (s.tellPlanner ch reason).volume k = s.volume k) ∧
    (s.volume ch = none → (s.tellPlanner ch reason).volume ch = none) ∧
    ∀ v, s.volume ch = some v → ∃ w, (s.tellPlanner ch reason).volume ch = some w ∧
      w = { v with planner := w.planner } := by
  cases hv : s.volume ch with
  | none =>
    rw [State.tellPlanner_noVolume hv]
    exact ⟨rfl, fun _ _ => rfl, fun _ => hv, fun _ h => nomatch h⟩
  | some v =>
    cases hin : v.inRun with
    | false =>
      rw [State.tellPlanner_notRunning hv hin]
      exact ⟨rfl, fun _ _ => rfl, nofun, fun w hw => ⟨v, hv, by cases hw; rfl⟩⟩
    | true =>
      rw [State.tellPlanner_running hv hin hcut hdriven]
      refine ⟨rfl, fun k hk => State.setVolume_volume_ne _ _ _ _ hk, nofun, fun w hw => ?_⟩
      cases hw
      exact ⟨_, State.setVolume_volume _ _ _, rfl⟩

end

/-! ## A RECAL request in flight answered (R48) -/

/-- The link once a RECAL request in flight, if any, is answered. -/
def Link.answerRecal (l : Link) (fetching : Bool) (flight : Option RecalFlight) (status : Status) (fields : List Byte) :
    Link :=
  match flight with
  | none => l
  | some f => l.reply fetching f.id status fields

theorem State.answerRecal_eq (s : State) (flight : Option RecalFlight) (status : Status) (fields : List Byte) :
    s.answerRecal flight status fields = s.setLink (s.link.answerRecal s.fetching flight status fields) := by
  cases flight <;> rfl

/-! ## A fault (R44) -/

namespace Channel

/-- A faulted channel keeps what the fault does not speak of. -/
theorem faulted_eq (c : Channel) (p : Profile) (code : FaultCode) : c.faulted p code = { c with
    state := .faulted, positionKnown := false, tapeEnd := .none, faultCode := code, faultCount := min 3 (c.faultCount + 1)
    recal := none, recalStage := none, stageTimer := none, holdTimer := none, pass := none, heldOrder := none
    counter := (c.cutShort p (.fault code)).counter, separator := (c.cutShort p (.fault code)).separator
    decoder := (c.cutShort p (.fault code)).decoder, handed := (c.cutShort p (.fault code)).handed } := by
  unfold faulted
  rw [← cutShort, cutShort_frame]
  rfl

theorem faulted_nothingToCut {c : Channel} (h : c.completing = false) (p : Profile) (code : FaultCode) :
    (c.faulted p code).NothingToCut := by
  rw [faulted_eq]
  exact ⟨h, rfl, rfl⟩

theorem finishCompletion_completing_eq (c : Channel) : c.finishCompletion.completing = false := by
  rw [finishCompletion_frame]

end Channel

/-- The channel after a fault. -/
def State.faultedChannel (s : State) (ch : Chan) (code : FaultCode) : Channel :=
  (s.channel ch).finishCompletion.faulted (s.chanProfile ch) code

/-- The link after a fault, before the planner is told. -/
def State.faultLink (s : State) (ch : Chan) (code : FaultCode) : Link :=
  (s.link.answerRecal s.fetching (s.channel ch).recal .recalFailed (b1 (faultByte code))).notify s.selfTest.partFailed ch
    .fault (faultPayload ch code (s.channel ch).finishCompletion.state
      ((s.channel ch).finishCompletion.pass.map (·.order.track)) (s.faultedChannel ch code).faultCount)

/-- The state after a fault, before the planner is told. -/
def State.afterFault (s : State) (ch : Chan) (code : FaultCode) : State :=
  (s.putChannel ch (s.faultedChannel ch code)).setLink (s.faultLink ch code)

theorem State.fault_eq (s : State) (ch : Chan) (code : FaultCode) : s.fault ch code =
    if (s.channel ch).finishCompletion.pass.isSome then s.afterFault ch code
    else (s.afterFault ch code).tellPlanner ch (.fault code) := by
  have hrecal : (s.channel ch).finishCompletion.recal = (s.channel ch).recal := by
    rw [Channel.finishCompletion_frame]
  unfold State.fault
  simp only [State.answerRecal_eq, hrecal, Option.isSome_map]
  rfl

theorem State.afterFault_channel (s : State) (ch : Chan) (code : FaultCode) :
    (s.afterFault ch code).channel ch = (s.faultedChannel ch code).drive :=
  State.putChannel_channel _ _ _

theorem State.afterFault_nothingToCut (s : State) (ch : Chan) (code : FaultCode) :
    ((s.afterFault ch code).channel ch).NothingToCut ∧
      ((s.afterFault ch code).channel ch).drive = (s.afterFault ch code).channel ch := by
  rw [State.afterFault_channel]
  obtain ⟨hc, hp, hh⟩ := Channel.faulted_nothingToCut (s.channel ch).finishCompletion_completing_eq (s.chanProfile ch) code
  exact ⟨⟨hc, hp, hh⟩, Channel.drive_drive _⟩

section
variable {s : State} {ch : Chan} {code : FaultCode}

theorem State.fault_channel (s : State) (ch : Chan) (code : FaultCode) :
    (s.fault ch code).channel ch = (s.faultedChannel ch code).drive := by
  obtain ⟨hcut, hdriven⟩ := s.afterFault_nothingToCut ch code
  rw [State.fault_eq]
  split
  · exact s.afterFault_channel ch code
  · rw [(State.tellPlanner_frame hcut hdriven _).1]
    exact s.afterFault_channel ch code

theorem State.fault_frame (s : State) (ch : Chan) (code : FaultCode) : OnlyChannelPlanLink ch s (s.fault ch code) ∧
    ∀ v, s.volume ch = some v → ∃ w, (s.fault ch code).volume ch = some w ∧ w.mediaGone = v.mediaGone := by
  obtain ⟨hcut, hdriven⟩ := s.afterFault_nothingToCut ch code
  rw [State.fault_eq]
  split
  · exact ⟨⟨rfl, fun k hk => ⟨State.putChannel_channel_ne _ _ _ _ hk, rfl⟩, id, fun v hv => ⟨v, hv, rfl⟩⟩,
      fun v hv => ⟨v, hv, rfl⟩⟩
  · obtain ⟨heq, hother, hnone, hsome⟩ := State.tellPlanner_frame hcut hdriven (.fault code)
    refine ⟨⟨?_, fun k hk => ⟨?_, hother k hk⟩, hnone, fun v hv => ?_⟩, fun v hv => ?_⟩
    · rw [heq]
      rfl
    · rw [heq]
      exact State.putChannel_channel_ne _ _ _ _ hk
    · obtain ⟨w, hw, hplan⟩ := hsome v hv
      exact ⟨w, hw, by rw [hplan]⟩
    · obtain ⟨w, hw, hplan⟩ := hsome v hv
      exact ⟨w, hw, by rw [hplan]⟩

theorem State.fault_pass (hc : (s.channel ch).completing = false) {a : Pass} (hp : (s.channel ch).pass = some a) :
    s.fault ch code = s.afterFault ch code := by
  rw [State.fault_eq, Channel.finishCompletion_of_not hc, hp]
  rfl

theorem State.fault_noPass (hc : (s.channel ch).completing = false) (hp : (s.channel ch).pass = none) :
    s.fault ch code = (s.afterFault ch code).tellPlanner ch (.fault code) := by
  rw [State.fault_eq, Channel.finishCompletion_of_not hc, hp]
  rfl

theorem State.faultLink_eq (hc : (s.channel ch).completing = false) : s.faultLink ch code =
    (s.link.answerRecal s.fetching (s.channel ch).recal .recalFailed (b1 (faultByte code))).notify s.selfTest.partFailed ch
      .fault (faultPayload ch code (s.channel ch).state ((s.channel ch).pass.map (·.order.track))
        (s.faultedChannel ch code).faultCount) := by
  rw [State.faultLink, Channel.finishCompletion_of_not hc]

theorem State.faultedChannel_eq (hc : (s.channel ch).completing = false) :
    s.faultedChannel ch code = (s.channel ch).faulted (s.chanProfile ch) code := by
  rw [State.faultedChannel, Channel.finishCompletion_of_not hc]

/-- A faulted channel keeps its place, its head, its offset, its media-seen flag and its sector counter. -/
theorem State.faultedChannel_keeps (s : State) (ch : Chan) (code : FaultCode) : s.faultedChannel ch code =
    { s.channel ch with
      state := .faulted, positionKnown := false, tapeEnd := .none, faultCode := code
      faultCount := min 3 ((s.channel ch).faultCount + 1), recal := none, recalStage := none, stageTimer := none
      holdTimer := none, pass := none, heldOrder := none, completing := false
      counter := (s.faultedChannel ch code).counter, separator := (s.faultedChannel ch code).separator
      decoder := (s.faultedChannel ch code).decoder, handed := (s.faultedChannel ch code).handed } := by
  unfold State.faultedChannel
  rw [Channel.faulted_eq, Channel.finishCompletion_frame]

/-- A channel that stands still and is not being probed releases its lines. -/
theorem outputsOf_still {c : Channel} (hs : motorOn c.state = false) (hp : c.probe = none) :
    (outputsOf c).motor = false ∧ (outputsOf c).load = false ∧ (outputsOf c).runFwd = false ∧
      (outputsOf c).runRev = false ∧ (outputsOf c).readEn = false := by
  have hstill := motorOn_eq_false_iff.mp hs
  have hmotion : tapeMotion c = none := by rcases hstill with h | h | h <;> simp [tapeMotion, h]
  have hcapture : c.state ≠ .capturing := by rcases hstill with h | h | h <;> simp [h]
  cases hk : c.kind <;> simp [outputsOf, hk, hs, hp, hmotion, hcapture]

end

/-! ## The commands that find a fault (R27, R28, R29, R32, R37, R38, R43) -/

theorem OnlyChannelPlanLink.of_pins {s t : State} {ch : Chan} {lines : Lines} (h : OnlyChannelPlanLink ch (s.pins ch lines) t) :
    OnlyChannelPlanLink ch s t := by
  obtain ⟨heq, hother, hnone, hsome⟩ := h
  refine ⟨?_, fun k hk => ?_, hnone, hsome⟩
  · rw [heq]
    rfl
  · exact ⟨(hother k hk).1.trans (State.putChannel_channel_ne _ _ _ _ hk), (hother k hk).2⟩

section
variable {s : State} {ch : Chan} {lines : Lines}

theorem exec_spinupTimerExpiry_notReady (hs : (s.channel ch).state = .spinup) (h : lines.ready = false) :
    exec (.spinupTimerExpiry ch lines) s = .next ((s.pins ch lines).fault ch .notReady) := by
  rw [exec_spinupTimerExpiry_spinup hs]
  refine congrArg Host.Outcome.next (if_pos ?_)
  rw [State.pins_channel]
  exact Bool.eq_false_iff.mp h

theorem exec_rewindTimerExpiry_due {n : Nat} (hs : (s.channel ch).state = .recal)
    (hr : (s.channel ch).recalStage = some { rewinding := true, pulses := n }) :
    exec (.rewindTimerExpiry ch lines) s = .next ((s.pins ch lines).fault ch .markerLost) := by
  simp only [exec, execRewindTimerExpiry, hs, hr]

theorem exec_recalPulseDue_limit {n : Nat} (hs : (s.channel ch).state = .recal)
    (hr : (s.channel ch).recalStage = some { rewinding := false, pulses := n })
    (h : if (s.channel ch).kind = .floppy then 100 ≤ n ∧ lines.track0 = false else 40 ≤ n ∧ lines.lane0 = false) :
    exec (.recalPulseDue ch lines) s = .next ((s.pins ch lines).fault ch .recalFailed) := by
  have hnot : ¬ ((s.pins ch lines).channel ch).atOrigin = true := by
    rw [State.atOrigin_pins]
    split_ifs at h ⊢ <;> simp [h.2]
  have hlimit : recalLimit ((s.pins ch lines).channel ch).kind ≤ n := by
    rw [State.pins_channel]
    change recalLimit (s.channel ch).kind ≤ n
    cases hk : (s.channel ch).kind with
    | floppy => rw [hk, if_pos rfl] at h; exact h.1
    | cartridge => rw [hk, if_neg nofun] at h; exact h.1
  rw [exec_recalPulseDue_due hs hr]
  exact congrArg Host.Outcome.next ((if_neg hnot).trans (if_pos hlimit))

end

/-- Settles O56: each command finds its condition behind its pins; then R44's steps. -/
theorem faultTaken : Obligations.FaultTaken := by
  intro s ch lines c i code hc hprobe hfound
  subst hc
  obtain ⟨now, hexec⟩ : ∃ now, exec i s = .next ((s.pins ch now).fault ch code) := by
    rcases hfound with ⟨rfl, rfl, hs, hr⟩ | ⟨rfl, rfl, hw⟩ | ⟨rfl, rfl, hk, hin⟩ | ⟨rfl, rfl, hs, n, hr⟩ | ⟨rfl, rfl, hs⟩ |
      ⟨rfl, rfl, hk, hin⟩ | ⟨rfl, rfl, hs, n, hr, hlimit⟩
    · exact ⟨lines, exec_spinupTimerExpiry_notReady hs hr⟩
    · exact ⟨{ lines with ready := false }, congrArg Host.Outcome.next (if_pos hw)⟩
    · exact ⟨lines, congrArg Host.Outcome.next (if_pos ⟨hk, hin⟩)⟩
    · exact ⟨lines, exec_rewindTimerExpiry_due hs hr⟩
    · exact ⟨lines, congrArg Host.Outcome.next (if_pos hs)⟩
    · exact ⟨lines, congrArg Host.Outcome.next (if_pos ⟨hk, hin⟩)⟩
    · exact ⟨lines, exec_recalPulseDue_limit hs hr hlimit⟩
  obtain ⟨d, hd⟩ : ∃ d, d = (s.pins ch now).faultedChannel ch code := ⟨_, rfl⟩
  have hch := s.pins_channel ch now
  have hkeeps := (s.pins ch now).faultedChannel_keeps ch code
  rw [← hd, hch] at hkeeps
  have field {α : Type} (f : Channel → α) := congrArg f hkeeps
  obtain ⟨hmotor, hload, hfwd, hrev, hread⟩ := outputsOf_still (by rw [field (·.state)]; rfl) ((field (·.probe)).trans hprobe)
  obtain ⟨hframe, hmedia⟩ := (s.pins ch now).fault_frame ch code
  refine ⟨(s.pins ch now).fault ch code, d.drive, hexec, by rw [hd, State.fault_channel], field (·.state),
    field (·.faultCode), field (·.faultCount), field (·.positionKnown), field (·.tapeEnd), field (·.pass),
    field (·.recal), field (·.heldOrder), field (·.holdTimer), field (·.stageTimer), field (·.completing),
    field (·.position), field (·.headSelected), field (·.offset), field (·.mediaSeen), field (·.sectorCounter),
    hmotor, hload, hfwd, hrev, hread, hframe.of_pins, hmedia, fun hcompl => ?_⟩
  intro answered
  have hnot : ((s.pins ch now).channel ch).completing = false := by rw [hch]; exact hcompl
  have hlink : (s.pins ch now).faultLink ch code = answered.notify s.selfTest.partFailed ch .fault
      (faultPayload ch code (s.channel ch).state ((s.channel ch).pass.map (·.order.track)) d.faultCount) := by
    rw [State.faultLink_eq hnot, ← hd, hch]
    rfl
  have hfaulted : d = (((s.channel ch).withInputs now).drive).faulted (s.chanProfile ch) code := by
    rw [hd, State.faultedChannel_eq hnot, hch]
    rfl
  rw [Channel.faulted_eq] at hfaulted
  generalize hseen : ((s.channel ch).withInputs now).drive = seen at hfaulted
  have hpassed : seen.pass = (s.channel ch).pass := by rw [← hseen]; rfl
  have hstate : seen.state = (s.channel ch).state := by rw [← hseen]; rfl
  have hheld : seen.heldOrder = (s.channel ch).heldOrder := by rw [← hseen]; rfl
  have hhanded : seen.handed = (s.channel ch).handed := by rw [← hseen]; rfl
  have blocks {α : Type} (f : Channel → α) := congrArg f hfaulted
  refine ⟨fun a hpass => ⟨?linkPass, ?volumes, fun hs hh => ?outside, fun hs hh => ?capturing⟩,
    fun o hpass hh => ?held, fun hpass => ?noPass, fun hpass hh => ?idle⟩
  case linkPass =>
    rw [State.fault_pass hnot (by rw [hch, hseen, hpassed, hpass])]
    refine hlink.trans ?_
    rw [hpass]
    rfl
  case volumes =>
    rw [State.fault_pass hnot (by rw [hch, hseen, hpassed, hpass])]
    rfl
  case outside =>
    refine (blocks (·.handed)).trans
      ((Channel.cutShort_outside (hpassed.trans hpass) (by rw [hstate]; exact hs) (hheld.trans hh)).trans ?_)
    rw [hhanded, ← hseen]
    rfl
  case capturing =>
    intro last
    rw [Channel.cutShort_capturing (hpassed.trans hpass) (hstate.trans hs) (hheld.trans hh), ← hseen] at blocks
    exact ⟨blocks (·.decoder), blocks (·.counter), blocks (·.separator), blocks (·.handed)⟩
  case held =>
    refine (blocks (·.handed)).trans ((Channel.cutShort_held (hpassed.trans hpass) (hheld.trans hh)).trans ?_)
    rw [hhanded]
  case idle =>
    refine (blocks (·.handed)).trans ?_
    rw [Channel.cutShort_idle (hpassed.trans hpass) (hheld.trans hh), ← hhanded]
  case noPass =>
    intro noticed
    have hnoticed : (s.pins ch now).faultLink ch code = noticed := hlink.trans (by rw [hpass]; rfl)
    obtain ⟨hcut, hdriven⟩ := (s.pins ch now).afterFault_nothingToCut ch code
    rw [State.fault_noPass hnot (by rw [hch, hseen, hpassed, hpass])]
    refine ⟨fun hv => ?_, fun v hv => ⟨fun hnr hnp => ?_, fun hrun => ?_⟩⟩
    · rw [State.tellPlanner_noVolume (by exact hv)]
      exact hnoticed
    · have hin : v.inRun = false := Bool.eq_false_iff.mpr fun h => (Volume.inRun_iff.mp h).elim hnr hnp
      rw [State.tellPlanner_notRunning (v := v) (by exact hv) hin]
      exact ⟨rfl, hnoticed⟩
    · rw [State.tellPlanner_running (v := v) (by exact hv) (Volume.inRun_iff.mpr hrun) hcut hdriven, ← hnoticed]
      exact ⟨v.haltedFor (.fault code), State.setVolume_volume _ _ _, rfl, rfl⟩

end Sys2Proof.Machine
end


/-! # Media changes (R45, R46, R92, R139) -/

section
/-! SUPPORT. The channel, the volume and the link after a media change, with and without a mounted volume. -/

namespace Sys2Proof.Machine

/-! ## With no volume mounted (R46) -/

section
variable {s : State} {ch : Chan}

theorem State.takeMedia_absent (hp : (s.channel ch).probe = none) (hs : (s.channel ch).state = .absent) :
    s.takeMedia ch = s := by
  simp only [State.takeMedia, hp, if_pos hs]

theorem State.takeMedia_noVolume (hp : (s.channel ch).probe = none) (hs : (s.channel ch).state ≠ .absent)
    (hv : s.volume ch = none) : s.takeMedia ch = s.mediaNoVolume ch := by
  simp only [State.takeMedia, hp, if_neg hs, hv]

theorem State.takeMedia_volume (hp : (s.channel ch).probe = none) (hs : (s.channel ch).state ≠ .absent) {v : Volume}
    (hv : s.volume ch = some v) : s.takeMedia ch = s.mediaWithVolume ch v := by
  simp only [State.takeMedia, hp, if_neg hs, hv]

theorem State.mediaNoVolume_idle (hs : (s.channel ch).state = .idle) (hr : (s.channel ch).recal = none) :
    s.mediaNoVolume ch = s.putChannel ch { s.channel ch with mediaSeen := true } :=
  if_pos ⟨hs, hr⟩

theorem State.mediaNoVolume_change (h : ¬ ((s.channel ch).state = .idle ∧ (s.channel ch).recal = none)) :
    s.mediaNoVolume ch = (s.putChannel ch { s.channel ch with mediaSeen := true }.mediaIdle).answerRecal
      (s.channel ch).recal .aborted [] :=
  if_neg h

end

theorem motor_released {c : Channel} (hs : motorOn c.state = false) (hp : c.probe = none) : (outputsOf c).motor = false :=
  (outputsOf_still hs hp).1

/-! ## With a volume mounted (R45) -/

/-- The channel after a media change with a volume mounted. -/
def State.mediaChannel (s : State) (ch : Chan) : Channel :=
  ((s.channel ch).finishCompletion.cutShort (s.chanProfile ch) .media).mediaIdle

/-- The state after a media change with a volume mounted, before the planner is told. -/
def State.afterMedia (s : State) (ch : Chan) (v : Volume) : State :=
  ((s.putChannel ch (s.mediaChannel ch)).setLink
    (s.link.answerRecal s.fetching (s.channel ch).recal .aborted [])).setVolume ch (some { v with mediaGone := true })

/-- The payload of a MEDIA notice (R174). -/
def mediaPayload (ch : Chan) (was : ChanState) : List Byte := b1 ch.val ++ b1 (chanStateByte was)

theorem State.mediaWithVolume_eq (s : State) (ch : Chan) (v : Volume) : s.mediaWithVolume ch v =
    (if (s.channel ch).finishCompletion.pass.isSome then s.afterMedia ch v
      else (s.afterMedia ch v).tellPlanner ch .mediaGone).notify ch .media
        (mediaPayload ch (s.channel ch).finishCompletion.state) := by
  have hrecal : (s.channel ch).finishCompletion.recal = (s.channel ch).recal := by
    rw [Channel.finishCompletion_frame]
  unfold State.mediaWithVolume
  simp only [State.answerRecal_eq, hrecal]
  rfl

/-- A media change keeps what it does not speak of. -/
theorem State.mediaChannel_keeps (s : State) (ch : Chan) : s.mediaChannel ch = { s.channel ch with
    state := .idle, positionKnown := false, tapeEnd := .none, holdTimer := none, stageTimer := none, recal := none
    recalStage := none, pass := none, heldOrder := none, completing := false
    counter := (s.mediaChannel ch).counter, separator := (s.mediaChannel ch).separator
    decoder := (s.mediaChannel ch).decoder, handed := (s.mediaChannel ch).handed } := by
  unfold State.mediaChannel
  rw [Channel.cutShort_frame, Channel.finishCompletion_frame]
  rfl

theorem State.mediaChannel_eq {s : State} {ch : Chan} (hc : (s.channel ch).completing = false) :
    s.mediaChannel ch = ((s.channel ch).cutShort (s.chanProfile ch) .media).mediaIdle := by
  rw [State.mediaChannel, Channel.finishCompletion_of_not hc]

theorem State.afterMedia_channel (s : State) (ch : Chan) (v : Volume) :
    (s.afterMedia ch v).channel ch = (s.mediaChannel ch).drive :=
  State.putChannel_channel _ _ _

theorem State.afterMedia_nothingToCut (s : State) (ch : Chan) (v : Volume) :
    ((s.afterMedia ch v).channel ch).NothingToCut ∧
      ((s.afterMedia ch v).channel ch).drive = (s.afterMedia ch v).channel ch := by
  rw [State.afterMedia_channel, State.mediaChannel_keeps]
  exact ⟨⟨rfl, rfl, rfl⟩, Channel.drive_drive _⟩

theorem State.afterMedia_volume (s : State) (ch : Chan) (v : Volume) :
    (s.afterMedia ch v).volume ch = some { v with mediaGone := true } :=
  State.setVolume_volume _ _ _

theorem State.afterMedia_other (s : State) (v : Volume) {ch k : Chan} (h : k ≠ ch) :
    (s.afterMedia ch v).channel k = s.channel k ∧ (s.afterMedia ch v).volume k = s.volume k :=
  ⟨State.putChannel_channel_ne _ _ _ _ h, State.setVolume_volume_ne _ _ _ _ h⟩

section
variable {s : State} {ch : Chan} {v : Volume}

theorem State.mediaWithVolume_channel (s : State) (ch : Chan) (v : Volume) :
    (s.mediaWithVolume ch v).channel ch = (s.mediaChannel ch).drive := by
  obtain ⟨hcut, hdriven⟩ := s.afterMedia_nothingToCut ch v
  rw [State.mediaWithVolume_eq, State.notify_channel]
  split
  · exact s.afterMedia_channel ch v
  · rw [(State.tellPlanner_frame hcut hdriven _).1]
    exact s.afterMedia_channel ch v

theorem State.mediaWithVolume_frame (hv : s.volume ch = some v) : OnlyChannelPlanLink ch s (s.mediaWithVolume ch v) ∧
    ∃ w, (s.mediaWithVolume ch v).volume ch = some w ∧ w.mediaGone = true := by
  obtain ⟨hcut, hdriven⟩ := s.afterMedia_nothingToCut ch v
  rw [State.mediaWithVolume_eq]
  split
  · refine ⟨⟨rfl, fun k hk => s.afterMedia_other v hk, fun h => (nomatch h.symm.trans hv), fun w hw => ?_⟩, ?_⟩
    · obtain rfl : w = v := Option.some.inj (hw.symm.trans hv)
      exact ⟨_, s.afterMedia_volume ch w, rfl⟩
    · exact ⟨_, s.afterMedia_volume ch v, rfl⟩
  · obtain ⟨heq, hother, _, hsome⟩ := State.tellPlanner_frame hcut hdriven .mediaGone
    obtain ⟨w, hw, hplan⟩ := hsome _ (s.afterMedia_volume ch v)
    refine ⟨⟨?_, fun k hk => ⟨?_, ?_⟩, fun h => (nomatch h.symm.trans hv), fun u hu => ?_⟩, ?_⟩
    · rw [heq]
      rfl
    · rw [heq]
      exact (s.afterMedia_other v hk).1
    · exact (hother k hk).trans (s.afterMedia_other v hk).2
    · obtain rfl : u = v := Option.some.inj (hu.symm.trans hv)
      exact ⟨w, hw, by rw [hplan]⟩
    · exact ⟨w, hw, by rw [hplan]⟩

theorem State.mediaWithVolume_pass (hc : (s.channel ch).completing = false) {a : Pass} (hp : (s.channel ch).pass = some a) :
    s.mediaWithVolume ch v = (s.afterMedia ch v).notify ch .media (mediaPayload ch (s.channel ch).state) := by
  rw [State.mediaWithVolume_eq, Channel.finishCompletion_of_not hc, hp]
  rfl

theorem State.mediaWithVolume_noPass (hc : (s.channel ch).completing = false) (hp : (s.channel ch).pass = none) :
    s.mediaWithVolume ch v = ((s.afterMedia ch v).tellPlanner ch .mediaGone).notify ch .media
      (mediaPayload ch (s.channel ch).state) := by
  rw [State.mediaWithVolume_eq, Channel.finishCompletion_of_not hc, hp]
  rfl

end

/-- Settles O58: R46's two cases where no volume is mounted; else the cut, the tell and the notice of R45. -/
theorem mediaChangeTaken : Obligations.MediaChangeTaken := by
  intro s ch lines c hc hprobe
  subst hc
  intro now
  have hexec : exec (.mediaChange ch lines) s = .next ((s.pins ch now).takeMedia ch) := rfl
  have hch : (s.pins ch now).channel ch = ((s.channel ch).withInputs now).drive := s.pins_channel ch now
  rw [hexec]
  generalize hseen : ((s.channel ch).withInputs now).drive = seen at hch
  have hpr : seen.probe = none := by rw [← hseen]; exact hprobe
  have hst : seen.state = (s.channel ch).state := by rw [← hseen]; rfl
  have hrc : seen.recal = (s.channel ch).recal := by rw [← hseen]; rfl
  have hmoved (d : Channel) (hd : d = { s.channel ch with
      inputs := now, mediaSeen := true, state := .idle, positionKnown := false, tapeEnd := .none, holdTimer := none
      stageTimer := none, recalStage := none, recal := none }) :
      (s.pins ch now).putChannel ch { (s.pins ch now).channel ch with mediaSeen := true }.mediaIdle = s.putChannel ch d := by
    rw [hd]
    exact State.pins_putChannel (f := fun c => { c with mediaSeen := true }.mediaIdle)
      ⟨fun _ _ _ => rfl, fun _ => rfl⟩ s ch now (.inr (motor_released rfl hprobe))
  refine ⟨fun hs => ?absent, fun hs hv hr => ⟨fun hi => ?idle, fun hi => ?moves⟩, fun f hs hv hf => ?request,
    fun v hs hv => ?volume⟩
  case absent =>
    rw [State.takeMedia_absent (by rw [hch, hpr]) (by rw [hch, hst, hs])]
    rfl
  case idle =>
    rw [State.takeMedia_noVolume (by rw [hch, hpr]) (by rw [hch, hst]; exact hs) (by exact hv),
      State.mediaNoVolume_idle (by rw [hch, hst, hi]) (by rw [hch, hrc, hr])]
    exact congrArg Host.Outcome.next (State.pins_putChannel (f := fun c => { c with mediaSeen := true })
      ⟨fun _ _ _ => rfl, fun _ => rfl⟩ s ch now
      (.inr (motor_released (show motorOn (s.channel ch).state = false by rw [hi]; rfl) hprobe)))
  case moves =>
    have hnone : ((s.pins ch now).channel ch).recal = none := by rw [hch, hrc, hr]
    rw [State.takeMedia_noVolume (by rw [hch, hpr]) (by rw [hch, hst]; exact hs) (by exact hv),
      State.mediaNoVolume_change (by rw [hch, hst]; exact fun h => hi h.1), hnone]
    refine (congrArg Host.Outcome.next (hmoved _ rfl)).trans ?_
    rw [hr]
  case request =>
    have hsome : ((s.pins ch now).channel ch).recal = some f := by rw [hch, hrc, hf]
    rw [State.takeMedia_noVolume (by rw [hch, hpr]) (by rw [hch, hst]; exact hs) (by exact hv),
      State.mediaNoVolume_change (by rw [hch, hrc, hf]; exact fun h => nomatch h.2), hsome]
    exact congrArg (fun t : State => Host.Outcome.next (t.reply f.id .aborted [])) (hmoved _ rfl)
  case volume =>
    obtain ⟨d, hd⟩ : ∃ d, d = (s.pins ch now).mediaChannel ch := ⟨_, rfl⟩
    have hkeeps := (s.pins ch now).mediaChannel_keeps ch
    rw [← hd, hch, ← hseen] at hkeeps
    have field {α : Type} (f : Channel → α) := congrArg f hkeeps
    obtain ⟨hmotor, hload, hfwd, hrev, hread⟩ := outputsOf_still (by rw [field (·.state)]; rfl)
      ((field (·.probe)).trans hprobe)
    obtain ⟨hframe, w, hw, hgone⟩ := State.mediaWithVolume_frame (s := s.pins ch now) hv
    rw [State.takeMedia_volume (by rw [hch, hpr]) (by rw [hch, hst]; exact hs) (by exact hv)]
    refine ⟨_, d.drive, w, rfl, by rw [hd, State.mediaWithVolume_channel], hw, hframe.of_pins, hgone, field (·.state),
      field (·.positionKnown), field (·.tapeEnd), field (·.holdTimer), field (·.stageTimer), field (·.pass),
      field (·.recal), field (·.heldOrder), field (·.faultCode), field (·.faultCount), field (·.mediaSeen), hmotor,
      hload, hfwd, hrev, hread, fun hcompl => ?_⟩
    intro answered mediaNotice
    have hnot : ((s.pins ch now).channel ch).completing = false := by rw [hch, ← hseen]; exact hcompl
    have hpassed : seen.pass = (s.channel ch).pass := by rw [← hseen]; rfl
    have hheld : seen.heldOrder = (s.channel ch).heldOrder := by rw [← hseen]; rfl
    have hhanded : seen.handed = (s.channel ch).handed := by rw [← hseen]; rfl
    have hidle : d = (seen.cutShort (s.chanProfile ch) .media).mediaIdle := by
      rw [hd, State.mediaChannel_eq hnot, hch]
      rfl
    have blocks {α : Type} (f : Channel → α) := congrArg f hidle
    have hpins : ((s.pins ch now).channel ch).pass = (s.channel ch).pass := by rw [hch, hpassed]
    have hlink : ((s.pins ch now).afterMedia ch v).link = answered := by
      change (s.link.answerRecal s.fetching ((s.pins ch now).channel ch).recal .aborted [] : Link) = answered
      rw [hch, hrc]
      rfl
    have hpayload : mediaPayload ch ((s.pins ch now).channel ch).state = b1 ch.val ++ b1 (chanStateByte (s.channel ch).state) := by
      rw [hch, hst]
      rfl
    obtain ⟨hcut, hdriven⟩ := (s.pins ch now).afterMedia_nothingToCut ch v
    have hvol := (s.pins ch now).afterMedia_volume ch v
    refine ⟨fun a hpass => ?pass, fun o hpass hh => ?held, fun hpass hh => ?nothing, fun hpass hrun => ?halts,
      fun hpass hnr hnp => ?quiet⟩
    case pass =>
      rw [State.mediaWithVolume_pass hnot (hpins.trans hpass)] at hw ⊢
      refine ⟨Option.some.inj (hw.symm.trans hvol), ?_, fun hs hh => ?_, fun hs hh => ?_⟩
      · rw [State.notify, State.setLink_link, hlink, hpayload]
        rfl
      · refine (blocks (·.handed)).trans
          ((Channel.cutShort_outside (hpassed.trans hpass) (by rw [hst]; exact hs) (hheld.trans hh)).trans ?_)
        rw [hhanded, ← hseen]
        rfl
      · intro last
        rw [Channel.cutShort_capturing (hpassed.trans hpass) (hst.trans hs) (hheld.trans hh), ← hseen] at blocks
        exact ⟨blocks (·.decoder), blocks (·.counter), blocks (·.separator), blocks (·.handed)⟩
    case held =>
      refine (blocks (·.handed)).trans ((Channel.cutShort_held (hpassed.trans hpass) (hheld.trans hh)).trans ?_)
      rw [hhanded]
    case nothing =>
      refine (blocks (·.handed)).trans ?_
      rw [Channel.cutShort_idle (hpassed.trans hpass) (hheld.trans hh), ← hhanded]
      rfl
    case halts =>
      rw [State.mediaWithVolume_noPass hnot (hpins.trans hpass),
        State.tellPlanner_running hvol (Volume.inRun_iff.mpr hrun) hcut hdriven] at hw ⊢
      refine ⟨(Option.some.inj (hw.symm.trans (State.setVolume_volume _ _ _))), ?_⟩
      rw [State.notify, State.setLink_link, hpayload, State.notify, State.setLink_link, State.setVolume_link, hlink]
      rfl
    case quiet =>
      have hin : ({ v with mediaGone := true } : Volume).inRun = false :=
        Bool.eq_false_iff.mpr fun h => (Volume.inRun_iff.mp h).elim hnr hnp
      rw [State.mediaWithVolume_noPass hnot (hpins.trans hpass), State.tellPlanner_notRunning hvol hin] at hw ⊢
      refine ⟨Option.some.inj (hw.symm.trans hvol), ?_⟩
      rw [State.notify, State.setLink_link, hlink, hpayload]
      rfl

end Sys2Proof.Machine
end


/-! # UNMOUNT (R48, R107, R155) -/

section
/-! SUPPORT. What UNMOUNT leaves of the channel, the volume and the link, part by part. -/

namespace Sys2Proof.Machine

/-! ## A cut order and the fields it leaves (R41) -/

namespace Channel

section
variable {c : Channel} {p : Profile}

/-- What a cut order leaves of a channel: no pass, and HOLDING where there was one. -/
structure CutBy (c d : Channel) : Prop where
  recal : d.recal = c.recal
  pulses : d.pulses = c.pulses
  pass : d.pass = none
  holding : c.pass ≠ none → d.state = .holding ∧ d.holdTimer = some 2000

theorem takeCutOrder_cutBy (c : Channel) (p : Profile) : c.CutBy (c.takeCutOrder p) := by
  cases hcompl : c.completing with
  | true =>
    rw [takeCutOrder_completing hcompl, finishCompletion_completing hcompl, dropHeld_frame]
    exact ⟨rfl, rfl, rfl, fun _ => ⟨rfl, rfl⟩⟩
  | false =>
    cases hpass : c.pass with
    | none =>
      rw [takeCutOrder_noPass hcompl hpass, dropHeld_frame]
      exact ⟨rfl, rfl, hpass, fun h => absurd hpass h⟩
    | some a =>
      by_cases hm : c.TapeMoves
      · rw [takeCutOrder_cut hcompl hpass (fun _ => rfl) (fun h => absurd hm h), cutPass_frame]
        exact ⟨rfl, rfl, rfl, fun _ => ⟨rfl, rfl⟩⟩
      · rw [takeCutOrder_cut hcompl hpass (fun h => absurd h hm) (fun _ => rfl), cutPass_frame]
        exact ⟨rfl, rfl, rfl, fun _ => ⟨rfl, rfl⟩⟩

theorem CutBy.drive {c d : Channel} (h : c.CutBy d) : c.CutBy d.drive := ⟨h.recal, h.pulses, h.pass, h.holding⟩

end

end Channel

/-! ## The run that UNMOUNT ends (R107 step 1) -/

section
variable {s : State} {ch : Chan} {v : Volume}

theorem State.abortRun_volume_ch (hv : s.volume ch = some v) :
    ∃ w : Volume, (s.abortRun ch).volume ch = some w ∧ w.slot = v.slot ∧ w.records = v.records := by
  cases h : v.inRun with
  | false => exact ⟨v, by rw [State.abortRun_notRunning hv h, hv], rfl, rfl⟩
  | true =>
    refine ⟨v.stopped, ?_, rfl, rfl⟩
    by_cases ho : v.planner.outstanding = none
    · rw [State.abortRun_noOrder hv h ho, State.setVolume_volume]
    · rw [State.abortRun_order hv h ho, State.putChannel_volume, State.setVolume_volume]

theorem State.abortRun_otherVolumes (hv : s.volume ch = some v) (x : Option Volume) :
    qset (s.abortRun ch).volumes ch x = qset s.volumes ch x := by
  cases h : v.inRun with
  | false => rw [State.abortRun_notRunning hv h]
  | true =>
    by_cases ho : v.planner.outstanding = none
    · rw [State.abortRun_noOrder hv h ho, State.setVolume_volumes, qset_qset]
    · rw [State.abortRun_order hv h ho, State.putChannel_volumes, State.setVolume_volumes, qset_qset]

theorem State.abortRun_channels (hv : s.volume ch = some v) (h : v.inRun = false ∨ v.planner.outstanding = none) :
    (s.abortRun ch).channels = s.channels := by
  cases hrun : v.inRun with
  | false => rw [State.abortRun_notRunning hv hrun]
  | true =>
    rw [State.abortRun_noOrder hv hrun (h.resolve_left fun hf => Bool.false_ne_true (hf.symm.trans hrun))]
    rfl

theorem State.abortRun_cut (hv : s.volume ch = some v) (h : v.inRun = true) (ho : v.planner.outstanding ≠ none) :
    (s.channel ch).CutBy ((s.abortRun ch).channel ch) := by
  rw [State.abortRun_order hv h ho, State.putChannel_channel]
  exact (Channel.takeCutOrder_cutBy _ _).drive

theorem State.abortRun_channel_ne {k : Chan} (hv : s.volume ch = some v) (hk : k ≠ ch) :
    (s.abortRun ch).channel k = s.channel k := by
  by_cases h : v.inRun = false ∨ v.planner.outstanding = none
  · exact congrArg (qget · k) (State.abortRun_channels hv h)
  · obtain ⟨hrun, ho⟩ := not_or.mp h
    rw [State.abortRun_order hv (Bool.eq_true_of_not_eq_false hrun) ho, State.putChannel_channel_ne _ _ _ _ hk]
    rfl

theorem State.abortRun_recal (hv : s.volume ch = some v) :
    ((s.abortRun ch).channel ch).recal = (s.channel ch).recal ∧
    ((s.abortRun ch).channel ch).pulses = (s.channel ch).pulses := by
  by_cases h : v.inRun = false ∨ v.planner.outstanding = none
  · have hsame : (s.abortRun ch).channel ch = s.channel ch := congrArg (qget · ch) (State.abortRun_channels hv h)
    exact ⟨by rw [hsame], by rw [hsame]⟩
  · obtain ⟨hrun, ho⟩ := not_or.mp h
    have hcut := State.abortRun_cut hv (Bool.eq_true_of_not_eq_false hrun) ho
    exact ⟨hcut.recal, hcut.pulses⟩

end

/-! ## A RECAL request that UNMOUNT ends (R48) -/

/-- The link after the reply of a RECAL request that UNMOUNT ends. -/
def Link.recalAborted (l : Link) (fetching : Bool) (f : Option RecalFlight) : Link :=
  match f with
  | none => l
  | some f => l.reply fetching f.id .aborted []

section
variable {s : State} {ch : Chan}

theorem State.recalUnmounted_none (h : (s.channel ch).recal = none) : s.recalUnmounted ch = s := by
  simp only [State.recalUnmounted, h]

theorem State.recalUnmounted_some {f : RecalFlight} (h : (s.channel ch).recal = some f) : s.recalUnmounted ch =
    (s.putChannel ch { s.channel ch with
      recal := none, positionKnown := false, state := .holding, holdTimer := some 2000, stageTimer := none
      recalStage := none }).reply f.id .aborted [] := by
  simp only [State.recalUnmounted, h]
  rfl

theorem State.recalUnmounted_frame (s : State) (ch : Chan) : s.recalUnmounted ch = { s with
    link := s.link.recalAborted s.fetching (s.channel ch).recal, channels := (s.recalUnmounted ch).channels } := by
  cases h : (s.channel ch).recal with
  | none => rw [State.recalUnmounted_none h]; rfl
  | some f => rw [State.recalUnmounted_some h]; rfl

theorem State.recalUnmounted_channel_ne {k : Chan} (hk : k ≠ ch) : (s.recalUnmounted ch).channel k = s.channel k := by
  cases h : (s.channel ch).recal with
  | none => rw [State.recalUnmounted_none h]
  | some f =>
    rw [State.recalUnmounted_some h]
    exact State.putChannel_channel_ne _ _ _ _ hk

theorem State.recalUnmounted_channel {f : RecalFlight} (h : (s.channel ch).recal = some f) :
    (s.recalUnmounted ch).channel ch = Channel.drive { s.channel ch with
      recal := none, positionKnown := false, state := .holding, holdTimer := some 2000, stageTimer := none
      recalStage := none } := by
  rw [State.recalUnmounted_some h]
  exact State.putChannel_channel _ _ _

theorem State.recalUnmounted_recal : ((s.recalUnmounted ch).channel ch).recal = none ∧
    ((s.recalUnmounted ch).channel ch).pass = (s.channel ch).pass := by
  cases h : (s.channel ch).recal with
  | none => rw [State.recalUnmounted_none h]; exact ⟨h, rfl⟩
  | some f => rw [State.recalUnmounted_channel h]; exact ⟨rfl, rfl⟩

theorem outputsOf_holding_runRev {c : Channel} (h : c.state = .holding) : (outputsOf c).runRev = false := by
  have hmotion : tapeMotion c = none := by simp [tapeMotion, h]
  cases hk : c.kind <;> simp [outputsOf, hk, hmotion]

end

/-! ## UNMOUNT (R107) -/

theorem State.releaseVolume_mounted {s : State} {ch : Chan} {v : Volume} (hv : s.volume ch = some v) :
    s.releaseVolume ch = { s with
      pool := s.pool.giveBackAll v.heldSlots, volumes := qset s.volumes ch none
      slots := modifyAt (fun q => { q with useCount := q.useCount - 1 }) s.slots v.slot } := by
  simp only [State.releaseVolume, hv]
  rfl

/-- The channels of an UNMOUNT: the run ended, then a RECAL request in flight. -/
def State.unmountedChannels (s : State) (ch : Chan) : Quad Channel := ((s.abortRun ch).recalUnmounted ch).channels

/-- The link of an UNMOUNT before its own reply. -/
def State.unmountedLink (s : State) (tag : Byte) (ch : Chan) (uid : Nat) : Link :=
  ((s.link.accepted 0x21 tag).recalAborted s.fetching (s.channel ch).recal).endReplies (!(s.otherFetches uid).isEmpty)
    .volumeGone (s.fetchesOf uid)

section
variable {s : State} {tag : Byte} {ch : Chan} {v : Volume}

theorem State.setLink_recalUnmounted (s : State) (l : Link) (ch : Chan) :
    ((s.setLink l).recalUnmounted ch).channels = (s.recalUnmounted ch).channels := by
  cases h : (s.channel ch).recal with
  | none => rw [State.recalUnmounted_none h, State.recalUnmounted_none (s := s.setLink l) h]; rfl
  | some f => rw [State.recalUnmounted_some h, State.recalUnmounted_some (s := s.setLink l) h]; rfl

theorem exec_unmount (hacc : Accepts s 0x21 [chanByte ch]) (hv : s.volume ch = some v) :
    exec (.unmount tag [chanByte ch]) s = .next { s with
      link := (s.unmountedLink tag ch v.uid).reply (!(s.otherFetches v.uid).isEmpty) s.link.nextId .ok []
      channels := s.unmountedChannels ch, volumes := qset s.volumes ch none
      pool := s.pool.giveBackAll v.heldSlots
      slots := modifyAt (fun q => { q with useCount := q.useCount - 1 }) s.slots v.slot
      fetches := s.otherFetches v.uid } := by
  obtain ⟨w, hw, hslot, hrecords⟩ := State.abortRun_volume_ch hv
  have hheld : w.heldSlots = v.heldSlots := by rw [Volume.heldSlots, Volume.heldSlots, hrecords]
  refine congrArg Host.Outcome.next ((State.withRequest_mounted hacc hv _).trans ?_)
  rw [State.setLink_abortRun, State.endFetches_eq]
  have hrecal := State.recalUnmounted_frame ((s.abortRun ch).setLink (s.link.accepted 0x21 tag)) ch
  rw [State.setLink_recalUnmounted] at hrecal
  rw [State.releaseVolume_mounted (v := w) (by rw [hrecal]; exact hw), hrecal, hheld, hslot]
  dsimp only [State.setLink_link, State.setLink_channel, State.reply]
  rw [(State.abortRun_recal hv).1, ← State.unmountedChannels, State.abortRun_frame]
  dsimp only [State.setLink]
  rw [State.abortRun_otherVolumes hv]
  rfl

theorem State.unmounted_channel_ne {k : Chan} (hv : s.volume ch = some v) (hk : k ≠ ch) :
    qget (s.unmountedChannels ch) k = s.channel k :=
  (State.recalUnmounted_channel_ne hk).trans (State.abortRun_channel_ne hv hk)

theorem State.unmounted_recal {f : RecalFlight} (hv : s.volume ch = some v) (hf : (s.channel ch).recal = some f) :
    qget (s.unmountedChannels ch) ch = Channel.drive { (s.abortRun ch).channel ch with
      recal := none, positionKnown := false, state := .holding, holdTimer := some 2000, stageTimer := none
      recalStage := none } :=
  State.recalUnmounted_channel ((State.abortRun_recal hv).1.trans hf)

theorem State.unmounted_noRecal (hv : s.volume ch = some v) (hf : (s.channel ch).recal = none) :
    s.unmountedChannels ch = (s.abortRun ch).channels := by
  rw [State.unmountedChannels, State.recalUnmounted_none ((State.abortRun_recal hv).1.trans hf)]

theorem State.unmountedLink_alone (hf : (s.channel ch).recal = none) (h : s.fetchesOf v.uid = []) :
    s.unmountedLink tag ch v.uid = s.link.accepted 0x21 tag := by
  rw [State.unmountedLink, hf, h]
  rfl

/-- Settles O41: UNMOUNT taken apart into the cut, the RECAL request, the fetches and the release. -/
theorem unmountReleases : Obligations.UnmountReleases := by
  intro s tag ch v hids hacc hv kept recalAnswered fetchesAnswered
  have hlink : fetchesAnswered = s.unmountedLink tag ch v.uid := by
    unfold State.unmountedLink Link.recalAborted
    dsimp only [fetchesAnswered, recalAnswered, kept]
    cases (s.channel ch).recal <;> rfl
  refine ⟨_, exec_unmount hacc hv, qget_qset_same _ _ _, rfl, ?link, fun k hk => State.unmounted_channel_ne hv hk, ?noRecal,
    fun f hf => ?recal, fun hrun ho => ?run, fun hrun hf => ⟨?still, fun hother => ?alone⟩⟩
  case link => rw [hlink]; rfl
  case noRecal => exact State.recalUnmounted_recal.1
  case recal =>
    have hchannel := State.unmounted_recal hv hf
    refine ⟨?_, ?_, ?_, ?_, ?_, ?_, ?_⟩
    · exact congrArg Channel.state hchannel
    · exact congrArg Channel.positionKnown hchannel
    · exact congrArg Channel.holdTimer hchannel
    · exact congrArg Channel.recalStage hchannel
    · exact congrArg Channel.stageTimer hchannel
    · exact (congrArg Channel.pulses hchannel).trans (State.abortRun_recal hv).2
    · exact (congrArg (fun c => c.outputs.runRev) hchannel).trans (outputsOf_holding_runRev rfl)
  case run =>
    have hcut := State.abortRun_cut hv hrun ho
    refine ⟨State.recalUnmounted_recal.2.trans hcut.pass, fun hpass => ?_⟩
    cases hf : (s.channel ch).recal with
    | none =>
      have hchannel : qget (s.unmountedChannels ch) ch = (s.abortRun ch).channel ch :=
        congrArg (qget · ch) (State.unmounted_noRecal hv hf)
      exact ⟨(congrArg Channel.state hchannel).trans (hcut.holding hpass).1,
        (congrArg Channel.holdTimer hchannel).trans (hcut.holding hpass).2⟩
    | some f =>
      have hchannel := State.unmounted_recal hv hf
      exact ⟨congrArg Channel.state hchannel, congrArg Channel.holdTimer hchannel⟩
  case still => exact (State.unmounted_noRecal hv hf).trans (State.abortRun_channels hv (.inl hrun))
  case alone =>
    have hothers : s.otherFetches v.uid = s.fetches := List.filter_eq_self.mpr fun e he => by simpa using hother e he
    have hnone : s.fetchesOf v.uid = [] := List.filter_eq_nil_iff.mpr fun e he => by simpa using hother e he
    refine Eq.trans ?_ (Link.accepted_reply hids _ _ _ _ _)
    dsimp only
    rw [State.unmountedLink_alone hf hnone, hothers]
    rfl

end

end Sys2Proof.Machine
end


/-! # MOUNT (R23, R106) -/

section
/-! SUPPORT. MOUNT test by test, and what the volume it creates changes. -/

namespace Sys2Proof.Machine

/-! ## The request -/

/-- The request a MOUNT's payload asks for. -/
def mountOf (id : Nat) (n a b c d vb : Byte) : MountRequest :=
  { id := id, slot := n.toNat, volumeTag := a.toNat + 256 * b.toNat + 65536 * (c.toNat + 256 * d.toNat)
    verbose := decide (vb.toNat = 1) }

section
variable {s : State} {tag n a b c d vb : Byte} {ch : Chan}

theorem exec_mount_badChannel {cb : Byte} (hids : s.link.idsFresh) (hacc : Accepts s 0x20 [cb, n, a, b, c, d, vb])
    (h : 4 ≤ cb.toNat) :
    exec (.mount tag [cb, n, a, b, c, d, vb]) s = .next (s.answered 0x20 tag .badChannel []) := by
  refine congrArg Host.Outcome.next ((State.withRequest_accepted hacc).trans ?_)
  rw [← State.setLink_accepted_reply hids, State.serveMount, payloadChan_large h]

theorem exec_mount_range (hids : s.link.idsFresh) (hacc : Accepts s 0x20 [chanByte ch, n, a, b, c, d, vb])
    (h : 2 ≤ vb.toNat) :
    exec (.mount tag [chanByte ch, n, a, b, c, d, vb]) s = .next (s.answered 0x20 tag .range []) := by
  have hverbose : yesNoOf (byteAt [chanByte ch, n, a, b, c, d, vb] 6) = none := yesNoOf_eq_none h
  refine congrArg Host.Outcome.next ((State.withRequest_accepted hacc).trans ?_)
  rw [← State.setLink_accepted_reply hids, State.serveMount, payloadChan_chanByte]
  simp only [hverbose]

theorem exec_mount_taken (hacc : Accepts s 0x20 [chanByte ch, n, a, b, c, d, vb]) (h : vb.toNat ≤ 1) :
    exec (.mount tag [chanByte ch, n, a, b, c, d, vb]) s =
      .next ((s.setLink (s.link.accepted 0x20 tag)).takeMount ch (mountOf s.link.nextId n a b c d vb)) := by
  have hverbose : yesNoOf (byteAt [chanByte ch, n, a, b, c, d, vb] 6) = some (decide (vb.toNat = 1)) :=
    yesNoOf_eq_some h
  refine congrArg Host.Outcome.next ((State.withRequest_accepted hacc).trans ?_)
  rw [State.serveMount, payloadChan_chanByte]
  simp only [hverbose]
  rfl

end

/-! ## Its sense (R23) -/

/-- The state after a sense of a channel. -/
def State.senseTaken (s : State) (ch : Chan) (present : Bool) : State :=
  s.putChannel ch ((s.channel ch).afterSense present)

section
variable {s : State} {ch : Chan} {m : MountRequest} {p : Profile}

theorem State.takeMount_hasVolume (hv : s.volume ch ≠ none) : s.takeMount ch m = s.reply m.id .hasVolume [] :=
  if_pos (Option.isSome_iff_ne_none.mpr hv)

theorem State.takeMount_waits {x : Probe} (hv : s.volume ch = none) (hx : (s.channel ch).probe = some x) :
    s.takeMount ch m = s.putChannel ch { s.channel ch with probe := some { x with deferred := x.deferred ++ [.mount m] } } := by
  refine (if_neg (by rw [hv]; exact Bool.false_ne_true)).trans ?_
  simp only [hx]

theorem State.takeMount_atOnce (hv : s.volume ch = none) (hx : (s.channel ch).probe = none)
    (hsense : (s.channel ch).kind = .cartridge ∨ motorOn (s.channel ch).state = true ∨ (s.channel ch).sensed = true) :
    s.takeMount ch m = s.finishMount ch m (s.channel ch).sensed := by
  refine (if_neg (by rw [hv]; exact Bool.false_ne_true)).trans ?_
  simp only [hx]
  exact if_pos hsense

theorem State.takeMount_probes (hv : s.volume ch = none) (hx : (s.channel ch).probe = none)
    (hk : (s.channel ch).kind = .floppy) (hm : motorOn (s.channel ch).state = false)
    (hsense : (s.channel ch).sensed = false) : s.takeMount ch m = s.putChannel ch ((s.channel ch).startProbe m) := by
  refine (if_neg (by rw [hv]; exact Bool.false_ne_true)).trans ?_
  simp only [hx]
  exact if_neg (by simp [hk, hm, hsense])

theorem State.finishMount_absent : s.finishMount ch m false = (s.senseTaken ch false).reply m.id .channelAbsent [] := by
  unfold State.finishMount
  exact if_pos Bool.false_ne_true

theorem State.finishMount_empty (h : (s.slot m.slot).held = none) :
    s.finishMount ch m true = (s.senseTaken ch true).reply m.id .profileEmpty [] := by
  have hheld : ((s.senseTaken ch true).slot m.slot).held = none := h
  unfold State.finishMount
  refine (if_neg (not_not_intro rfl)).trans ?_
  rw [← State.senseTaken, hheld]

theorem State.finishMount_profile (h : (s.slot m.slot).held = some p) : s.finishMount ch m true =
    if strapNeeded p.medium ≠ (s.channel ch).kind then (s.senseTaken ch true).reply m.id .wrongMedium []
    else (firstFit s.runs (trackCountOf p * p.sectors)).elim ((s.senseTaken ch true).reply m.id .noRoom [])
      ((s.senseTaken ch true).createVolume ch m p) := by
  have hheld : ((s.senseTaken ch true).slot m.slot).held = some p := h
  have hkind : ((s.senseTaken ch true).channel ch).kind = (s.channel ch).kind := by
    rw [State.senseTaken, State.putChannel_channel]
    rfl
  have hruns : (s.senseTaken ch true).runs = s.runs := rfl
  unfold State.finishMount
  refine (if_neg (not_not_intro rfl)).trans ?_
  rw [← State.senseTaken, hheld]
  dsimp only
  rw [hkind, hruns]
  cases firstFit s.runs (trackCountOf p * p.sectors) <;> rfl

theorem State.finishMount_wrong (h : (s.slot m.slot).held = some p) (hk : strapNeeded p.medium ≠ (s.channel ch).kind) :
    s.finishMount ch m true = (s.senseTaken ch true).reply m.id .wrongMedium [] :=
  (State.finishMount_profile h).trans (if_pos hk)

theorem State.finishMount_noRoom (h : (s.slot m.slot).held = some p) (hk : strapNeeded p.medium = (s.channel ch).kind)
    (hfit : firstFit s.runs (trackCountOf p * p.sectors) = none) :
    s.finishMount ch m true = (s.senseTaken ch true).reply m.id .noRoom [] := by
  rw [State.finishMount_profile h, if_neg (not_not_intro hk), hfit, Option.elim_none]

theorem State.finishMount_created {base : Nat} (h : (s.slot m.slot).held = some p)
    (hk : strapNeeded p.medium = (s.channel ch).kind)
    (hfit : firstFit s.runs (trackCountOf p * p.sectors) = some base) :
    s.finishMount ch m true = (s.senseTaken ch true).createVolume ch m p base := by
  rw [State.finishMount_profile h, if_neg (not_not_intro hk), hfit, Option.elim_some]

/-! ## The volume created (R11, R35, R91, R93 to R95, R129) -/

theorem counterAtMount_eq (p : Profile) (n : Nat) : counterAtMount p n = if p.medium = .floppyHard then n else 0 := by
  cases h : p.medium <;> simp [counterAtMount, h]

/-- A channel as a volume is mounted on it. -/
def Channel.mounting (c : Channel) (p : Profile) : Channel := { c with
  positionKnown := false, mediaSeen := false
  sectorCounter := if p.medium = .floppyHard then c.sectorCounter else 0 }

theorem State.createVolume_eq (s : State) (ch : Chan) (m : MountRequest) (p : Profile) (base : Nat) :
    s.createVolume ch m p base =
      State.reply { s with
        nextVolume := s.nextVolume + 1
        volumes := qset s.volumes ch (some (Volume.atMount s.nextVolume base m p))
        slots := (s.raiseUse m.slot).slots
        channels := qset s.channels ch ((s.channel ch).mounting p).drive } m.id .ok
        (le2 base ++ le2 (trackCountOf p * p.sectors)) := by
  rw [Channel.mounting, ← counterAtMount_eq]
  rfl

theorem State.slots_createVolume (s : State) (ch : Chan) (m : MountRequest) (p : Profile) (base : Nat) :
    (s.createVolume ch m p base).slots = (s.raiseUse m.slot).slots := by
  rw [State.createVolume_eq]
  rfl

theorem State.slot_raiseUse_same (h : (s.slot m.slot).held = some p) :
    ((s.raiseUse m.slot).slot m.slot).useCount = (s.slot m.slot).useCount + 1 ∧
    ((s.raiseUse m.slot).slot m.slot).held = some p := by
  have hlen : m.slot < s.slots.length := State.lt_length_of_held (by rw [h]; rfl)
  refine ⟨?_, (s.slot_raiseUse m.slot m.slot).trans h⟩
  rw [State.useCount_raiseUse s hlen, if_pos rfl]

theorem State.slot_raiseUse_ne {n k : Nat} (h : k ≠ n) : (s.raiseUse n).slot k = s.slot k :=
  getD_modifyAt_ne _ _ _ h

theorem State.createVolume_channel (s : State) (ch : Chan) (m : MountRequest) (p : Profile) (base : Nat) :
    (s.createVolume ch m p base).channel ch = ((s.channel ch).mounting p).drive := by
  rw [State.createVolume_eq]
  exact qget_qset_same _ _ _

theorem State.createVolume_volume (s : State) (ch : Chan) (m : MountRequest) (p : Profile) (base : Nat) :
    (s.createVolume ch m p base).volume ch = some (Volume.atMount s.nextVolume base m p) := by
  rw [State.createVolume_eq]
  exact qget_qset_same _ _ _

theorem State.createVolume_other {k : Chan} (hk : k ≠ ch) (base : Nat) :
    (s.createVolume ch m p base).channel k = s.channel k ∧ (s.createVolume ch m p base).volume k = s.volume k := by
  rw [State.createVolume_eq]
  exact ⟨qget_qset_ne _ _ _ _ hk, qget_qset_ne _ _ _ _ hk⟩

theorem Channel.mounting_drive (c : Channel) (p : Profile) : (c.drive.mounting p).drive = (c.mounting p).drive := by
  change { c.mounting p with
    outputs := outputsOf c
    sincePulse := if (outputsOf c).motor then (if (outputsOf c).motor then c.sincePulse else none) else none } =
    { c.mounting p with outputs := outputsOf c, sincePulse := if (outputsOf c).motor then c.sincePulse else none }
  cases (outputsOf c).motor <;> rfl

theorem State.mountedAfterSense_channel (s : State) (ch : Chan) (m : MountRequest) (p : Profile) (base : Nat) :
    ((s.senseTaken ch true).createVolume ch m p base).channel ch =
      (((s.channel ch).afterSense true).mounting p).drive := by
  rw [State.createVolume_channel, State.senseTaken, State.putChannel_channel, Channel.mounting_drive]

theorem State.mountedAfterSense_other {k : Chan} (hk : k ≠ ch) (base : Nat) :
    ((s.senseTaken ch true).createVolume ch m p base).channel k = s.channel k ∧
    ((s.senseTaken ch true).createVolume ch m p base).volume k = s.volume k := by
  obtain ⟨hc, hv⟩ := State.createVolume_other (s := s.senseTaken ch true) (m := m) (p := p) hk base
  exact ⟨hc.trans (State.putChannel_channel_ne _ _ _ _ hk), hv⟩

end

/-! ## The plan and the records of a new volume -/

section
variable {uid base k : Nat} {m : MountRequest} {p : Profile}

theorem Volume.atMount_track (hk : k < trackCountOf p) :
    (Volume.atMount uid base m p).summary k = { opn := p.sectors, settled := 0, lost := 0, excluded := 0 } ∧
    (Volume.atMount uid base m p).plan k = { state := .pending, passesUsed := 0, ladderStep := 0, misplaced := false } ∧
    (Volume.atMount uid base m p).isPending k = true := by
  refine ⟨?_, ?_, ?_⟩
  · simp [Volume.summary, Volume.atMount, hk]
  · simp [Volume.plan, Volume.atMount, Planner.atMount, hk]
  · simp [Volume.isPending, Volume.atMount, Planner.atMount, hk]

end

/-- Settles O39: MOUNT test by test, and the volume created field by field. -/
theorem mountCreatesVolume : Obligations.MountCreatesVolume := by
  intro s tag cb n a b c d vb hids hacc
  refine ⟨fun h => exec_mount_badChannel hids hacc h, fun ch hcb => ?_⟩
  subst hcb
  refine ⟨fun h => exec_mount_range hids hacc h, fun hvb hv => ?hasVolume, fun hvb hv hprobe hsense => ?_⟩
  case hasVolume =>
    rw [exec_mount_taken hacc hvb, State.takeMount_hasVolume (by exact hv)]
    exact congrArg Host.Outcome.next (State.setLink_accepted_reply hids _ _ _ _)
  intro found missed sensed
  let l : State := s.setLink (s.link.accepted 0x20 tag)
  let m : MountRequest := mountOf s.link.nextId n a b c d vb
  have hexec : exec (.mount tag [chanByte ch, n, a, b, c, d, vb]) s =
      .next (l.finishMount ch m (s.channel ch).sensed) := by
    rw [exec_mount_taken hacc hvb, State.takeMount_atOnce (by exact hv) (by exact hprobe) (by exact hsense)]
    rfl
  have htaken : s.senseTaken ch (s.channel ch).sensed = sensed := by
    have hstate : stateAfterSense (s.channel ch).state (s.channel ch).sensed =
        if (s.channel ch).sensed then found else missed := by
      dsimp only [found, missed]
      cases (s.channel ch).state <;> cases (s.channel ch).sensed <;> rfl
    rw [State.senseTaken, Channel.afterSense, hstate]
  have hanswer (status : Status) : (l.senseTaken ch (s.channel ch).sensed).reply m.id status [] =
      sensed.answered 0x20 tag status [] := by
    rw [← htaken]
    exact State.accepted_reply hids _ _ _ _ rfl
  refine ⟨fun h => ?missed, fun h hheld => ?empty, fun p h hheld => ⟨fun hkind => ?wrong, fun hkind hfit => ?noRoom,
    fun base hkind hfit => ?created⟩⟩
  case missed => rw [hexec, ← hanswer, h, State.finishMount_absent]
  case empty => rw [hexec, ← hanswer, h, State.finishMount_empty (s := l) (m := m) hheld]
  case wrong => rw [hexec, ← hanswer, h, State.finishMount_wrong (s := l) (m := m) hheld hkind]
  case noRoom => rw [hexec, ← hanswer, h, State.finishMount_noRoom (s := l) (m := m) hheld hkind hfit]
  case created =>
    have hraised := State.slot_raiseUse_same (s := s) (m := m) hheld
    have hfound : ((s.channel ch).afterSense true) = { s.channel ch with state := found } := by
      have hstate : stateAfterSense (s.channel ch).state true = found := by
        dsimp only [found]
        cases (s.channel ch).state <;> rfl
      rw [Channel.afterSense, hstate]
    refine ⟨(l.senseTaken ch true).createVolume ch m p base, Volume.atMount s.nextVolume base m p, ?exec, ?frame, ?useCount,
      ?held, fun k hk => ?slots, ?channel, fun k hk => ?others, ?volume, rfl, rfl, rfl, rfl, rfl, rfl, rfl, rfl, rfl, rfl,
      rfl, rfl, rfl, fun _ => rfl, fun k hk => Volume.atMount_track hk, rfl, rfl, rfl, rfl, rfl, rfl, rfl, rfl, rfl, rfl,
      rfl, rfl⟩
    case exec => rw [hexec, h, State.finishMount_created (s := l) (m := m) hheld hkind hfit]
    case frame =>
      rw [State.createVolume_eq]
      exact State.accepted_reply hids _ _ _ _ rfl
    case useCount =>
      rw [State.slot, State.slots_createVolume]
      exact hraised.1
    case held =>
      rw [State.slot, State.slots_createVolume]
      exact hraised.2
    case slots =>
      rw [State.slot, State.slots_createVolume]
      exact State.slot_raiseUse_ne (s := s) hk
    case channel =>
      rw [State.mountedAfterSense_channel]
      exact congrArg (fun x => (Channel.mounting x p).drive) hfound
    case others => exact State.mountedAfterSense_other (s := l) hk base
    case volume => exact State.createVolume_volume _ _ _ _ _

end Sys2Proof.Machine
end


/-! # The presence probe of a MOUNT (R23, R25, R35, R106) -/

section
/-! SUPPORT. What waits for the end of a probe, and the end. -/

namespace Sys2Proof.Machine

/-! ## While the channel is being probed (R23) -/

/-- A channel being probed, with one more thing that waits for the probe's end. -/
def Channel.awaits (c : Channel) (x : Probe) (d : Deferred) : Channel :=
  { c with probe := some { x with deferred := x.deferred ++ [d] } }

section
variable {s : State} {ch : Chan} {x : Probe} {tag : Byte}

theorem exec_recal_waits (hx : (s.channel ch).probe = some x) (hacc : Accepts s 0x38 [chanByte ch]) :
    exec (.recal tag [chanByte ch]) s = .next
      ((s.putChannel ch ((s.channel ch).awaits x (.recal s.link.nextId tag))).setLink (s.link.accepted 0x38 tag)) := by
  refine congrArg Host.Outcome.next ((State.withRequest_accepted hacc).trans ?_)
  rw [State.serveRecal, payloadChan_chanByte]
  dsimp only [State.setLink_channel]
  rw [hx]
  rfl

theorem State.takeMedia_waits (hx : (s.channel ch).probe = some x) :
    s.takeMedia ch = s.putChannel ch ((s.channel ch).awaits x .media) := by
  simp only [State.takeMedia, hx]
  rfl

theorem Channel.takeOrder_waits {c : Channel} (hx : c.probe = some x) (p : Profile) (o : PassOrder) :
    c.takeOrder p o = c.awaits x (.order o) := by
  simp only [Channel.takeOrder, hx]
  rfl

theorem Channel.motor_probed {c : Channel} (hx : c.probe = some x) (hk : c.kind = .floppy) :
    (outputsOf c).motor = true := by
  rw [outputsOf_floppy hk, hx]
  exact Bool.or_true _

theorem Channel.awaits_outputs {c : Channel} (hx : c.probe = some x) (d : Deferred) :
    outputsOf (c.awaits x d) = outputsOf c := by
  simp only [outputsOf, Channel.awaits, hx]
  rfl

theorem Channel.awaits_drive {c : Channel} (hx : c.probe = some x) (d : Deferred) :
    (c.drive.awaits x d).drive = (c.awaits x d).drive := by
  have hagain : outputsOf (c.drive.awaits x d) = outputsOf c := Channel.awaits_outputs (c := c.drive) hx d
  unfold Channel.drive
  rw [Channel.awaits_outputs hx d]
  dsimp only
  rw [show outputsOf (Channel.awaits { c with outputs := _, sincePulse := _ } x d) = _ from hagain]
  cases (outputsOf c).motor <;> rfl

theorem exec_mediaChange_waits (hx : (s.channel ch).probe = some x) (lines : Lines) :
    exec (.mediaChange ch lines) s = .next (s.putChannel ch
      (((s.channel ch).withInputs (afterMedia lines (s.channel ch).kind)).awaits x .media)) := by
  refine congrArg Host.Outcome.next ?_
  have hprobe : ((s.pins ch (afterMedia lines (s.channel ch).kind)).channel ch).probe = some x := by
    rw [State.pins_channel]
    exact hx
  rw [State.takeMedia_waits hprobe, State.pins_channel, State.pins_eq, State.putChannel_putChannel]
  exact congrArg (fun d => { s with channels := qset s.channels ch d })
    (Channel.awaits_drive (c := (s.channel ch).withInputs (afterMedia lines (s.channel ch).kind)) hx .media)

theorem afterMedia_eq (lines : Lines) (k : StrapKind) :
    afterMedia lines k = if k = .floppy then { lines with change := true } else { lines with present := false } := by
  cases k <;> rfl

theorem State.takeDeferred_recal (hx : (s.channel ch).probe = none) (id : Nat) :
    s.takeDeferred ch (.recal id tag) = s.takeRecal ch id tag := by
  simp only [State.takeDeferred, hx]

end

/-! ## The probe begun and ended (R23, R25) -/

/-- A floppy channel as its probe has ended and been sensed, with the levels its pins have then. -/
def Channel.probeEnded (c : Channel) (lines : Lines) : Channel := { c with
  inputs := lines, probe := none, stageTimer := none
  state := stateAfterSense c.state (lines.ready || lines.track0) }

section
variable {s : State} {ch : Chan} {lines : Lines} {b : Probe}

theorem stateAfterSense_still {st : ChanState} (hm : motorOn st = false) (present : Bool) :
    motorOn (stateAfterSense st present) = false := by
  rcases motorOn_eq_false_iff.mp hm with h | h | h <;> subst h <;> cases present <;> rfl

theorem Channel.probeEnded_motor {c : Channel} (hm : motorOn c.state = false) :
    (outputsOf (c.probeEnded lines)).motor = false :=
  motor_released (stateAfterSense_still hm _) rfl

/-- The channel as the probe is over, its sense to come. -/
def Channel.probeOver (c : Channel) (lines : Lines) : Channel :=
  Channel.drive { (c.withInputs lines).drive with probe := none, stageTimer := none }

theorem Channel.probeOver_afterSense (c : Channel) (lines : Lines) :
    (c.probeOver lines).afterSense (lines.ready || lines.track0) =
      (c.probeEnded lines).wired (c.probeOver lines).outputs (c.probeOver lines).sincePulse := by
  dsimp only [probeOver, drive, afterSense, wired, probeEnded, withInputs]

/-- The lines of the probe leave no trace behind its end: MOTOR is released. -/
theorem State.senseTaken_probed (hm : motorOn (s.channel ch).state = false) :
    (((s.pins ch lines).putChannel ch
      { (s.pins ch lines).channel ch with probe := none, stageTimer := none }).senseTaken ch
        (lines.ready || lines.track0)) = s.putChannel ch ((s.channel ch).probeEnded lines) := by
  have hmotor := Channel.probeEnded_motor (lines := lines) hm
  rw [State.senseTaken, State.putChannel_channel, State.putChannel_putChannel, State.pins_channel, State.pins_eq,
    State.putChannel_putChannel]
  refine congrArg (fun d => { s with channels := qset s.channels ch d }) ?_
  exact (congrArg Channel.drive ((s.channel ch).probeOver_afterSense lines)).trans
    (Channel.wired_drive (fun h => absurd h (Bool.eq_false_iff.mp hmotor)) _)

theorem exec_presenceProbeEnd (hk : (s.channel ch).kind = .floppy) (hm : motorOn (s.channel ch).state = false)
    (hb : (s.channel ch).probe = some b) :
    ∃ u : State, exec (.presenceProbeEnd ch lines) s =
      .next (b.deferred.foldl (fun t d => t.takeDeferred ch d) (u.finishMount ch b.mount (lines.ready || lines.track0))) ∧
      u.senseTaken ch (lines.ready || lines.track0) = s.putChannel ch ((s.channel ch).probeEnded lines) ∧
      (u.channel ch).kind = .floppy ∧ u.slots = s.slots ∧ u.runs = s.runs := by
  refine ⟨(s.pins ch lines).putChannel ch { (s.pins ch lines).channel ch with probe := none, stageTimer := none }, ?_,
    State.senseTaken_probed hm, ?_, rfl, rfl⟩
  · have hsensed : ((s.pins ch lines).channel ch).sensed = (lines.ready || lines.track0) := by
      rw [State.pins_channel]
      simp only [Channel.sensed, Channel.drive_kind, Channel.drive_inputs, Channel.withInputs, hk]
    refine congrArg Host.Outcome.next ?_
    rw [hb]
    dsimp only [State.probeEnds]
    rw [hsensed]
  · rw [State.putChannel_channel, State.pins_channel, Channel.drive_kind]
    dsimp only
    rw [Channel.drive_kind]
    exact hk

end

/-- Settles O40: the probe begun, what comes during it, the same taken with no probe, and its end test by test. -/
theorem presenceProbed : Obligations.PresenceProbed := by
  refine ⟨fun s tag n a b c d vb ch hids hvb hacc hv hprobe hk hm hsense => ?begun,
    fun s tag n a b c d vb ch lines o x hx => ?waiting, fun s tag ch lines o hprobe => ⟨fun hacc => ?recal, ?media, rfl⟩,
    fun s ch lines b hk hm hb hv => ?ended⟩
  case begun =>
    let m : MountRequest := mountOf s.link.nextId n a b c d vb
    refine ⟨_, exec_mount_taken hacc hvb, ?_, ?_, ?_, ?_, ?_⟩ <;>
      rw [State.takeMount_probes (by exact hv) (by exact hprobe) (by exact hk) (by exact hm) (by exact hsense)]
    · rfl
    · exact fun k hkc => State.putChannel_channel_ne _ _ _ _ hkc
    · exact State.putChannel_channel _ _ _
    · rw [State.putChannel_channel]
      exact Channel.motor_probed rfl hk
    · rw [State.putChannel_channel, Channel.drive_outputs, outputsOf_floppy (by exact hk)]
      exact hm
  case waiting =>
    intro waits kept
    refine ⟨fun hacc => exec_recal_waits hx hacc, ?_, Channel.takeOrder_waits hx _ o, fun hacc hvb hv => ?_⟩
    · rw [← afterMedia_eq]
      exact exec_mediaChange_waits hx lines
    · rw [exec_mount_taken hacc hvb, State.takeMount_waits (by exact hv) (by exact hx)]
      rfl
  case recal =>
    rw [exec_recal_taken hacc hprobe, State.takeDeferred_recal (by exact hprobe)]
  case media =>
    rw [← afterMedia_eq]
    rfl
  case ended =>
    intro ended goesOn
    have hended : s.putChannel ch ((s.channel ch).probeEnded lines) = ended := by
      refine congrArg (fun st => s.putChannel ch { s.channel ch with
        inputs := lines, probe := none, stageTimer := none, state := st }) ?_
      rcases motorOn_eq_false_iff.mp hm with h | h | h <;> rw [h] <;> cases lines.ready || lines.track0 <;> rfl
    obtain ⟨u, hexec, htaken, hkind, hslots, hruns⟩ := exec_presenceProbeEnd (lines := lines) hk hm hb
    rw [hended] at htaken
    refine ⟨?motor, fun hr ht => ?unseen, fun hpresent => ?_⟩
    case motor =>
      rw [← hended, State.putChannel_channel]
      exact Channel.probeEnded_motor hm
    case unseen =>
      rw [hexec, ← htaken, hr, ht]
      exact congrArg (fun t => Host.Outcome.next (goesOn t)) State.finishMount_absent
    have hsees : (lines.ready || lines.track0) = true := by
      rcases hpresent with h | h <;> simp [h]
    have hslot : u.slot b.mount.slot = s.slot b.mount.slot := by
      rw [State.slot, hslots, ← State.slot]
    rw [hsees] at hexec htaken
    rw [← hslot, ← hruns, ← htaken, hexec]
    have hstrap {p : Profile} (h : p.medium ≠ .cartridge) : strapNeeded p.medium = (u.channel ch).kind := by
      rw [hkind]
      cases hp : p.medium with
      | cartridge => exact absurd hp h
      | floppySoft => rfl
      | floppyHard => rfl
    refine ⟨fun h => ?empty, fun p h hp => ?wrong, fun p h hp hfit => ?noRoom, fun p base h hp hfit => ?created⟩
    case empty => exact congrArg (fun t => Host.Outcome.next (goesOn t)) (State.finishMount_empty h)
    case wrong =>
      refine congrArg (fun t => Host.Outcome.next (goesOn t)) (State.finishMount_wrong h ?_)
      rw [hp, hkind]
      exact nofun
    case noRoom => exact congrArg (fun t => Host.Outcome.next (goesOn t)) (State.finishMount_noRoom h (hstrap hp) hfit)
    case created =>
      refine ⟨_, congrArg (fun t => Host.Outcome.next (goesOn t)) (State.finishMount_created h (hstrap hp) hfit), ?_⟩
      rw [htaken]
      have hraised := State.slot_raiseUse_same (s := s) (m := b.mount) (hslot ▸ h)
      refine ⟨State.createVolume_volume _ _ _ _ _, ?link, ?channel, ?useCount, ?pool, ?image, ?fetches, fun k hkc => ?others⟩
      case link => rw [State.createVolume_eq]; rfl
      case channel =>
        rw [State.createVolume_channel]
        rw [Channel.mounting, ← hended, State.putChannel_channel]
        rfl
      case useCount =>
        rw [State.slot, State.slots_createVolume, hslot]
        exact hraised.1
      case pool => rw [State.createVolume_eq]; rfl
      case image => rw [State.createVolume_eq]; rfl
      case fetches => rw [State.createVolume_eq]; rfl
      case others =>
        obtain ⟨hc, hvk⟩ := State.createVolume_other (s := ended) (m := b.mount) (p := p) hkc base
        exact ⟨hc.trans (State.putChannel_channel_ne _ _ _ _ hkc), hvk⟩

end Sys2Proof.Machine
end


/-! # The frames of the active fetch (R150 to R154, R171) -/

section
/-! SUPPORT. FETCH_FRAME_OFFER by its room test, and what a frame delivers by the record's state. -/

namespace Sys2Proof.Machine

section
variable {s : State} {e : FetchEntry} {rest : List FetchEntry} {v : Volume}

theorem State.offerFrame_noFetch (h : s.fetches = []) : s.offerFrame = s := by
  simp only [State.offerFrame, h]

theorem State.offerFrame_restart (h : s.link.restart ≠ .idle) : s.offerFrame = s := by
  unfold State.offerFrame
  split
  · rfl
  · exact if_pos h

/-- The active fetch of a mounted volume offers its frame where the room test allows (R153). -/
theorem State.offerFrame_active (hf : s.fetches = e :: rest) (hr : s.link.restart = .idle)
    (hv : s.volume e.channel = some v) (huid : v.uid = e.volume) : s.offerFrame =
      if s.link.noticeRoom then s.enqueueSector v e rest else s.setFetches ({ e with waiting := true } :: rest) := by
  have hmine : (s.volume e.channel).filter (fun v => v.uid == e.volume) = some v := by
    rw [hv]
    exact Option.filter_some_pos (beq_iff_eq.mpr huid)
  simp only [State.offerFrame, hf, hmine]
  exact if_neg (not_not_intro hr)

/-! ## What a frame delivers (R150) -/

section
variable {r : SectorRecord} {i : Nat} {mode : FetchMode}

theorem State.delivered_settled {info : SettledInfo} (hs : (v.record i).state = .settled)
    (hi : (v.record i).settled = some info) : s.delivered v i mode = s.deliverSettled v i info := by
  simp only [State.delivered, hs, hi]

theorem State.delivered_best (hs : (v.record i).state = .weak ∨ (v.record i).state = .contested ∨ (v.record i).state = .lost) :
    s.delivered v i .best = s.deliverBest v (v.record i) := by
  rcases hs with hs | hs | hs <;> simp only [State.delivered, hs]

theorem State.delivered_settledOnly (hs : (v.record i).state ≠ .settled) : s.delivered v i .settledOnly = .stateOnly := by
  cases h : (v.record i).state with
  | settled => exact absurd h hs
  | unseen | excluded | weak | contested | lost => simp only [State.delivered, h]

theorem State.delivered_noData (hs : (v.record i).state = .unseen ∨ (v.record i).state = .excluded) :
    s.delivered v i mode = .stateOnly := by
  rcases hs with hs | hs <;> simp only [State.delivered, hs]

theorem State.deliverBest_none (h : r.candidates = []) : s.deliverBest v r = .stateOnly := by
  simp only [State.deliverBest, h]

theorem State.deliverBest_some {slot : Nat} {others : List Nat} {c : Candidate} (h : r.candidates = slot :: others)
    (hc : s.pool.descriptor slot = some c) : s.deliverBest v r =
      { data := (areaOf s.pool.memory slot).data.take v.dataLength
        confidences := (areaOf s.pool.memory slot).confidences.take v.dataLength
        matchCount := if c.origin = .fused then 0 else c.matchCount
        checkOk := if c.origin = .fused then true else c.checkOk, deleted := decide (c.markClass = .deleted) } := by
  simp only [State.deliverBest, h, hc]
  cases c.origin <;> rfl

theorem State.delivered_noCandidate (hs : (v.record i).state ≠ .settled) (h : (v.record i).candidates = []) :
    s.delivered v i mode = .stateOnly := by
  cases mode with
  | settledOnly => exact State.delivered_settledOnly hs
  | best =>
    cases hst : (v.record i).state with
    | settled => exact absurd hst hs
    | unseen => exact State.delivered_noData (.inl hst)
    | excluded => exact State.delivered_noData (.inr hst)
    | weak => rw [State.delivered_best (.inl hst), State.deliverBest_none h]
    | contested => rw [State.delivered_best (.inr (.inl hst)), State.deliverBest_none h]
    | lost => rw [State.delivered_best (.inr (.inr hst)), State.deliverBest_none h]

end

/-! ## The frame (R171) -/

theorem settledByOf_eq (r : SectorRecord) : settledByOf r = (r.settled.map (fun x => settledByByte x.by_)).getD 0 := by
  rw [settledByOf]
  cases r.settled <;> rfl

theorem State.sectorPayload_eq {p : Profile} (h : (s.slot v.slot).held = some p) (i : Nat) (mode : FetchMode) (conf : Bool) :
    s.sectorPayload v i mode conf =
      le2 i ++ b1 (i / v.sectors / p.heads) ++ b1 (i / v.sectors - p.heads * (i / v.sectors / p.heads)) ++
      le2 (i - i / v.sectors * v.sectors) ++ b1 (recordStateByte (v.record i).state) ++ b1 (settledByOf (v.record i)) ++
      b1 (recordFlags (v.record i) + flagBit 4 (s.delivered v i mode).deleted) ++ le2 (v.record i).reads ++
      b1 (s.delivered v i mode).matchCount ++ yesNo (s.delivered v i mode).checkOk ++
      le2 (s.delivered v i mode).data.length ++ (s.delivered v i mode).data ++
      (if conf then packConfidences (s.delivered v i mode).confidences else []) := by
  simp only [State.sectorPayload, h, placeOf]

end

/-- Settles O51: the offer by its room test, the frame's fields, and what it delivers by the record's state and the mode. -/
theorem fetchFrameOffered : Obligations.FetchFrameOffered := by
  refine ⟨fun s h => congrArg Host.Outcome.next (h.elim State.offerFrame_noFetch State.offerFrame_restart),
    fun s e rest v hf hr hv huid => ?_⟩
  intro r sent
  have hactive := State.offerFrame_active hf hr hv huid
  refine ⟨fun hfull => ?waits, fun hroom => ?_, rfl, rfl, fun d hd p hp => ?payload,
    fun info hs hi => State.delivered_settled hs hi, fun h => ?stateOnly,
    fun slot others c hs hm hc hd => ?best⟩
  case waits =>
    refine congrArg Host.Outcome.next (hactive.trans (if_neg ?_))
    rw [Link.noticeRoom_iff]
    exact hfull.not_ge
  case payload =>
    subst hd
    refine (State.sectorPayload_eq hp e.next e.mode e.withConfidence).trans ?_
    rw [settledByOf_eq, recordFlags_eq, flagBit_eq]
    rfl
  case stateOnly =>
    rcases h with hs | hs | ⟨hs, hm | hc⟩
    · exact State.delivered_noData (.inl hs)
    · exact State.delivered_noData (.inr hs)
    · rw [hm]
      exact State.delivered_settledOnly hs
    · exact State.delivered_noCandidate hs hc
  case best =>
    rw [hm, State.delivered_best hs]
    exact State.deliverBest_some hc hd
  have hsent : exec .fetchFrameOffer s = .next (s.enqueueSector v e rest) :=
    congrArg Host.Outcome.next (hactive.trans (if_pos (Link.noticeRoom_iff.mpr hroom)))
  rw [hsent]
  exact ⟨fun hmore => congrArg Host.Outcome.next (if_neg hmore.not_ge), fun hlast => congrArg Host.Outcome.next (if_pos hlast)⟩

end Sys2Proof.Machine
end


/-! # Records and plan entries written track by track (R93 to R95, R104, R105, R130) -/

section
/-! SUPPORT. What a plan entry's change leaves, and what a run of records written one after another leaves of the records, the
summaries, the totals and the maps. -/

namespace Sys2Proof.Machine

namespace Volume

/-! ## Plan entries (R130) -/

/-- The bit of the pending-track map that goes with a track's state. -/
def pendingBit : TrackState → Bool
  | .pending => true
  | .active => true
  | .done => false
  | .exhausted => false

section
variable (v : Volume) (t : Nat) (st : TrackState)

@[simp] theorem setTrackState_record (i : Nat) : (v.setTrackState t st).record i = v.record i := rfl
@[simp] theorem setTrackState_records : (v.setTrackState t st).records = v.records := rfl
@[simp] theorem setTrackState_summary (k : Nat) : (v.setTrackState t st).summary k = v.summary k := rfl
@[simp] theorem setTrackState_sectors : (v.setTrackState t st).sectors = v.sectors := rfl
@[simp] theorem setTrackState_trackCount : (v.setTrackState t st).trackCount = v.trackCount := rfl

variable {v t st}

theorem setTrackState_eq : v.setTrackState t st = { v with planner := { v.planner with
    tracks := modifyAt (fun e => { e with state := st }) v.planner.tracks t
    pendingMap := modifyAt (fun _ => pendingBit st) v.planner.pendingMap t } } := by
  cases st <;> rfl

theorem setTrackState_plan_same (h : t < v.planner.tracks.length) :
    (v.setTrackState t st).plan t = { v.plan t with state := st } :=
  getD_modifyAt_same _ _ _ h

theorem setTrackState_plan_ne {k : Nat} (h : k ≠ t) : (v.setTrackState t st).plan k = v.plan k :=
  getD_modifyAt_ne _ _ _ h

theorem setTrackState_isPending_same (h : t < v.planner.pendingMap.length) :
    (v.setTrackState t st).isPending t = pendingBit st := by
  rw [setTrackState_eq]
  exact getD_modifyAt_same _ _ _ h

theorem setTrackState_isPending_ne {k : Nat} (h : k ≠ t) : (v.setTrackState t st).isPending k = v.isPending k :=
  getD_modifyAt_ne _ _ _ h

theorem setTrackState_tracks_length : (v.setTrackState t st).planner.tracks.length = v.planner.tracks.length :=
  length_modifyAt _ _ _

theorem setTrackState_pendingMap_length :
    (v.setTrackState t st).planner.pendingMap.length = v.planner.pendingMap.length :=
  length_modifyAt _ _ _

end

/-! ## One record rewritten -/

/-- A volume with the records, counts and maps of another. -/
def withRecordsOf (v w : Volume) : Volume := { v with
  records := w.records, summaries := w.summaries, totals := w.totals, settledMap := w.settledMap
  exclusionMap := w.exclusionMap }

/-- A volume that differs from another in its records, counts and maps alone. -/
def RecordsMove (v w : Volume) : Prop := w = v.withRecordsOf w

theorem RecordsMove.refl (v : Volume) : v.RecordsMove v := Eq.refl v

theorem RecordsMove.trans {u v w : Volume} (h : u.RecordsMove v) (k : v.RecordsMove w) : u.RecordsMove w := by
  unfold RecordsMove at h k ⊢
  rw [k, h]
  rfl

theorem putRecord_recordsMove (v : Volume) (i : Nat) (r : SectorRecord) : v.RecordsMove (v.putRecord i r) := rfl

theorem RecordsMove.planner {v w : Volume} (h : v.RecordsMove w) : w.planner = v.planner := by
  rw [h]; rfl
theorem RecordsMove.sectors {v w : Volume} (h : v.RecordsMove w) : w.sectors = v.sectors := by
  rw [h]; rfl
theorem RecordsMove.trackCount {v w : Volume} (h : v.RecordsMove w) : w.trackCount = v.trackCount := by
  rw [h]; rfl
theorem RecordsMove.plan {v w : Volume} (h : v.RecordsMove w) (k : Nat) : w.plan k = v.plan k := by
  rw [Volume.plan, h.planner, ← Volume.plan]
theorem RecordsMove.isPending {v w : Volume} (h : v.RecordsMove w) (k : Nat) : w.isPending k = v.isPending k := by
  rw [Volume.isPending, h.planner, ← Volume.isPending]

/-- The records that `P` finds are changed by `f`. -/
def rewriteAt (P : SectorRecord → Bool) (f : SectorRecord → SectorRecord) (v : Volume) (i : Nat) : Volume :=
  if P (v.record i) then v.putRecord i (f (v.record i)) else v

section
variable {P : SectorRecord → Bool} {f : SectorRecord → SectorRecord} {v : Volume} {i : Nat} {old new : RecordClass}

/-- A rewriting that moves what it finds from one class to another. -/
structure Moves (P : SectorRecord → Bool) (f : SectorRecord → SectorRecord) (old new : RecordClass) : Prop where
  from_ : ∀ r, P r = true → classOf r.state = old
  to_ : ∀ r, P r = true → classOf (f r).state = new

theorem rewriteAt_recordsMove : v.RecordsMove (v.rewriteAt P f i) := by
  unfold rewriteAt
  split
  · exact v.putRecord_recordsMove _ _
  · exact .refl v

theorem rewriteAt_form (h : mapOk .fresh v.records = true) : mapOk .fresh (v.rewriteAt P f i).records = true := by
  unfold rewriteAt
  split
  · exact putRecord_records_ok h
  · exact h

theorem record_rewriteAt (h : mapOk .fresh v.records = true) (j : Nat) : (v.rewriteAt P f i).record j =
    if j = i ∧ P (v.record j) = true then f (v.record j) else v.record j := by
  unfold rewriteAt
  split
  · next hP =>
    rw [record_putRecord h]
    by_cases hj : j = i
    · rw [if_pos hj, hj, if_pos ⟨rfl, hP⟩]
    · rw [if_neg hj, if_neg (fun h => hj h.1)]
  · next hP => rw [if_neg fun he : j = i ∧ _ => hP (he.1 ▸ he.2)]

theorem summary_rewriteAt_ne {k : Nat} (hk : k ≠ i / v.sectors) : (v.rewriteAt P f i).summary k = v.summary k := by
  unfold rewriteAt
  split
  · exact summary_putRecord_ne hk
  · rfl

theorem summary_rewriteAt_same (hm : Moves P f old new) (h : i / v.sectors < v.summaries.length) :
    (v.rewriteAt P f i).summary (i / v.sectors) =
      if P (v.record i) then (v.summary (i / v.sectors)).move old new else v.summary (i / v.sectors) := by
  unfold rewriteAt
  split
  · next hP => rw [summary_putRecord_same h, hm.from_ _ hP, hm.to_ _ hP]
  · rfl

theorem totals_rewriteAt (hm : Moves P f old new) :
    (v.rewriteAt P f i).totals = if P (v.record i) then v.totals.move old new else v.totals := by
  unfold rewriteAt
  split
  · next hP =>
    rw [← hm.from_ _ hP, ← hm.to_ _ hP]
    rfl
  · rfl

theorem rewriteAt_summaries_length : (v.rewriteAt P f i).summaries.length = v.summaries.length := by
  unfold rewriteAt
  split
  · exact length_modifyAt _ _ _
  · rfl

end

/-! ## A run of records rewritten -/

section
variable {P : SectorRecord → Bool} {f : SectorRecord → SectorRecord} {old new : RecordClass} {l : List Nat}

/-- The records of a list rewritten one after another. -/
def rewrite (P : SectorRecord → Bool) (f : SectorRecord → SectorRecord) (v : Volume) (l : List Nat) : Volume :=
  l.foldl (rewriteAt P f) v

theorem rewrite_recordsMove (v : Volume) : v.RecordsMove (v.rewrite P f l) := by
  induction l generalizing v with
  | nil => exact .refl v
  | cons i l ih => exact rewriteAt_recordsMove.trans (ih _)

theorem rewrite_form {v : Volume} (h : mapOk .fresh v.records = true) : mapOk .fresh (v.rewrite P f l).records = true := by
  induction l generalizing v with
  | nil => exact h
  | cons i l ih => exact ih (rewriteAt_form h)

theorem rewrite_summaries_length (v : Volume) : (v.rewrite P f l).summaries.length = v.summaries.length := by
  induction l generalizing v with
  | nil => rfl
  | cons i l ih => exact (ih _).trans rewriteAt_summaries_length

theorem record_rewrite {v : Volume} (h : mapOk .fresh v.records = true) (hnd : l.Nodup) (j : Nat) :
    (v.rewrite P f l).record j = if j ∈ l ∧ P (v.record j) = true then f (v.record j) else v.record j := by
  induction l generalizing v with
  | nil => simp [rewrite]
  | cons i l ih =>
    rw [List.nodup_cons] at hnd
    refine (ih (rewriteAt_form h) hnd.2).trans ?_
    rw [record_rewriteAt h]
    by_cases hj : j = i
    · simp [hj, hnd.1]
    · simp [hj]

/-- What `P` finds in the rest of a list without repetition is what it found before one record was rewritten. -/
theorem countP_rewriteAt {v : Volume} (h : mapOk .fresh v.records = true) {i : Nat} (hi : i ∉ l) :
    l.countP (fun j => P ((v.rewriteAt P f i).record j)) = l.countP (fun j => P (v.record j)) := by
  refine List.countP_congr fun j hj => ?_
  have hne : j ≠ i := fun he => hi (he ▸ hj)
  rw [record_rewriteAt h, if_neg fun he => hne he.1]

theorem summary_rewrite_ne (v : Volume) {k : Nat} (hk : ∀ i ∈ l, i / v.sectors ≠ k) :
    (v.rewrite P f l).summary k = v.summary k := by
  induction l generalizing v with
  | nil => rfl
  | cons i l ih =>
    have hsectors : (v.rewriteAt P f i).sectors = v.sectors := rewriteAt_recordsMove.sectors
    refine (ih _ fun j hj => ?_).trans (summary_rewriteAt_ne (Ne.symm (hk i List.mem_cons_self)))
    rw [hsectors]
    exact hk j (List.mem_cons_of_mem _ hj)

/-- The summary of the track whose records were rewritten: one move for each record found. -/
theorem summary_rewrite_same (hm : Moves P f old new) {v : Volume} (h : mapOk .fresh v.records = true) (hnd : l.Nodup)
    {t : Nat} (ht : t < v.summaries.length) (hl : ∀ i ∈ l, i / v.sectors = t) : (v.rewrite P f l).summary t =
      (fun c : Counts => c.move old new)^[l.countP (fun i => P (v.record i))] (v.summary t) := by
  induction l generalizing v with
  | nil => rfl
  | cons i l ih =>
    rw [List.nodup_cons] at hnd
    have hsectors : (v.rewriteAt P f i).sectors = v.sectors := rewriteAt_recordsMove.sectors
    have hit : i / v.sectors = t := hl i List.mem_cons_self
    refine (ih (rewriteAt_form h) hnd.2 (by rwa [rewriteAt_summaries_length])
      fun j hj => by rw [hsectors]; exact hl j (List.mem_cons_of_mem _ hj)).trans ?_
    rw [countP_rewriteAt h hnd.1, ← hit, summary_rewriteAt_same hm (hit ▸ ht), List.countP_cons]
    cases P (v.record i) with
    | true => rfl
    | false => rfl

theorem totals_rewrite (hm : Moves P f old new) {v : Volume} (h : mapOk .fresh v.records = true) (hnd : l.Nodup) :
    (v.rewrite P f l).totals =
      (fun c : Counts => c.move old new)^[l.countP (fun i => P (v.record i))] v.totals := by
  induction l generalizing v with
  | nil => rfl
  | cons i l ih =>
    rw [List.nodup_cons] at hnd
    refine (ih (rewriteAt_form h) hnd.2).trans ?_
    rw [countP_rewriteAt h hnd.1, totals_rewriteAt hm, List.countP_cons]
    cases P (v.record i) with
    | true => rfl
    | false => rfl

/-- Records that neither map names, rewritten to states that neither names, leave both maps (R95). -/
theorem maps_rewrite {v : Volume} (hs : ∀ r, P r = true → (f r).state ≠ .settled ∧ (f r).state ≠ .excluded)
    (h : mapOk .fresh v.records = true) (hnd : l.Nodup)
    (hl : ∀ i ∈ l, P (v.record i) = true → i ∉ v.settledMap ∧ i ∉ v.exclusionMap) :
    (v.rewrite P f l).settledMap = v.settledMap ∧ (v.rewrite P f l).exclusionMap = v.exclusionMap := by
  induction l generalizing v with
  | nil => exact ⟨rfl, rfl⟩
  | cons i l ih =>
    rw [List.nodup_cons] at hnd
    have hone : (v.rewriteAt P f i).settledMap = v.settledMap ∧ (v.rewriteAt P f i).exclusionMap = v.exclusionMap := by
      unfold rewriteAt
      split
      · next hP =>
        obtain ⟨hns, hne⟩ := hs _ hP
        obtain ⟨his, hie⟩ := hl i List.mem_cons_self hP
        have hfilter {m : List Nat} (hi : i ∉ m) : setBit m i false = m :=
          List.filter_eq_self.mpr fun j hj => decide_eq_true fun he => hi (he ▸ hj)
        simp only [putRecord, decide_eq_false hns, decide_eq_false hne, hfilter his, hfilter hie, ite_self, and_self]
      · exact ⟨rfl, rfl⟩
    obtain ⟨hrs, hre⟩ := ih (v := v.rewriteAt P f i) (rewriteAt_form h) hnd.2 fun j hj hP => by
      have hne : j ≠ i := fun he => hnd.1 (he ▸ hj)
      rw [record_rewriteAt h, if_neg fun h => hne h.1] at hP
      rw [hone.1, hone.2]
      exact hl j (List.mem_cons_of_mem _ hj) hP
    exact ⟨hrs.trans hone.1, hre.trans hone.2⟩

end

/-! ## The sector indices of a track -/

theorem mem_trackSectors {v : Volume} {t i : Nat} : i ∈ v.trackSectors t ↔ t * v.sectors ≤ i ∧ i < (t + 1) * v.sectors := by
  simp only [trackSectors, List.mem_map, List.mem_range, Nat.succ_mul]
  constructor
  · rintro ⟨k, hk, rfl⟩
    omega
  · rintro ⟨hlo, hhi⟩
    exact ⟨i - t * v.sectors, by omega, by omega⟩

theorem nodup_trackSectors (v : Volume) (t : Nat) : (v.trackSectors t).Nodup :=
  List.nodup_range.map fun _ _ h => Nat.add_left_cancel h

theorem div_of_mem_trackSectors {v : Volume} {t i : Nat} (h : i ∈ v.trackSectors t) : i / v.sectors = t := by
  obtain ⟨hlo, hhi⟩ := mem_trackSectors.mp h
  exact Nat.div_eq_of_lt_le hlo hhi

theorem countP_trackSectors (v : Volume) (t : Nat) (q : Nat → Bool) :
    (v.trackSectors t).countP q = (List.range v.sectors).countP (fun j => q (t * v.sectors + j)) :=
  List.countP_map

/-! ## Loss (R104) -/

/-- The open records. -/
def openRecord (r : SectorRecord) : Bool := decide (classOf r.state = .opn)

theorem openRecord_iff {r : SectorRecord} : openRecord r = true ↔ r.state ∈ [.unseen, .weak, .contested] := by
  rw [openRecord, decide_eq_true_iff, classOf_eq_opn]
  simp

theorem moves_lose : Moves openRecord (fun r => { r with state := .lost }) .opn .lost :=
  ⟨fun _ h => of_decide_eq_true h, fun _ _ => rfl⟩

theorem loseTrack_eq (v : Volume) (t : Nat) :
    v.loseTrack t = v.rewrite openRecord (fun r => { r with state := .lost }) (v.trackSectors t) := by
  have hone : loseRecord = rewriteAt openRecord (fun r => { r with state := .lost }) := by
    funext w i
    simp only [loseRecord, rewriteAt, openRecord, decide_eq_true_iff]
  rw [loseTrack, hone]
  rfl

section
variable {v : Volume} {t : Nat}

theorem record_loseTrack (h : mapOk .fresh v.records = true) (i : Nat) : (v.loseTrack t).record i =
    if t * v.sectors ≤ i ∧ i < (t + 1) * v.sectors ∧ (v.record i).state ∈ [.unseen, .weak, .contested] then
      { v.record i with state := .lost } else v.record i := by
  rw [loseTrack_eq, record_rewrite h (v.nodup_trackSectors t)]
  simp only [mem_trackSectors, openRecord_iff, and_assoc]

theorem iterate_lose (c : Counts) (n : Nat) : (fun c : Counts => c.move .opn .lost)^[n] c =
    { c with opn := c.opn - n, lost := c.lost + n } := by
  induction n generalizing c with
  | zero => rfl
  | succ n ih =>
    rw [Function.iterate_succ_apply, ih]
    change ({ c with opn := c.opn - 1 - n, lost := c.lost + 1 + n } : Counts) = _
    rw [Nat.sub_sub, Nat.add_assoc, Nat.add_comm 1 n]

end

end Volume

end Sys2Proof.Machine
end


/-! # EXTEND (R105, R145) -/

section
/-! SUPPORT. The LOST records of a track reverted, and EXTEND track by track. -/

namespace Sys2Proof.Machine

/-! ## Reversion (R105) -/

theorem Pool.slotOk_eq (p : Pool) (slot : Nat) :
    p.slotOk slot = decide ((p.descriptor slot).map (·.checkOk) = some true) := by
  unfold Pool.slotOk
  cases p.descriptor slot <;> simp

theorem stateOfCandidates_eq (p : Pool) (slots : List Nat) : stateOfCandidates p slots =
    if 2 ≤ slots.countP (fun slot => decide ((p.descriptor slot).map (·.checkOk) = some true)) then .contested
    else if slots = [] then .unseen else .weak := by
  rw [stateOfCandidates, funext (Pool.slotOk_eq p)]
  simp only [List.isEmpty_iff]

theorem classOf_stateOfCandidates (p : Pool) (slots : List Nat) : classOf (stateOfCandidates p slots) = .opn := by
  unfold stateOfCandidates
  split
  · rfl
  · split <;> rfl

namespace Volume

/-- The LOST records. -/
def lostRecord (r : SectorRecord) : Bool := decide (r.state = .lost)

/-- A record with the open state its candidates give. -/
def reverted (p : Pool) (r : SectorRecord) : SectorRecord := { r with state := stateOfCandidates p r.candidates }

theorem lostRecord_iff {r : SectorRecord} : lostRecord r = true ↔ r.state = .lost := decide_eq_true_iff

theorem moves_revert (p : Pool) : Moves lostRecord (reverted p) .lost .opn :=
  ⟨fun _ h => classOf_eq_lost.mpr (lostRecord_iff.mp h), fun _ _ => classOf_stateOfCandidates _ _⟩

theorem revertTrack_eq (v : Volume) (p : Pool) (t : Nat) :
    v.revertTrack p t = v.rewrite lostRecord (reverted p) (v.trackSectors t) := by
  have hone : revertRecord p = rewriteAt lostRecord (reverted p) := by
    funext w i
    simp only [revertRecord, rewriteAt, lostRecord_iff]
    rfl
  rw [revertTrack, hone]
  rfl

theorem iterate_revert (c : Counts) (n : Nat) : ((fun c : Counts => c.move .lost .opn)^[n] c).opn = c.opn + n := by
  induction n generalizing c with
  | zero => rfl
  | succ n ih =>
    rw [Function.iterate_succ_apply, ih]
    change c.opn + 1 + n = _
    rw [Nat.add_assoc, Nat.add_comm 1 n]

/-- The LOST records of a track. -/
def lostCount (v : Volume) (t : Nat) : Nat := (v.trackSectors t).countP (fun i => lostRecord (v.record i))

theorem mem_trackSectors_iff_div {v : Volume} {t i : Nat} : i ∈ v.trackSectors t ↔ 0 < v.sectors ∧ i / v.sectors = t := by
  constructor
  · intro h
    have hpos : 0 < v.sectors := by
      obtain ⟨hlo, hhi⟩ := mem_trackSectors.mp h
      rw [Nat.succ_mul] at hhi
      omega
    exact ⟨hpos, div_of_mem_trackSectors h⟩
  · rintro ⟨hpos, rfl⟩
    exact mem_trackSectors.mpr ⟨Nat.div_mul_le_self _ _, by rw [Nat.succ_mul]; exact Nat.lt_div_mul_add hpos⟩

theorem record_revertTrack {v : Volume} (h : mapOk .fresh v.records = true) (p : Pool) (t i : Nat) :
    (v.revertTrack p t).record i = if (0 < v.sectors ∧ i / v.sectors = t) ∧ (v.record i).state = .lost then
      reverted p (v.record i) else v.record i := by
  rw [revertTrack_eq, record_rewrite h (v.nodup_trackSectors t)]
  simp only [mem_trackSectors_iff_div, lostRecord_iff]

theorem opn_revertTrack {v : Volume} (h : mapOk .fresh v.records = true) (p : Pool) {t : Nat} (ht : t < v.summaries.length) :
    ((v.revertTrack p t).summary t).opn = (v.summary t).opn + v.lostCount t := by
  rw [revertTrack_eq, summary_rewrite_same (moves_revert p) h (v.nodup_trackSectors t) ht
    fun i hi => div_of_mem_trackSectors hi, iterate_revert]
  rfl

theorem summary_revertTrack_ne (v : Volume) (p : Pool) {t k : Nat} (hk : k ≠ t) :
    (v.revertTrack p t).summary k = v.summary k := by
  rw [revertTrack_eq]
  exact summary_rewrite_ne v fun i hi he => hk (he.symm.trans (div_of_mem_trackSectors hi))

theorem revertTrack_recordsMove (v : Volume) (p : Pool) (t : Nat) : v.RecordsMove (v.revertTrack p t) := by
  rw [revertTrack_eq]
  exact rewrite_recordsMove v

/-! ## EXTEND track by track (R145 step 2) -/

/-- Whether a track gains passes: EXHAUSTED, below the raised budget. -/
def gains (v : Volume) (k : Nat) : Bool :=
  decide ((v.plan k).state = .exhausted ∧ (v.plan k).passesUsed < v.planner.passBudget)

theorem gains_iff {v : Volume} {k : Nat} : v.gains k = true ↔
    (v.plan k).state = .exhausted ∧ (v.plan k).passesUsed < v.planner.passBudget := decide_eq_true_iff

/-- The open count of a track whose LOST records are reverted, and the state that goes with it. -/
def openThen (v : Volume) (k : Nat) : Nat := (v.summary k).opn + v.lostCount k
def stateThen (v : Volume) (k : Nat) : TrackState := if 0 < v.openThen k then .pending else .done

/-- A volume whose tracks below `n` that gain passes are extended. -/
structure Extended (p : Pool) (v : Volume) (n : Nat) (w : Volume) : Prop where
  frame : w = { v.withRecordsOf w with planner := { v.planner with
    tracks := w.planner.tracks, pendingMap := w.planner.pendingMap } }
  form : mapOk .fresh w.records = true
  lengths : w.planner.tracks.length = v.trackCount ∧ w.planner.pendingMap.length = v.trackCount ∧
    w.summaries.length = v.trackCount
  plan : ∀ k, w.plan k = if k < n ∧ v.gains k then { v.plan k with state := v.stateThen k } else v.plan k
  pending : ∀ k, w.isPending k = if k < n ∧ v.gains k then decide (0 < v.openThen k) else v.isPending k
  opn : ∀ k, k < n → v.gains k → (w.summary k).opn = v.openThen k
  summary : ∀ k, ¬ (k < n ∧ v.gains k) → w.summary k = v.summary k
  record : ∀ i, w.record i =
    if 0 < v.sectors ∧ i / v.sectors < n ∧ v.gains (i / v.sectors) ∧ (v.record i).state = .lost then
      reverted p (v.record i) else v.record i

section
variable {p : Pool} {v w : Volume} {n : Nat}

theorem Extended.untouched_record (h : Extended p v n w) {i : Nat} (hi : i ∈ v.trackSectors n) :
    w.record i = v.record i := by
  obtain ⟨-, hdiv⟩ := mem_trackSectors_iff_div.mp hi
  rw [h.record, if_neg fun hc => absurd hc.2.1 (by rw [hdiv]; exact Nat.lt_irrefl n)]

theorem Extended.sectors (h : Extended p v n w) : w.sectors = v.sectors := by rw [h.frame]; rfl

theorem Extended.gains (h : Extended p v n w) : w.gains n = v.gains n := by
  have hplan : w.plan n = v.plan n := (h.plan n).trans (if_neg fun hc => Nat.lt_irrefl n hc.1)
  have hbudget : w.planner.passBudget = v.planner.passBudget := by rw [h.frame]
  rw [Volume.gains, hplan, hbudget, Volume.gains]

theorem Extended.openThen (h : Extended p v n w) (hn : n < v.trackCount) :
    ((w.revertTrack p n).summary n).opn = v.openThen n := by
  have hsectors : w.trackSectors n = v.trackSectors n := by rw [trackSectors, h.sectors, ← trackSectors]
  have hcount : w.lostCount n = v.lostCount n := by
    rw [lostCount, hsectors]
    exact List.countP_congr fun i hi => by rw [h.untouched_record hi]
  rw [opn_revertTrack h.form p (h.lengths.2.2.symm ▸ hn), h.summary n fun hc => Nat.lt_irrefl n hc.1, hcount]
  rfl

/-- A track that gains passes has its records reverted, and becomes PENDING or DONE by what is open then. -/
theorem Extended.extendTrack_gains (h : Extended p v n w) (hn : n < v.trackCount) (hg : v.gains n = true) (c : Nat) :
    extendTrack p (w, c) n = ((w.revertTrack p n).setTrackState n (v.stateThen n),
      c + if 0 < v.openThen n then 1 else 0) := by
  have hcond := gains_iff.mp (h.gains.trans hg)
  refine (if_pos hcond).trans ?_
  dsimp only
  rw [h.openThen hn, stateThen]
  split <;> rfl

theorem Extended.extendTrack_keeps (h : Extended p v n w) (hg : v.gains n = false) (c : Nat) :
    extendTrack p (w, c) n = (w, c) :=
  if_neg fun hc => Bool.false_ne_true (hg.symm.trans (h.gains.symm.trans (gains_iff.mpr hc)))

/-- A formula over the tracks below `n + 1` that gain passes, where track `n` gains none. -/
theorem lt_succ_gains_iff {k : Nat} (hg : v.gains n = false) :
    (k < n + 1 ∧ v.gains k = true) ↔ (k < n ∧ v.gains k = true) := by
  constructor
  · rintro ⟨hk, hgk⟩
    have hne : k ≠ n := fun he => Bool.false_ne_true (hg.symm.trans (he ▸ hgk))
    exact ⟨by omega, hgk⟩
  · exact fun ⟨hk, hgk⟩ => ⟨by omega, hgk⟩

theorem Extended.keep (h : Extended p v n w) (hg : v.gains n = false) : Extended p v (n + 1) w := by
  refine ⟨h.frame, h.form, h.lengths, fun k => ?_, fun k => ?_, fun k hk hgk => ?_, fun k hk => ?_, fun i => ?_⟩
  · simp only [lt_succ_gains_iff hg, h.plan]
  · simp only [lt_succ_gains_iff hg, h.pending]
  · exact h.opn k ((lt_succ_gains_iff hg).mp ⟨hk, hgk⟩).1 hgk
  · exact h.summary k fun hc => hk ((lt_succ_gains_iff hg).mpr hc)
  · rw [h.record]
    have hiff : (i / v.sectors < n + 1 ∧ v.gains (i / v.sectors) = true ∧ (v.record i).state = .lost) ↔
        (i / v.sectors < n ∧ v.gains (i / v.sectors) = true ∧ (v.record i).state = .lost) := by
      rw [← and_assoc, lt_succ_gains_iff hg, and_assoc]
    simp only [hiff]

theorem Extended.gain (h : Extended p v n w) (hn : n < v.trackCount) (hg : v.gains n = true) :
    Extended p v (n + 1) ((w.revertTrack p n).setTrackState n (v.stateThen n)) := by
  have hmove := w.revertTrack_recordsMove p n
  obtain ⟨htracks, hpending, hsummaries⟩ := h.lengths
  have hlengths : (w.revertTrack p n).summaries.length = w.summaries.length := by
    rw [revertTrack_eq]
    exact rewrite_summaries_length w
  refine ⟨?frame, ?form, ⟨?_, ?_, ?_⟩, fun k => ?plan, fun k => ?pending, fun k hk hgk => ?opn, fun k hk => ?summary,
    fun i => ?record⟩
  case frame =>
    rw [setTrackState_eq, hmove, h.frame]
    rfl
  case form =>
    rw [setTrackState_records, revertTrack_eq]
    exact rewrite_form h.form
  · rw [setTrackState_tracks_length, hmove.planner, htracks]
  · rw [setTrackState_pendingMap_length, hmove.planner, hpending]
  · exact hlengths.trans hsummaries
  case plan =>
    by_cases hk : k = n
    · subst hk
      rw [setTrackState_plan_same (by rw [hmove.planner, htracks]; exact hn), hmove.plan, h.plan,
        if_neg fun hc => Nat.lt_irrefl k hc.1, if_pos ⟨Nat.lt_succ_self k, hg⟩]
    · have hlt : k < n + 1 ↔ k < n := by omega
      rw [setTrackState_plan_ne hk, hmove.plan, h.plan]
      simp only [hlt]
  case pending =>
    by_cases hk : k = n
    · subst hk
      rw [setTrackState_isPending_same (by rw [hmove.planner, hpending]; exact hn), if_pos ⟨Nat.lt_succ_self k, hg⟩, stateThen]
      split
      · next hpos => rw [decide_eq_true hpos]; rfl
      · next hpos => rw [decide_eq_false hpos]; rfl
    · have hlt : k < n + 1 ↔ k < n := by omega
      rw [setTrackState_isPending_ne hk, hmove.isPending, h.pending]
      simp only [hlt]
  case opn =>
    rw [setTrackState_summary]
    by_cases hkn : k = n
    · rw [hkn, h.openThen hn]
    · rw [summary_revertTrack_ne w p hkn]
      exact h.opn k (by omega) hgk
  case summary =>
    have hkn : k ≠ n := fun he => hk ⟨by omega, he ▸ hg⟩
    rw [setTrackState_summary, summary_revertTrack_ne w p hkn]
    exact h.summary k fun hc => hk ⟨by omega, hc.2⟩
  case record =>
    rw [setTrackState_record, record_revertTrack h.form, h.sectors]
    by_cases hi : 0 < v.sectors ∧ i / v.sectors = n
    · obtain ⟨hpos, hdiv⟩ := hi
      rw [h.untouched_record (mem_trackSectors_iff_div.mpr ⟨hpos, hdiv⟩), hdiv]
      simp [hpos, hg]
    · have hlt : (0 < v.sectors ∧ i / v.sectors < n + 1) ↔ (0 < v.sectors ∧ i / v.sectors < n) := by omega
      rw [if_neg fun hc => hi hc.1, h.record]
      simp only [← and_assoc, hlt]

/-- The tracks of a volume extended in ascending order, with the count of those made PENDING. -/
theorem extended_foldl (p : Pool) {v : Volume} (h : Extended p v 0 v) {n : Nat} (hn : n ≤ v.trackCount) :
    Extended p v n ((List.range n).foldl (extendTrack p) (v, 0)).1 ∧
    ((List.range n).foldl (extendTrack p) (v, 0)).2 =
      (List.range n).countP (fun k => v.gains k && decide (0 < v.openThen k)) := by
  induction n with
  | zero => exact ⟨h, rfl⟩
  | succ n ih =>
    obtain ⟨hw, hc⟩ := ih (by omega)
    rw [List.range_succ, List.foldl_append, List.countP_append, ← hc]
    simp only [List.foldl_cons, List.foldl_nil, List.countP_singleton]
    rw [← Prod.mk.eta (p := (List.range n).foldl (extendTrack p) (v, 0))]
    cases hg : v.gains n with
    | true =>
      rw [hw.extendTrack_gains hn hg]
      exact ⟨hw.gain hn hg, by simp⟩
    | false =>
      rw [hw.extendTrack_keeps hg]
      exact ⟨hw.keep hg, by simp⟩

theorem extended_zero (p : Pool) (htracks : v.planner.tracks.length = v.trackCount)
    (hpending : v.planner.pendingMap.length = v.trackCount) (hsummaries : v.summaries.length = v.trackCount)
    (hform : mapOk .fresh v.records = true) : Extended p v 0 v :=
  ⟨rfl, hform, ⟨htracks, hpending, hsummaries⟩, fun _ => (if_neg fun h => Nat.not_lt_zero _ h.1).symm,
    fun _ => (if_neg fun h => Nat.not_lt_zero _ h.1).symm, fun _ h => absurd h (Nat.not_lt_zero _), fun _ _ => rfl,
    fun _ => (if_neg fun h => Nat.not_lt_zero _ h.2.1).symm⟩

end

/-! ## EXTEND (R145) -/

/-- A volume with both budgets raised. -/
def raised (v : Volume) (passes wear : Nat) : Volume := { v with planner := { v.planner with
  passBudget := min 255 (v.planner.passBudget + passes), wearBudget := min 65535 (v.planner.wearBudget + wear) } }

/-- The run state of a volume whose tracks are extended: STOPPED where ENDED_PARTIAL with a track now PENDING. -/
def extendedRun (w : Volume) : RunState :=
  if w.planner.run = .endedPartial ∧ w.anyPending then .stopped else w.planner.run

theorem stopIfPending_eq (w : Volume) :
    (if w.planner.run = .endedPartial ∧ w.anyPending then w.setPlanner (fun a => { a with run := .stopped }) else w) =
      { w with planner := { w.planner with run := extendedRun w } } := by
  unfold extendedRun
  split <;> rfl

theorem extend_eq (v : Volume) (p : Pool) (passes wear : Nat) {a : Volume × Nat}
    (ha : (List.range v.trackCount).foldl (extendTrack p) (v.raised passes wear, 0) = a) :
    v.extend p passes wear = ({ a.1 with planner := { a.1.planner with run := extendedRun a.1 } }, a.2) := by
  subst ha
  exact Prod.ext (stopIfPending_eq _) rfl

theorem anyPending_iff {v : Volume} {n : Nat} (h : v.planner.tracks.length = n) :
    v.anyPending = true ↔ ∃ k, k < n ∧ (v.plan k).state = .pending := by
  simp only [anyPending, List.any_eq_true, decide_eq_true_iff, Volume.plan, ← h]
  constructor
  · rintro ⟨e, he, hst⟩
    obtain ⟨k, hk, rfl⟩ := List.mem_iff_getElem.mp he
    exact ⟨k, hk, by rwa [List.getD_eq_getElem _ _ hk]⟩
  · rintro ⟨k, hk, hst⟩
    rw [List.getD_eq_getElem _ _ hk] at hst
    exact ⟨_, List.getElem_mem hk, hst⟩

end Volume

theorem exec_extend {s : State} {tag n w0 w1 : Byte} {ch : Chan} {v : Volume} (hids : s.link.idsFresh)
    (hacc : Accepts s 0x33 [chanByte ch, n, w0, w1]) (hv : s.volume ch = some v) {x : Volume × Nat}
    (hx : v.extend s.pool n.toNat (w0.toNat + 256 * w1.toNat) = x) :
    exec (.extend tag [chanByte ch, n, w0, w1]) s = .next ((s.setVolume ch (some x.1)).answered 0x33 tag .ok
      (b1 x.1.planner.passBudget ++ le2 x.1.planner.wearBudget ++ le2 x.2 ++ b1 (runByte x.1.planner.run))) := by
  subst hx
  refine congrArg Host.Outcome.next ((State.withRequest_mounted hacc hv _).trans ?_)
  exact State.accepted_reply hids _ _ _ _ rfl

/-- Settles O48: EXTEND by induction over the tracks, with what every extended track holds. -/
theorem extendRaises : Obligations.ExtendRaises := by
  intro s tag n w0 w1 ch v hids hacc hv htracks hpending hsummaries hform
  let raised : Volume := v.raised n.toNat (w0.toNat + 256 * w1.toNat)
  obtain ⟨hx, hcount⟩ := Volume.extended_foldl s.pool (v := raised)
    (Volume.extended_zero s.pool htracks hpending hsummaries hform) (Nat.le_refl _)
  generalize ha : (List.range raised.trackCount).foldl (extendTrack s.pool) (raised, 0) = a at hx hcount
  have hrun : a.1.planner.run = v.planner.run := by rw [hx.frame]; rfl
  have hbudget : a.1.planner.passBudget = raised.planner.passBudget := by rw [hx.frame]
  have hany : a.1.anyPending = true ↔ ∃ k, k < v.trackCount ∧ (a.1.plan k).state = .pending :=
    Volume.anyPending_iff hx.lengths.1
  have hgains (k : Nat) : raised.gains k = true ↔
      (v.plan k).state = .exhausted ∧ (v.plan k).passesUsed < a.1.planner.passBudget := by
    rw [hbudget]
    exact Volume.gains_iff
  have hopen (k : Nat) : raised.openThen k = (v.summary k).opn + (List.range v.sectors).countP
      (fun j => decide ((v.record (k * v.sectors + j)).state = .lost)) :=
    congrArg ((v.summary k).opn + ·) (Volume.countP_trackSectors v k _)
  have hrecord {k j : Nat} (hk : k < v.trackCount) (hj : j < v.sectors) : a.1.record (k * v.sectors + j) =
      if raised.gains k = true ∧ (v.record (k * v.sectors + j)).state = .lost then
        Volume.reverted s.pool (v.record (k * v.sectors + j)) else v.record (k * v.sectors + j) := by
    have hpos : 0 < v.sectors := by omega
    have hindex : (k * v.sectors + j) / v.sectors = k := (div_eq_track_iff hpos).mpr ⟨j, hj, rfl⟩
    refine (hx.record _).trans ?_
    rw [show raised.sectors = v.sectors from rfl, hindex]
    have hiff : (0 < v.sectors ∧ k < raised.trackCount ∧ raised.gains k = true ∧
        (raised.record (k * v.sectors + j)).state = .lost) ↔
        (raised.gains k = true ∧ (v.record (k * v.sectors + j)).state = .lost) :=
      ⟨fun h => h.2.2, fun h => ⟨hpos, hk, h⟩⟩
    simp only [hiff]
    rfl
  refine ⟨_, { a.1 with planner := { a.1.planner with run := a.1.extendedRun } },
    exec_extend hids hacc hv (Volume.extend_eq v s.pool _ _ ha), ?told, ?frame,
    fun k hk => ⟨fun he hlow => ?gains, fun hno => ?keeps⟩, fun i hi => ?beyond, fun he hp => ?stops, fun hno => ?runs⟩
  case told =>
    have hmade : a.2 = (List.range v.trackCount).countP (fun k => decide ((v.plan k).state ≠ (a.1.plan k).state ∧
        (a.1.plan k).state = .pending)) := by
      rw [hcount]
      refine List.countP_congr fun k hk => ?_
      rw [hx.plan k, Bool.and_eq_true, decide_eq_true_iff, decide_eq_true_iff]
      by_cases hg : raised.gains k = true
      · have hstate : (v.plan k).state = .exhausted := ((hgains k).mp hg).1
        rw [if_pos ⟨List.mem_range.mp hk, hg⟩, hstate, Volume.stateThen]
        by_cases hpos : 0 < raised.openThen k <;> simp [hg, hpos]
      · rw [if_neg fun h => hg h.2]
        exact ⟨fun h => absurd h.1 hg, fun h => absurd rfl h.1⟩
    rw [hmade]
    rfl
  case frame =>
    rw [hx.frame]
    rfl
  case gains =>
    have hg : raised.gains k = true := (hgains k).mpr ⟨he, hlow⟩
    have hcond : k < raised.trackCount ∧ raised.gains k = true := ⟨hk, hg⟩
    have hopn : (a.1.summary k).opn = raised.openThen k := hx.opn k hk hg
    refine ⟨fun j hj r hr => ⟨fun hlost => ?_, fun hlost => ?_⟩, hopn.trans (hopen k), fun hpos => ⟨?_, ?_⟩,
      fun hzero => ⟨?_, ?_⟩⟩
    · exact (hrecord hk hj).trans ((if_neg fun h => hlost (hr ▸ h.2)).trans hr.symm)
    · refine (hrecord hk hj).trans ((if_pos ⟨hg, hr ▸ hlost⟩).trans ?_)
      rw [← hr, Volume.reverted, stateOfCandidates_eq]
    · refine (hx.plan k).trans ((if_pos hcond).trans ?_)
      rw [Volume.stateThen, if_pos (hopn ▸ hpos)]
      rfl
    · exact (hx.pending k).trans ((if_pos hcond).trans (decide_eq_true (hopn ▸ hpos)))
    · refine (hx.plan k).trans ((if_pos hcond).trans ?_)
      rw [Volume.stateThen, if_neg (Nat.not_lt.mpr (Nat.le_of_eq (hopn.symm.trans hzero)))]
      rfl
    · exact (hx.pending k).trans ((if_pos hcond).trans
        (decide_eq_false (Nat.not_lt.mpr (Nat.le_of_eq (hopn.symm.trans hzero)))))
  case keeps =>
    have hg : ¬ raised.gains k = true := fun h => hno.elim (absurd ((hgains k).mp h).1) (Nat.not_le_of_lt ((hgains k).mp h).2)
    have hcond : ¬ (k < raised.trackCount ∧ raised.gains k = true) := fun h => hg h.2
    exact ⟨(hx.plan k).trans (if_neg hcond), (hx.pending k).trans (if_neg hcond), hx.summary k hcond,
      fun j hj => (hrecord hk hj).trans (if_neg fun h => hg h.1)⟩
  case beyond =>
    refine (hx.record i).trans (if_neg ?_)
    rintro ⟨hpos, hlt, -⟩
    exact absurd hi (Nat.not_le_of_lt ((Nat.div_lt_iff_lt_mul hpos).mp hlt))
  case stops => exact if_pos ⟨hrun.trans he, hany.mpr hp⟩
  case runs =>
    refine (if_neg ?_).trans hrun
    rintro ⟨he, hp⟩
    obtain ⟨k, hk, hst⟩ := hany.mp hp
    exact hno.elim (absurd (hrun.symm.trans he)) fun hnone => hnone k hk hst

end Sys2Proof.Machine
end


/-! # EXCLUDE (R108, R109, R140) -/

section
/-! SUPPORT. The records of a range that EXCLUDE leaves, and the tracks whose plan entries follow their open counts. -/

namespace Sys2Proof.Machine

/-! ## One record (R108) -/

/-- Whether EXCLUDE changes a record of a state. -/
def excludeChanges (op : ExcludeOp) : RecordState → Bool
  | .settled => false
  | .excluded => decide (op ≠ .set)
  | _ => decide (op ≠ .clear)

/-- What an EXCLUDED record of an index becomes when it is cleared. -/
def Volume.clearedState (v : Volume) (i : Nat) : RecordState :=
  if (v.plan (i / v.sectors)).state = .exhausted then .lost else .unseen

/-- The state that EXCLUDE changes a record to. -/
def Volume.changedState (v : Volume) (i : Nat) : RecordState :=
  if (v.record i).state = .excluded then v.clearedState i else .excluded

/-- The record that EXCLUDE leaves. -/
def Volume.excludedRecord (v : Volume) (op : ExcludeOp) (i : Nat) : SectorRecord :=
  if excludeChanges op (v.record i).state then
    { v.record i with state := v.changedState i, candidates := [], fusionArmed := false }
  else v.record i

theorem Volume.excludedRecord_state (v : Volume) (op : ExcludeOp) (i : Nat) :
    (v.excludedRecord op i).state ≠ (v.record i).state ↔ excludeChanges op (v.record i).state = true := by
  unfold Volume.excludedRecord
  split
  · next h =>
    refine ⟨fun _ => h, fun _ => ?_⟩
    change v.changedState i ≠ _
    unfold Volume.changedState Volume.clearedState
    split
    · next hst => rw [hst]; split <;> nofun
    · next hst => exact Ne.symm hst
  · next h => exact ⟨fun hne => absurd rfl hne, fun hc => absurd hc h⟩

theorem Excluding.apply_eq (op : ExcludeOp) (a : Excluding) (i : Nat) : a.apply op i =
    if excludeChanges op (a.volume.record i).state then a.change i (a.volume.changedState i)
    else { a with skipped := a.skipped + if (a.volume.record i).state = .settled then 1 else 0 } := by
  unfold Excluding.apply Volume.changedState
  cases hst : (a.volume.record i).state with
  | settled => rfl
  | excluded => cases op <;> rfl
  | unseen | weak | contested | lost => cases op <;> rfl

/-! ## A range of records (R108) -/

/-- EXCLUDE at work, `m` indices of its range behind it. -/
structure Excluding.Reached (op : ExcludeOp) (v : Volume) (p : Pool) (first m : Nat) (a : Excluding) : Prop where
  move : v.RecordsMove a.volume
  form : mapOk .fresh a.volume.records = true
  record : ∀ i, a.volume.record i = if first ≤ i ∧ i < first + m then v.excludedRecord op i else v.record i
  pool : a.pool = p.giveBackAll ((List.range m).flatMap (fun k =>
    if excludeChanges op (v.record (first + k)).state then (v.record (first + k)).candidates else []))
  changed : a.changed = (List.range m).countP (fun k => excludeChanges op (v.record (first + k)).state)
  skipped : a.skipped = (List.range m).countP (fun k => decide ((v.record (first + k)).state = .settled))

section
variable {op : ExcludeOp} {v : Volume} {p : Pool} {first m : Nat} {a : Excluding}

theorem Excluding.Reached.next (h : Excluding.Reached op v p first m a) :
    Excluding.Reached op v p first (m + 1) (a.apply op (first + m)) := by
  have hrecord : a.volume.record (first + m) = v.record (first + m) :=
    (h.record _).trans (if_neg fun hc => Nat.lt_irrefl _ hc.2)
  have hstate : a.volume.changedState (first + m) = v.changedState (first + m) := by
    simp only [Volume.changedState, Volume.clearedState, hrecord, h.move.plan, h.move.sectors]
  have hrange (i : Nat) (hi : i ≠ first + m) : (first ≤ i ∧ i < first + (m + 1)) ↔ (first ≤ i ∧ i < first + m) := by omega
  have hlast : v.excludedRecord op (first + m) = if excludeChanges op (v.record (first + m)).state then
      { v.record (first + m) with state := v.changedState (first + m), candidates := [], fusionArmed := false }
      else v.record (first + m) := rfl
  rw [Excluding.apply_eq, hrecord, hstate]
  split
  · next hc =>
    rw [if_pos hc] at hlast
    refine ⟨h.move.trans (Volume.putRecord_recordsMove _ _ _), Volume.putRecord_records_ok h.form, fun i => ?_, ?_, ?_, ?_⟩
    · refine (Volume.record_putRecord h.form i).trans ?_
      by_cases hi : i = first + m
      · rw [if_pos hi, hi, if_pos ⟨Nat.le_add_right _ _, by omega⟩, hlast, hrecord]
      · rw [if_neg hi, h.record]
        simp only [hrange i hi]
    · change a.pool.giveBackAll (a.volume.record (first + m)).candidates = _
      rw [h.pool, hrecord, List.range_succ, List.flatMap_append, Pool.giveBackAll, Pool.giveBackAll, Pool.giveBackAll,
        ← List.foldl_append]
      simp only [List.flatMap_cons, List.flatMap_nil, List.append_nil, if_pos hc]
    · change a.changed + 1 = _
      rw [h.changed, List.range_succ, List.countP_append, List.countP_singleton, if_pos hc]
    · change a.skipped = _
      have hns : (v.record (first + m)).state ≠ .settled := fun hs => by rw [hs] at hc; cases hc
      rw [h.skipped, List.range_succ, List.countP_append, List.countP_singleton, if_neg (by simpa using hns)]
      rfl
  · next hc =>
    rw [if_neg hc] at hlast
    refine ⟨h.move, h.form, fun i => ?_, ?_, ?_, ?_⟩
    · by_cases hi : i = first + m
      · subst hi
        have hin : first ≤ first + m ∧ first + m < first + (m + 1) := ⟨Nat.le_add_right _ _, by omega⟩
        rw [if_pos hin, hlast]
        exact hrecord
      · refine (h.record i).trans ?_
        simp only [hrange i hi]
    · refine h.pool.trans ?_
      rw [List.range_succ, List.flatMap_append]
      simp only [List.flatMap_cons, List.flatMap_nil, if_neg hc, List.append_nil]
    · refine h.changed.trans ?_
      rw [List.range_succ, List.countP_append, List.countP_singleton, if_neg hc]
      rfl
    · change a.skipped + _ = _
      rw [h.skipped, List.range_succ, List.countP_append, List.countP_singleton]
      simp only [decide_eq_true_iff]

theorem excludeRange_reached (op : ExcludeOp) (p : Pool) (first : Nat) (h : mapOk .fresh v.records = true) (m : Nat) :
    Excluding.Reached op v p first m (excludeRange op v p first m) := by
  induction m with
  | zero =>
    refine ⟨.refl v, h, fun i => (if_neg (by omega)).symm, rfl, rfl, rfl⟩
  | succ m ih =>
    have hstep : excludeRange op v p first (m + 1) = (excludeRange op v p first m).apply op (first + m) := by
      unfold excludeRange
      rw [List.range_succ, List.map_append, List.foldl_append]
      rfl
    rw [hstep]
    exact ih.next

end

/-! ## Plan entries that follow an open count (R140) -/

namespace Volume

/-- Whether a track's plan entry changes as its open count is told: PENDING with none open, or DONE with some. -/
def flips (v : Volume) (k : Nat) : Bool :=
  decide ((v.plan k).state = .pending ∧ (v.summary k).opn = 0) || decide ((v.plan k).state = .done ∧ (v.summary k).opn ≠ 0)

/-- The state it changes to. -/
def flippedState (v : Volume) (k : Nat) : TrackState := if (v.plan k).state = .pending then .done else .pending

/-- The run state of a volume with a DONE track PENDING again. -/
def resumed : RunState → RunState
  | .complete => .stopped
  | .endedPartial => .stopped
  | r => r

/-- The volume with that plan entry changed. -/
def flip (v : Volume) (k : Nat) : Volume :=
  (v.setTrackState k (v.flippedState k)).setPlanner (fun a => { a with
    run := if (v.plan k).state = .pending then a.run else resumed a.run })

/-- The payload of the TRACK notice that tells it. -/
def flipNotice (v : Volume) (ch : Chan) (k : Nat) : List Byte :=
  b1 ch.val ++ le4 v.tag ++ le2 k ++ b1 (trackStateByte (v.flippedState k)) ++ b1 (v.plan k).passesUsed ++
    b1 (v.plan k).ladderStep ++ le2 (v.summary k).opn ++ le2 (v.summary k).settled ++ le2 (v.summary k).lost ++
    le2 (v.summary k).excluded

section
variable {v : Volume} {k : Nat}

theorem resumed_resumed (r : RunState) : resumed (resumed r) = resumed r := by cases r <;> rfl

theorem flip_plan_same (h : k < v.planner.tracks.length) :
    (v.flip k).plan k = { v.plan k with state := v.flippedState k } :=
  setTrackState_plan_same h

theorem flip_plan_ne {j : Nat} (h : j ≠ k) : (v.flip k).plan j = v.plan j := setTrackState_plan_ne h

theorem flip_isPending_same (h : k < v.planner.pendingMap.length) :
    (v.flip k).isPending k = decide (v.flippedState k = .pending) := by
  refine (setTrackState_isPending_same h).trans ?_
  unfold flippedState
  split <;> rfl

theorem flip_isPending_ne {j : Nat} (h : j ≠ k) : (v.flip k).isPending j = v.isPending j := setTrackState_isPending_ne h

theorem flip_tracks_length : (v.flip k).planner.tracks.length = v.planner.tracks.length := setTrackState_tracks_length
theorem flip_pendingMap_length : (v.flip k).planner.pendingMap.length = v.planner.pendingMap.length :=
  setTrackState_pendingMap_length

theorem flip_frame : v.flip k = { v with planner := { v.planner with
    run := (v.flip k).planner.run, tracks := (v.flip k).planner.tracks, pendingMap := (v.flip k).planner.pendingMap } } := by
  unfold flip
  rw [setTrackState_eq]
  rfl

theorem flip_other {j : Nat} (h : j ≠ k) : (v.flip k).flips j = v.flips j ∧ (v.flip k).flippedState j = v.flippedState j := by
  have hsummary : (v.flip k).summary j = v.summary j := rfl
  simp only [flips, flippedState, flip_plan_ne h, hsummary, and_self]

theorem flip_notice (ch : Chan) {j : Nat} (h : j ≠ k) : (v.flip k).flipNotice ch j = v.flipNotice ch j := by
  rw [flipNotice, (flip_other h).2, flip_plan_ne h]
  rfl

end

end Volume

section
variable {s : State} {ch : Chan} {v : Volume} {k : Nat}

/-- The planner told of one track's open count: its entry changed and a TRACK notice handed, or nothing. -/
theorem State.tellOpenCount_eq (hv : s.volume ch = some v) (hk : k < v.planner.tracks.length) : s.tellOpenCount ch k =
    if v.flips k then (s.setVolume ch (some (v.flip k))).notify ch .track (v.flipNotice ch k) else s := by
  have hnotice {w : Volume} (hw : w = v.flip k) :
      (s.setVolume ch (some w)).trackNotice ch w k =
        (s.setVolume ch (some (v.flip k))).notify ch .track (v.flipNotice ch k) := by
    subst hw
    rw [State.trackNotice, Volume.flip_plan_same hk]
    rfl
  unfold State.tellOpenCount
  simp only [hv]
  cases hst : (v.plan k).state with
  | active => exact (if_neg (by simp [Volume.flips, hst])).symm
  | exhausted => exact (if_neg (by simp [Volume.flips, hst])).symm
  | pending =>
    by_cases hopn : (v.summary k).opn = 0
    · have hflips : v.flips k = true := by simp [Volume.flips, hst, hopn]
      rw [if_pos hflips]
      refine (if_pos hopn).trans (hnotice (w := v.setTrackState k .done) ?_)
      rw [Volume.flip, Volume.flippedState, if_pos hst]
      simp only [if_pos hst]
      rfl
    · exact (if_neg hopn).trans (if_neg (by simp [Volume.flips, hst, hopn])).symm
  | done =>
    by_cases hopn : (v.summary k).opn = 0
    · exact (if_pos hopn).trans (if_neg (by simp [Volume.flips, hst, hopn])).symm
    · have hflips : v.flips k = true := by simp [Volume.flips, hst, hopn]
      rw [if_pos hflips]
      refine (if_neg hopn).trans (hnotice ?_)
      have hnot : ¬ (v.plan k).state = .pending := by rw [hst]; nofun
      rw [Volume.flip, Volume.flippedState, if_neg hnot]
      simp only [if_neg hnot]
      rfl

end

/-! ## The tracks whose open counts changed (R109, R140) -/

namespace Volume

/-- The plan entries of a list of tracks changed. -/
def flipAll (v : Volume) (l : List Nat) : Volume := l.foldl flip v

/-- A volume whose plan entries of a list are changed. -/
structure Flipped (v : Volume) (l : List Nat) (w : Volume) : Prop where
  frame : w = { v with planner := { v.planner with
    run := w.planner.run, tracks := w.planner.tracks, pendingMap := w.planner.pendingMap } }
  plan : ∀ k, w.plan k = if k ∈ l then { v.plan k with state := v.flippedState k } else v.plan k
  pending : ∀ k, w.isPending k = if k ∈ l then decide (v.flippedState k = .pending) else v.isPending k
  run : w.planner.run = if l.any (fun k => decide ((v.plan k).state ≠ .pending)) then resumed v.planner.run
    else v.planner.run

theorem flipAll_flipped {v : Volume} {l : List Nat} (hnd : l.Nodup) (ht : ∀ k ∈ l, k < v.planner.tracks.length)
    (hp : ∀ k ∈ l, k < v.planner.pendingMap.length) : v.Flipped l (v.flipAll l) := by
  induction l generalizing v with
  | nil => exact ⟨rfl, fun _ => rfl, fun _ => rfl, rfl⟩
  | cons k l ih =>
    rw [List.nodup_cons] at hnd
    have hne {j : Nat} (hj : j ∈ l) : j ≠ k := fun he => hnd.1 (he ▸ hj)
    obtain ⟨hframe, hplan, hpending, hrun⟩ := ih (v := v.flip k) hnd.2
      (fun j hj => by rw [flip_tracks_length]; exact ht j (List.mem_cons_of_mem _ hj))
      (fun j hj => by rw [flip_pendingMap_length]; exact hp j (List.mem_cons_of_mem _ hj))
    refine ⟨?_, fun j => (hplan j).trans ?_, fun j => (hpending j).trans ?_, hrun.trans ?_⟩
    · refine hframe.trans ?_
      rw [flip_frame]
      rfl
    · by_cases hj : j = k
      · subst hj
        rw [if_neg hnd.1, if_pos List.mem_cons_self, flip_plan_same (ht j List.mem_cons_self)]
      · simp only [(flip_other hj).2, flip_plan_ne hj, List.mem_cons, hj, false_or]
    · by_cases hj : j = k
      · subst hj
        rw [if_neg hnd.1, if_pos List.mem_cons_self, flip_isPending_same (hp j List.mem_cons_self)]
      · simp only [(flip_other hj).2, flip_isPending_ne hj, List.mem_cons, hj, false_or]
    · have hany : l.any (fun j => decide (((v.flip k).plan j).state ≠ .pending)) =
          l.any (fun j => decide ((v.plan j).state ≠ .pending)) := by
        rw [Bool.eq_iff_iff, List.any_eq_true, List.any_eq_true]
        exact exists_congr fun j => and_congr_right fun hj => by rw [flip_plan_ne (hne hj)]
      have hone : (v.flip k).planner.run = if (v.plan k).state = .pending then v.planner.run else resumed v.planner.run := rfl
      rw [hany, hone, List.any_cons]
      by_cases hst : (v.plan k).state = .pending
      · simp [hst]
      · simp [hst, resumed_resumed]

end Volume

theorem Volume.Flipped.frame_of_move {v x w : Volume} {l : List Nat} (hw : x.Flipped l w) (hm : v.RecordsMove x) :
    w = { v.withRecordsOf w with planner := w.planner } := by
  have hplanner : w = { x with planner := w.planner } := by rw [hw.frame]
  have hrecords : v.withRecordsOf w = v.withRecordsOf x := by
    rw [hplanner]
    rfl
  rw [hrecords, ← hm]
  exact hplanner

/-- The planner told of the open counts of a list of tracks, in its order. -/
theorem State.foldl_tellOpenCount {s : State} {ch : Chan} {v : Volume} {l : List Nat} (hv : s.volume ch = some v)
    (hnd : l.Nodup) (hl : ∀ k ∈ l, k < v.planner.tracks.length) :
    l.foldl (fun u k => u.tellOpenCount ch k) s = (s.setVolume ch (some (v.flipAll (l.filter v.flips)))).setLink
      ((l.filter v.flips).foldl (fun n k => n.notify s.selfTest.partFailed ch .track (v.flipNotice ch k)) s.link) := by
  induction l generalizing s v with
  | nil =>
    have hself : qset s.volumes ch (some v) = s.volumes := by
      rw [← hv]
      exact qset_qget _ _
    exact (congrArg (fun q => ({ s with volumes := q } : State)) hself).symm
  | cons k l ih =>
    rw [List.nodup_cons] at hnd
    have hne {j : Nat} (hj : j ∈ l) : j ≠ k := fun he => hnd.1 (he ▸ hj)
    have hrest (j : Nat) (hj : j ∈ l) : j < v.planner.tracks.length := hl j (List.mem_cons_of_mem _ hj)
    rw [List.foldl_cons, State.tellOpenCount_eq hv (hl k List.mem_cons_self), List.filter_cons]
    cases hflips : v.flips k with
    | false => exact ih hv hnd.2 hrest
    | true =>
      rw [if_pos rfl, if_pos rfl, ih (v := v.flip k) (by rw [State.notify_volume, State.setVolume_volume]) hnd.2
        (fun j hj => by rw [Volume.flip_tracks_length]; exact hrest j hj)]
      have hfilter : l.filter (v.flip k).flips = l.filter v.flips :=
        List.filter_congr fun j hj => (Volume.flip_other (hne hj)).1
      have hlink (n : Link) : (l.filter v.flips).foldl
          (fun n j => n.notify s.selfTest.partFailed ch .track ((v.flip k).flipNotice ch j)) n =
          (l.filter v.flips).foldl (fun n j => n.notify s.selfTest.partFailed ch .track (v.flipNotice ch j)) n := by
        refine List.foldl_ext _ _ _ fun n j hj => ?_
        rw [Volume.flip_notice ch (hne (List.mem_of_mem_filter hj))]
      rw [hfilter]
      refine (congrArg (State.setLink _) (hlink _)).trans ?_
      rw [List.foldl_cons]
      simp only [State.setVolume, State.setLink, State.notify, qset_qset]
      rfl

/-! ## EXCLUDE (R108, R109, R140) -/

theorem excludeOpOf_none {n : Nat} (h : 2 < n) : excludeOpOf n = none := by
  match n, h with
  | _ + 3, _ => rfl

/-- The operation an EXCLUDE's byte names. -/
theorem excludeOpOf_some {n : Nat} (h : n ≤ 2) : ∃ op, excludeOpOf n = some op ∧ (op = .set ↔ n = 0) ∧ (op = .clear ↔ n = 1) := by
  match n, h with
  | 0, _ => exact ⟨.set, rfl, by simp, by simp⟩
  | 1, _ => exact ⟨.clear, rfl, by simp, by simp⟩
  | 2, _ => exact ⟨.toggle, rfl, by simp, by simp⟩

section
variable {s : State} {tag f0 f1 c0 c1 o : Byte} {ch : Chan} {v : Volume}

theorem exec_exclude_range (hids : s.link.idsFresh) (hacc : Accepts s 0x22 [chanByte ch, f0, f1, c0, c1, o])
    (hv : s.volume ch = some v)
    (h : 2 < o.toNat ∨ v.size ≤ f0.toNat + 256 * f1.toNat ∨ c0.toNat + 256 * c1.toNat = 0) :
    exec (.exclude tag [chanByte ch, f0, f1, c0, c1, o]) s = .next (s.answered 0x22 tag .range []) := by
  refine congrArg Host.Outcome.next ((State.withRequest_mounted hacc hv _).trans ?_)
  rw [← State.setLink_accepted_reply hids]
  by_cases hop : 2 < o.toNat
  · have hnone : excludeOpOf (byteAt [chanByte ch, f0, f1, c0, c1, o] 5) = none := excludeOpOf_none hop
    simp only [hnone]
  · obtain ⟨op, hsome, -, -⟩ := excludeOpOf_some (Nat.not_lt.mp hop)
    have hsome : excludeOpOf (byteAt [chanByte ch, f0, f1, c0, c1, o] 5) = some op := hsome
    simp only [hsome]
    exact if_pos (h.resolve_left hop)

/-- An EXCLUDE that passes its tests: the range rewritten, the planner told, and the reply. -/
theorem exec_exclude_applies {op : ExcludeOp} {a : Excluding} {first count taken : Nat}
    (hacc : Accepts s 0x22 [chanByte ch, f0, f1, c0, c1, o]) (hv : s.volume ch = some v)
    (hop : excludeOpOf o.toNat = some op) (hfirst : f0.toNat + 256 * f1.toNat = first)
    (hcount : c0.toNat + 256 * c1.toNat = count) (hin : first < v.size) (hpos : 0 < count)
    (htaken : min count (v.size - first) = taken) (ha : excludeRange op v s.pool first taken = a)
    (ht : ∀ k, k < a.volume.trackCount → k < a.volume.planner.tracks.length) :
    exec (.exclude tag [chanByte ch, f0, f1, c0, c1, o]) s = .next { s with
      volumes := qset s.volumes ch (some (a.volume.flipAll ((changedTracks v a.volume).filter a.volume.flips)))
      pool := a.pool
      link := (((changedTracks v a.volume).filter a.volume.flips).foldl
        (fun n k => n.notify s.selfTest.partFailed ch .track (a.volume.flipNotice ch k)) (s.link.accepted 0x22 tag)).reply
          s.fetching s.link.nextId .ok (le2 taken ++ le2 a.changed ++ le2 a.skipped) } := by
  have hsome : excludeOpOf (byteAt [chanByte ch, f0, f1, c0, c1, o] 5) = some op := hop
  have hstart : le2At [chanByte ch, f0, f1, c0, c1, o] 1 = first := hfirst
  have hnumber : le2At [chanByte ch, f0, f1, c0, c1, o] 3 = count := hcount
  refine congrArg Host.Outcome.next ((State.withRequest_mounted hacc hv _).trans ?_)
  simp only [hsome, hstart, hnumber, htaken, State.setLink_pool, ha]
  refine (if_neg (not_or.mpr ⟨Nat.not_le.mpr hin, Nat.pos_iff_ne_zero.mp hpos⟩)).trans ?_
  rw [State.foldl_tellOpenCount (s := ((s.setLink (s.link.accepted 0x22 tag)).setVolume ch (some a.volume)).setPool a.pool)
    (v := a.volume) (l := changedTracks v a.volume) (by exact State.setVolume_volume _ _ _) ((List.nodup_range).filter _)
    (fun k hk => ht k (List.mem_range.mp (List.mem_of_mem_filter hk)))]
  simp only [State.setVolume, State.setLink, State.setPool, State.reply, qset_qset]
  rfl

end

/-- The tracks whose plan entries change are those that EXCLUDE tells and that change as they are told. -/
theorem Volume.flipped_filter {v x w : Volume} (hplan : ∀ k, x.plan k = v.plan k) (hcount : x.trackCount = v.trackCount)
    (hw : x.Flipped ((changedTracks v x).filter x.flips) w) : (changedTracks v x).filter x.flips =
      (List.range v.trackCount).filter (fun k => decide ((w.plan k).state ≠ (v.plan k).state)) := by
  rw [changedTracks, List.filter_filter, hcount]
  refine List.filter_congr fun k hk => ?_
  have hmem : k ∈ (changedTracks v x).filter x.flips ↔ (x.flips k && decide ((v.summary k).opn ≠ (x.summary k).opn)) = true := by
    rw [changedTracks, List.filter_filter, List.mem_filter, hcount]
    exact and_iff_right hk
  rw [hw.plan k, Bool.eq_iff_iff, ← hmem, decide_eq_true_iff]
  by_cases hin : k ∈ (changedTracks v x).filter x.flips
  · rw [if_pos hin]
    refine iff_of_true hin ?_
    change x.flippedState k ≠ _
    rw [Volume.flippedState, hplan]
    split
    · next hst => rw [hst]; nofun
    · next hst => exact Ne.symm hst
  · rw [if_neg hin, hplan]
    exact iff_of_false hin (not_not_intro rfl)

/-- Settles O42: EXCLUDE by induction over its range, then over the tracks whose open counts changed. -/
theorem excludeApplies : Obligations.ExcludeApplies := by
  intro s tag f0 f1 c0 c1 o ch v hids hacc hv hform htracks hpending first count taken
  refine ⟨fun h => exec_exclude_range hids hacc hv h, fun ho hin hpos => ?_⟩
  obtain ⟨op, hop, hset, hclear⟩ := excludeOpOf_some ho
  have ha := excludeRange_reached op s.pool first hform taken
  generalize hx : excludeRange op v s.pool first taken = a at ha
  have hplanner : a.volume.planner = v.planner := ha.move.planner
  have hlength : ∀ k, k < a.volume.trackCount → k < a.volume.planner.tracks.length := fun k hk => by
    rw [hplanner, htracks, ← ha.move.trackCount]
    exact hk
  have hin_of {k : Nat} (hk : k ∈ (changedTracks v a.volume).filter a.volume.flips) : k < a.volume.trackCount :=
    List.mem_range.mp (List.mem_of_mem_filter (List.mem_of_mem_filter hk))
  have hw : a.volume.Flipped ((changedTracks v a.volume).filter a.volume.flips) _ :=
    Volume.flipAll_flipped ((List.nodup_range.filter _).filter _) (fun k hk => hlength k (hin_of hk)) (fun k hk => by
      rw [hplanner, hpending, ← ha.move.trackCount]
      exact hin_of hk)
  have hexec := exec_exclude_applies (tag := tag) hacc hv hop rfl rfl hin hpos rfl hx hlength
  have hfilter := Volume.flipped_filter ha.move.plan ha.move.trackCount hw
  generalize hflip : a.volume.flipAll ((changedTracks v a.volume).filter a.volume.flips) = w at hw hexec hfilter
  have hrecord (i : Nat) : w.record i = a.volume.record i := by rw [hw.frame]; rfl
  have hsummary (k : Nat) : w.summary k = a.volume.summary k := by rw [hw.frame]; rfl
  have hinside {k : Nat} (hk : k < taken) : w.record (first + k) = v.excludedRecord op (first + k) :=
    (hrecord _).trans ((ha.record _).trans (if_pos ⟨Nat.le_add_right _ _, Nat.add_lt_add_left hk _⟩))
  have hchanged {k : Nat} (hk : k < taken) : (w.record (first + k)).state ≠ (v.record (first + k)).state ↔
      excludeChanges op (v.record (first + k)).state = true := by
    rw [hinside hk]
    exact v.excludedRecord_state op _
  have hplan (k : Nat) : w.plan k = if k ∈ (changedTracks v a.volume).filter a.volume.flips then
      { v.plan k with state := a.volume.flippedState k } else v.plan k := by
    rw [hw.plan, ha.move.plan]
  refine ⟨_, w, hexec, qget_qset_same _ _ _, ?frame, rfl, fun k hk => qget_qset_ne _ _ _ _ hk, fun i hi => ?outside,
    fun i hlo hhi r hr => ?inside, ?pool, ?planner, fun k hk e he n hn => ?tracks, fun hagain hrun => ?resumes,
    fun hno => ?runs, ?link⟩
  case frame =>
    exact hw.frame_of_move ha.move
  case outside =>
    refine (hrecord i).trans ((ha.record i).trans (if_neg ?_))
    rintro ⟨hlo, hhi⟩
    exact hi.elim (Nat.not_lt.mpr hlo) (Nat.not_le.mpr hhi)
  case inside =>
    have hmine : w.record i = v.excludedRecord op i := (hrecord i).trans ((ha.record i).trans (if_pos ⟨hlo, hhi⟩))
    have hkept (h : excludeChanges op (v.record i).state = false) : w.record i = r := by
      rw [hmine, Volume.excludedRecord, h, hr]
      rfl
    have hwritten (h : excludeChanges op (v.record i).state = true) :
        w.record i = { v.record i with state := v.changedState i, candidates := [], fusionArmed := false } :=
      hmine.trans (if_pos h)
    subst hr
    refine ⟨fun hs => hkept (by rw [hs]; rfl), fun hs h0 => hkept ?_, fun hs h0 => ?_, fun hs he h1 => hkept ?_,
      fun hs he h1 => ?_⟩
    · rw [hs, excludeChanges, hset.mpr h0]
      rfl
    · rw [hwritten (by rw [hs]; exact decide_eq_true fun h => h0 (hset.mp h)), Volume.changedState, if_pos hs]
      rfl
    · rw [hclear.mpr h1]
      cases hst : (v.record i).state with
      | settled => exact absurd hst hs
      | excluded => exact absurd hst he
      | unseen | weak | contested | lost => rfl
    · have hop1 : op ≠ .clear := fun h => h1 (hclear.mp h)
      rw [hwritten ?_, Volume.changedState, if_neg he]
      cases hst : (v.record i).state with
      | settled => exact absurd hst hs
      | excluded => exact absurd hst he
      | unseen | weak | contested | lost => exact decide_eq_true hop1
  case pool =>
    refine ha.pool.trans (congrArg _ (List.flatMap_congr fun k hk => ?_))
    have hiff := hchanged (List.mem_range.mp hk)
    by_cases hc : excludeChanges op (v.record (first + k)).state = true
    · rw [if_pos hc, if_neg (hiff.mpr hc)]
    · rw [if_neg hc, if_pos (not_not.mp fun h => hc (hiff.mp h))]
  case planner =>
    have hframe : w.planner = { a.volume.planner with
      run := w.planner.run, tracks := w.planner.tracks, pendingMap := w.planner.pendingMap } := by
      rw [hw.frame]
    rw [← hplanner]
    exact hframe
  case tracks =>
    subst he
    have hopn : n = (a.volume.summary k).opn := hn.trans (by rw [hsummary])
    have hmem : k ∈ (changedTracks v a.volume).filter a.volume.flips ↔
        a.volume.flips k = true ∧ n ≠ (v.summary k).opn := by
      rw [List.mem_filter, changedTracks, List.mem_filter, List.mem_range, decide_eq_true_iff, hopn, ha.move.trackCount]
      exact ⟨fun h => ⟨h.2, Ne.symm h.1.2⟩, fun h => ⟨⟨hk, Ne.symm h.2⟩, h.1⟩⟩
    have hflips : a.volume.flips k = true ↔
        ((v.plan k).state = .pending ∧ n = 0) ∨ ((v.plan k).state = .done ∧ n ≠ 0) := by
      rw [Volume.flips, Bool.or_eq_true, decide_eq_true_iff, decide_eq_true_iff, ha.move.plan, ← hopn]
    have hkept (h : ¬ (a.volume.flips k = true ∧ n ≠ (v.summary k).opn)) :
        w.plan k = v.plan k ∧ w.isPending k = v.isPending k := by
      refine ⟨(hplan k).trans (if_neg fun hin => h (hmem.mp hin)), ?_⟩
      rw [hw.pending, if_neg fun hin => h (hmem.mp hin), ha.move.isPending]
    have hflipped (h : a.volume.flips k = true) (hne : n ≠ (v.summary k).opn) {st : TrackState}
        (hst : a.volume.flippedState k = st) :
        w.plan k = { v.plan k with state := st } ∧ w.isPending k = decide (st = .pending) := by
      have hin := hmem.mpr ⟨h, hne⟩
      refine ⟨(hplan k).trans ((if_pos hin).trans (by rw [hst])), ?_⟩
      rw [hw.pending, if_pos hin, hst]
    have hstate : a.volume.flippedState k = if (v.plan k).state = .pending then .done else .pending := by
      rw [Volume.flippedState, ha.move.plan]
    refine ⟨fun hsame => hkept fun h => h.2 hsame, fun hne => ⟨fun hst hz => ?_, fun hst hpos => ?_, fun hst => ?_,
      fun hst hpos => ?_, fun hst hz => ?_⟩⟩
    · exact hflipped (hflips.mpr (.inl ⟨hst, hz⟩)) hne (hstate.trans (if_pos hst))
    · refine hkept fun h => ?_
      rcases hflips.mp h.1 with ⟨-, hz⟩ | ⟨hd, -⟩
      · exact Nat.ne_of_gt hpos hz
      · exact nomatch hst.symm.trans hd
    · refine hkept fun h => ?_
      rcases hflips.mp h.1 with ⟨hp, -⟩ | ⟨hd, -⟩
      · exact hst.elim (fun ha => nomatch ha.symm.trans hp) fun ha => nomatch ha.symm.trans hp
      · exact hst.elim (fun ha => nomatch ha.symm.trans hd) fun ha => nomatch ha.symm.trans hd
    · exact hflipped (hflips.mpr (.inr ⟨hst, Nat.ne_of_gt hpos⟩)) hne
        (by rw [hstate, if_neg fun hp : (v.plan k).state = .pending => nomatch hst.symm.trans hp])
    · refine hkept fun h => ?_
      rcases hflips.mp h.1 with ⟨hp, -⟩ | ⟨-, hnz⟩
      · exact nomatch hst.symm.trans hp
      · exact hnz hz
  case resumes =>
    obtain ⟨k, hk, hdone, hpend⟩ := hagain
    have hin : k ∈ (changedTracks v a.volume).filter a.volume.flips := by
      by_contra hnot
      rw [hplan, if_neg hnot, hdone] at hpend
      cases hpend
    have hany : ((changedTracks v a.volume).filter a.volume.flips).any
        (fun k => decide ((a.volume.plan k).state ≠ .pending)) = true :=
      List.any_eq_true.mpr ⟨k, hin, by rw [ha.move.plan, hdone]; rfl⟩
    rw [hw.run, if_pos hany, hplanner]
    rcases hrun with h | h <;> rw [h] <;> rfl
  case runs =>
    rw [hw.run, hplanner]
    split
    · next hany =>
      obtain ⟨k, hin, hst⟩ := List.any_eq_true.mp hany
      have hnot : ¬ (v.plan k).state = .pending := by
        rw [← ha.move.plan]
        exact of_decide_eq_true hst
      have hdone : (v.plan k).state = .done := by
        have hflips := (List.mem_filter.mp hin).2
        rw [Volume.flips, Bool.or_eq_true, decide_eq_true_iff, decide_eq_true_iff, ha.move.plan] at hflips
        exact (hflips.resolve_left fun h => hnot h.1).1
      have hagain : (w.plan k).state = .pending := by
        rw [hplan, if_pos hin]
        change a.volume.flippedState k = _
        rw [Volume.flippedState, ha.move.plan, if_neg hnot]
      have hk : k < v.trackCount := ha.move.trackCount ▸ hin_of hin
      obtain ⟨hc, he⟩ := hno.resolve_left fun hn => hn ⟨k, hk, hdone, hagain⟩
      cases hr : v.planner.run with
      | complete => exact absurd hr hc
      | endedPartial => exact absurd hr he
      | stopped | running | pausing | paused | halted => rfl
    · rfl
  case link =>
    have hchangedCount : a.changed = (List.range taken).countP
        (fun k => decide ((w.record (first + k)).state ≠ (v.record (first + k)).state)) := by
      rw [ha.changed]
      refine List.countP_congr fun k hk => ?_
      rw [decide_eq_true_iff]
      exact (hchanged (List.mem_range.mp hk)).symm
    dsimp only
    rw [hchangedCount, ha.skipped, ← hfilter]
    refine congrArg (fun l : Link => l.reply _ _ _ _) (List.foldl_ext _ _ _ fun n k hk => ?_)
    have htag : a.volume.tag = v.tag := by rw [ha.move]; rfl
    rw [Volume.flipNotice, hplan, if_pos hk, hsummary, htag, ha.move.plan]

end Sys2Proof.Machine
end


/-! # START (R26, R49, R104, R132, R133, R135, R136, R142) -/

section
/-! SUPPORT. The planner's choice by phase, the tracks it exhausts on the way, and how a channel takes its order. -/

namespace Sys2Proof.Machine

/-! ## The cost of a pass (R132) -/

theorem passCost_eq (p : Profile) (c : Channel) (step : Nat) : passCost p c step =
    if p.medium = .cartridge then
      if c.positionKnown = false ∨ c.recal ≠ none ∨ c.tapeEnd = .bot ∨ (c.tapeEnd = .eot ∧ p.reverseAllowed = true) then 1
      else 2
    else if step = 5 then 3 else 1 := by
  cases hm : p.medium with
  | floppySoft => simp [passCost, ladderRevolutions, hm]
  | floppyHard => simp [passCost, ladderRevolutions, hm]
  | cartridge =>
    have hcost : passCost p c step = 1 + (orderDirection p c).2.toNat := by simp only [passCost, hm]
    rw [hcost, if_pos rfl]
    by_cases hu : c.positionKnown = false ∨ c.recal ≠ none
    · rw [orderDirection_notKnown hm hu, if_pos (hu.imp_right .inl)]
      rfl
    · have hknown : ¬ (¬ c.positionKnown = true ∨ c.recal.isSome = true) := by
        simpa [Option.isSome_iff_ne_none] using hu
      obtain ⟨hk, hr⟩ := not_or.mp hu
      simp only [orderDirection, hm, if_neg hknown]
      cases c.tapeEnd <;> cases p.reverseAllowed <;> simp [hk, hr]

/-! ## The choice by phase (R133, R134) -/

namespace Volume

/-- The lowest pending track at or above the cursor, in SURVEY (R133). -/
def Surveyed (w : Volume) (k : Nat) : Prop := w.planner.phase = .survey ∧ w.planner.surveyCursor ≤ k ∧ k < w.trackCount ∧
  w.isPending k = true ∧ ∀ j, w.planner.surveyCursor ≤ j → j < k → w.isPending j = false

/-- RECOVERY entered where SURVEY finds no track. -/
def entered (w : Volume) : Volume :=
  match w.planner.phase with
  | .recovery => w
  | .survey => { w with planner := { w.planner with phase := .recovery, sweep := .down } }

/-- A volume with the sweep that RECOVERY's choice leaves. -/
def swept (w : Volume) : Volume :=
  { w.entered with planner := { w.entered.planner with sweep := w.entered.recoveryChoice.2 } }

/-- The planner chooses track `k`, and leaves the volume as `x`. -/
def Chosen (w : Volume) (k : Nat) (x : Volume) : Prop :=
  (w.Surveyed k ∧ x = w) ∨ ((∀ j, ¬ w.Surveyed j) ∧ w.entered.recoveryChoice.1 = some k ∧ x = w.swept)

section
variable {w x : Volume} {k : Nat}

theorem surveyed_iff (hp : w.planner.phase = .survey) :
    w.Surveyed k ↔ w.pendingUp (w.trackCount - w.planner.surveyCursor) w.planner.surveyCursor = some k := by
  rw [pendingUp_eq_some]
  constructor
  · rintro ⟨-, hlow, hhigh, hpk, hnone⟩
    exact ⟨hlow, by omega, hpk, hnone⟩
  · rintro ⟨hlow, hhigh, hpk, hnone⟩
    exact ⟨hp, hlow, by omega, hpk, hnone⟩

theorem choice_surveyed (h : w.Surveyed k) : w.choice = (some k, w) := by
  simp only [choice, h.1, (surveyed_iff h.1).mp h]

theorem choice_recovery (h : ∀ j, ¬ w.Surveyed j) : w.choice = (w.entered.recoveryChoice.1, w.swept) := by
  cases hp : w.planner.phase with
  | recovery =>
    have hentered : w.entered = w := by simp only [entered, hp]
    rw [swept, hentered]
    unfold choice
    split
    · rfl
    · next hs => exact nomatch hp.symm.trans hs
  | survey =>
    have hnone : w.pendingUp (w.trackCount - w.planner.surveyCursor) w.planner.surveyCursor = none :=
      Option.eq_none_iff_forall_ne_some.mpr fun j hj => h j ((surveyed_iff hp).mpr hj)
    simp only [choice, swept, entered, hp, hnone]
    rfl

theorem Chosen.choice (h : w.Chosen k x) : w.choice = (some k, x) := by
  rcases h with ⟨hs, rfl⟩ | ⟨hs, hk, rfl⟩
  · exact choice_surveyed hs
  · rw [choice_recovery hs, hk]

theorem entered_frame (w : Volume) : w.entered = { w with planner := { w.planner with
    phase := .recovery, sweep := w.entered.planner.sweep } } := by
  unfold entered
  split
  · next hp => rw [← hp]
  · rfl

theorem entered_isPending (w : Volume) (k : Nat) : w.entered.isPending k = w.isPending k := by
  rw [entered_frame]
  rfl

theorem swept_frame (w : Volume) : w.swept = { w with planner := { w.planner with
    phase := .recovery, sweep := w.swept.planner.sweep } } := by
  unfold swept
  rw [entered_frame]

theorem Chosen.frame (h : w.Chosen k x) : x = { w with planner := { w.planner with
    phase := x.planner.phase, sweep := x.planner.sweep } } := by
  rcases h with ⟨hs, rfl⟩ | ⟨hs, hk, rfl⟩
  · rfl
  · rw [swept_frame]

theorem isPending_of_recoveryChoice (h : w.recoveryChoice.1 = some k) : w.isPending k = true := by
  have hscan {dir : Sweep} {t j : Nat} (hj : w.scanFrom dir t = some j) : w.isPending j = true := by
    cases dir with
    | up => exact (pendingUp_eq_some.mp hj).2.2.1
    | down => exact (pendingBelow_eq_some.mp hj).2.1
  by_cases hagain : w.again
  · rw [recoveryChoice_again hagain] at h
    obtain rfl := Option.some.inj h
    exact hagain.1
  cases hsweep : w.scanFrom w.planner.sweep w.planner.currentTrack with
  | some j =>
    rw [recoveryChoice_sweep hagain hsweep] at h
    obtain rfl := Option.some.inj h
    exact hscan hsweep
  | none =>
    cases hback : w.scanFrom w.planner.sweep.opposite w.planner.currentTrack with
    | some j =>
      rw [recoveryChoice_back hagain hsweep hback] at h
      obtain rfl := Option.some.inj h
      exact hscan hback
    | none =>
      rw [recoveryChoice_here hagain hsweep hback] at h
      dsimp only at h
      split at h
      · next hp =>
        obtain rfl := Option.some.inj h
        exact hp
      · cases h

theorem Chosen.isPending (h : w.Chosen k x) : w.isPending k = true := by
  rcases h with ⟨hs, rfl⟩ | ⟨hs, hk, rfl⟩
  · exact hs.2.2.2.1
  · rw [← entered_isPending]
    exact isPending_of_recoveryChoice hk

/-- With no track pending, none is chosen. -/
theorem choice_none (h : ∀ k, w.isPending k = false) : w.choice = (none, w.swept) := by
  have hnot (j : Nat) : ¬ w.Surveyed j := fun hs => Bool.false_ne_true ((h j).symm.trans hs.2.2.2.1)
  rw [choice_recovery hnot]
  refine Prod.ext (Option.eq_none_iff_forall_ne_some.mpr fun k hk => ?_) rfl
  have hp := isPending_of_recoveryChoice hk
  rw [entered_isPending] at hp
  exact Bool.false_ne_true ((h k).symm.trans hp)

theorem lt_of_isPending {n : Nat} (hn : w.planner.pendingMap.length = n) (h : w.isPending k = true) : k < n := by
  by_contra hk
  rw [Volume.isPending, List.getD_eq_default _ _ (by omega)] at h
  cases h

end

/-! ## A track exhausted (R104, R135) -/

section
variable {v : Volume} {t : Nat}

theorem loseTrack_recordsMove (v : Volume) (t : Nat) : v.RecordsMove (v.loseTrack t) := by
  rw [loseTrack_eq]
  exact rewrite_recordsMove v

theorem exhaust_recordsMove (v : Volume) (t : Nat) : (v.setTrackState t .exhausted).RecordsMove (v.exhaust t) :=
  loseTrack_recordsMove _ _

theorem exhaust_form (h : mapOk .fresh v.records = true) : mapOk .fresh (v.exhaust t).records = true := by
  rw [exhaust, loseTrack_eq]
  exact rewrite_form h

theorem exhaust_plan_same (h : t < v.planner.tracks.length) : (v.exhaust t).plan t = { v.plan t with state := .exhausted } := by
  rw [(v.exhaust_recordsMove t).plan, setTrackState_plan_same h]

theorem exhaust_plan_ne {k : Nat} (h : k ≠ t) : (v.exhaust t).plan k = v.plan k := by
  rw [(v.exhaust_recordsMove t).plan, setTrackState_plan_ne h]

theorem exhaust_isPending_same (h : t < v.planner.pendingMap.length) : (v.exhaust t).isPending t = false := by
  rw [(v.exhaust_recordsMove t).isPending, setTrackState_isPending_same h]
  rfl

theorem exhaust_isPending_ne {k : Nat} (h : k ≠ t) : (v.exhaust t).isPending k = v.isPending k := by
  rw [(v.exhaust_recordsMove t).isPending, setTrackState_isPending_ne h]

theorem record_exhaust (h : mapOk .fresh v.records = true) (i : Nat) : (v.exhaust t).record i =
    if t * v.sectors ≤ i ∧ i < (t + 1) * v.sectors ∧ (v.record i).state ∈ [.unseen, .weak, .contested] then
      { v.record i with state := .lost } else v.record i :=
  record_loseTrack (v := v.setTrackState t .exhausted) h i

theorem summary_exhaust_ne {k : Nat} (h : k ≠ t) : (v.exhaust t).summary k = v.summary k := by
  rw [exhaust, loseTrack_eq]
  exact summary_rewrite_ne (v.setTrackState t .exhausted)
    fun i hi he => h (he.symm.trans (div_of_mem_trackSectors hi))

theorem exhaust_frame (v : Volume) (t : Nat) : v.exhaust t = { v.withRecordsOf (v.exhaust t) with planner := { v.planner with
    tracks := (v.exhaust t).planner.tracks, pendingMap := (v.exhaust t).planner.pendingMap } } := by
  have hmove := v.exhaust_recordsMove t
  have hplanner := hmove.planner
  rw [hplanner]
  refine Eq.trans hmove ?_
  rw [setTrackState_eq]
  rfl

theorem exhaust_tracks_length : (v.exhaust t).planner.tracks.length = v.planner.tracks.length := by
  rw [(v.exhaust_recordsMove t).planner, setTrackState_tracks_length]

theorem exhaust_pendingMap_length : (v.exhaust t).planner.pendingMap.length = v.planner.pendingMap.length := by
  rw [(v.exhaust_recordsMove t).planner, setTrackState_pendingMap_length]

end

/-! ## The wear spent (R135) -/

/-- Every track below `n` that is not DONE made EXHAUSTED. -/
structure Spent (v : Volume) (n : Nat) (w : Volume) : Prop where
  frame : w = { v.withRecordsOf w with planner := { v.planner with
    tracks := w.planner.tracks, pendingMap := w.planner.pendingMap } }
  form : mapOk .fresh w.records = true
  lengths : w.planner.tracks.length = v.trackCount ∧ w.planner.pendingMap.length = v.trackCount
  plan : ∀ k, w.plan k = if k < n ∧ (v.plan k).state ≠ .done then { v.plan k with state := .exhausted } else v.plan k
  pending : ∀ k, w.isPending k = if k < n ∧ (v.plan k).state ≠ .done then false else v.isPending k
  record : ∀ k j, j < v.sectors → w.record (k * v.sectors + j) =
    if (k < n ∧ (v.plan k).state ≠ .done) ∧ (v.record (k * v.sectors + j)).state ∈ [.unseen, .weak, .contested] then
      { v.record (k * v.sectors + j) with state := .lost } else v.record (k * v.sectors + j)

section
variable {v w : Volume} {n : Nat}

/-- One more track made EXHAUSTED, unless it is DONE. -/
def spendTrack (w : Volume) (t : Nat) : Volume := if (w.plan t).state = .done then w else w.exhaust t

theorem Spent.next (h : Spent v n w) (hn : n < v.trackCount) : Spent v (n + 1) (w.spendTrack n) := by
  have hplan : w.plan n = v.plan n := (h.plan n).trans (if_neg fun hc => Nat.lt_irrefl n hc.1)
  have hsectors : w.sectors = v.sectors := by rw [h.frame]; rfl
  have hlt {k : Nat} (hk : k ≠ n) : k < n + 1 ↔ k < n := by omega
  have hsame {k : Nat} (hk : k ≠ n) : (k < n + 1 ∧ (v.plan k).state ≠ .done) ↔ (k < n ∧ (v.plan k).state ≠ .done) := by
    rw [hlt hk]
  unfold spendTrack
  rw [hplan]
  by_cases hdone : (v.plan n).state = .done
  · rw [if_pos hdone]
    have hiff (k : Nat) : (k < n + 1 ∧ (v.plan k).state ≠ .done) ↔ (k < n ∧ (v.plan k).state ≠ .done) := by
      by_cases hk : k = n
      · subst hk
        exact ⟨fun hc => absurd hdone hc.2, fun hc => absurd hdone hc.2⟩
      · exact hsame hk
    refine ⟨h.frame, h.form, h.lengths, fun k => ?_, fun k => ?_, fun k j hj => ?_⟩
    · simp only [hiff, h.plan]
    · simp only [hiff, h.pending]
    · simp only [hiff, h.record k j hj]
  · rw [if_neg hdone]
    refine ⟨?_, exhaust_form h.form, ⟨exhaust_tracks_length.trans h.lengths.1, exhaust_pendingMap_length.trans h.lengths.2⟩,
      fun k => ?_, fun k => ?_, fun k j hj => ?_⟩
    · refine (exhaust_frame w n).trans ?_
      rw [h.frame]
      rfl
    · by_cases hk : k = n
      · subst hk
        rw [exhaust_plan_same (by rw [h.lengths.1]; exact hn), hplan, if_pos ⟨Nat.lt_succ_self k, hdone⟩]
      · rw [exhaust_plan_ne hk, h.plan]
        simp only [hsame hk]
    · by_cases hk : k = n
      · subst hk
        rw [exhaust_isPending_same (by rw [h.lengths.2]; exact hn), if_pos ⟨Nat.lt_succ_self k, hdone⟩]
      · rw [exhaust_isPending_ne hk, h.pending]
        simp only [hsame hk]
    · have hin : (n * v.sectors ≤ k * v.sectors + j ∧ k * v.sectors + j < (n + 1) * v.sectors) ↔ k = n := by
        have hdiv : (k * v.sectors + j) / v.sectors = k := (div_eq_track_iff (by omega)).mpr ⟨j, hj, rfl⟩
        rw [← mem_trackSectors, mem_trackSectors_iff_div, hdiv]
        exact and_iff_right (by omega)
      rw [record_exhaust h.form, hsectors]
      simp only [← and_assoc (a := n * v.sectors ≤ _), hin]
      rw [h.record k j hj]
      by_cases hk : k = n
      · subst hk
        simp [hdone]
      · simp only [hsame hk, hk, false_and, if_false]

theorem spent_foldl (htracks : v.planner.tracks.length = v.trackCount) (hpending : v.planner.pendingMap.length = v.trackCount)
    (hform : mapOk .fresh v.records = true) {n : Nat} (hn : n ≤ v.trackCount) :
    Spent v n ((List.range n).foldl spendTrack v) := by
  induction n with
  | zero =>
    exact ⟨rfl, hform, ⟨htracks, hpending⟩, fun _ => (if_neg fun h => Nat.not_lt_zero _ h.1).symm,
      fun _ => (if_neg fun h => Nat.not_lt_zero _ h.1).symm,
      fun _ _ _ => (if_neg fun h => Nat.not_lt_zero _ h.1.1).symm⟩
  | succ n ih =>
    rw [List.range_succ, List.foldl_append]
    exact (ih (by omega)).next hn

theorem wearSpent_eq (v : Volume) : v.wearSpent =
    { (List.range v.trackCount).foldl spendTrack v with planner := {
      ((List.range v.trackCount).foldl spendTrack v).planner with run := .endedPartial } } := rfl

end

end Volume

/-! ## The choice taken (R133, R135) -/

section
variable {s : State} {ch : Chan} {v x : Volume} {k fuel : Nat}

theorem State.chooseFrom_ends (hv : s.volume ch = some v) (hc : v.choice = (none, x)) :
    State.chooseFrom (fuel + 1) s ch = (s.setVolume ch (some x.ended)).volumeNotice ch x.ended := by
  simp only [State.chooseFrom, hv, hc]

theorem State.chooseFrom_exhausts (hv : s.volume ch = some v) (hc : v.choice = (some k, x))
    (h : x.planner.passBudget ≤ (x.plan k).passesUsed) : State.chooseFrom (fuel + 1) s ch =
      State.chooseFrom fuel ((s.setVolume ch (some (x.exhaust k))).trackNotice ch (x.exhaust k) k) ch := by
  simp only [State.chooseFrom, hv, hc, if_pos h]

theorem State.chooseFrom_spends (hv : s.volume ch = some v) (hc : v.choice = (some k, x))
    (h : (x.plan k).passesUsed < x.planner.passBudget)
    (hw : x.planner.wearBudget < x.planner.wearUsed + passCost (s.chanProfile ch) (s.channel ch) (x.plan k).ladderStep) :
    State.chooseFrom (fuel + 1) s ch = (s.setVolume ch (some x.wearSpent)).volumeNotice ch x.wearSpent := by
  simp only [State.chooseFrom, hv, hc, if_neg (Nat.not_le.mpr h), if_pos hw]

theorem State.chooseFrom_orders (hv : s.volume ch = some v) (hc : v.choice = (some k, x))
    (h : (x.plan k).passesUsed < x.planner.passBudget)
    (hw : x.planner.wearUsed + passCost (s.chanProfile ch) (s.channel ch) (x.plan k).ladderStep ≤ x.planner.wearBudget) :
    State.chooseFrom (fuel + 1) s ch = s.giveOrder ch x k := by
  simp only [State.chooseFrom, hv, hc, if_neg (Nat.not_le.mpr h), if_neg (Nat.not_lt.mpr hw)]

theorem State.choosePass_eq (hv : s.volume ch = some v) : s.choosePass ch = s.chooseFrom (v.trackCount + 1) ch := by
  simp only [State.choosePass, hv]

end

end Sys2Proof.Machine
end


/-! # START (R26, R49, R142) -/

section
/-! SUPPORT. START's tests, the planner's choice in a volume that runs, and how a channel takes an order. -/

namespace Sys2Proof.Machine

/-! ## START's tests (R142) -/

/-- The volume of a run that START begins. -/
def Volume.started (v : Volume) : Volume := { v with planner := { v.planner with run := .running, halt := .none } }

/-- START on a volume that may run. -/
def State.startRun (s : State) (id : Nat) (ch : Chan) (v : Volume) : State :=
  if v.mediaGone then s.reply id .mediaGone []
  else if (s.channel ch).faultCount = 3 then s.reply id .faultLimit []
  else
    let t := s.setVolume ch (some v.started)
    let u := if v.planner.outstanding.isSome then t else t.choosePass ch
    u.reply id .ok (b1 (u.runByteOf ch))

section
variable {s : State} {tag : Byte} {ch : Chan} {v : Volume}

theorem exec_start_running (hids : s.link.idsFresh) (hacc : Accepts s 0x30 [chanByte ch]) (hv : s.volume ch = some v)
    (hr : v.planner.run = .running ∨ v.planner.run = .pausing) :
    exec (.start tag [chanByte ch]) s = .next (s.answered 0x30 tag .ok (b1 (runByte v.planner.run))) := by
  refine congrArg Host.Outcome.next ((State.withRequest_mounted hacc hv _).trans ?_)
  rw [← State.setLink_accepted_reply hids]
  rcases hr with hr | hr <;> simp only [hr]

theorem exec_start_done (hids : s.link.idsFresh) (hacc : Accepts s 0x30 [chanByte ch]) (hv : s.volume ch = some v)
    (hr : v.planner.run = .complete ∨ v.planner.run = .endedPartial) :
    exec (.start tag [chanByte ch]) s = .next (s.answered 0x30 tag .alreadyDone []) := by
  refine congrArg Host.Outcome.next ((State.withRequest_mounted hacc hv _).trans ?_)
  rw [← State.setLink_accepted_reply hids]
  rcases hr with hr | hr <;> simp only [hr]

theorem exec_start_begins (hacc : Accepts s 0x30 [chanByte ch]) (hv : s.volume ch = some v)
    (hr : v.planner.run = .stopped ∨ v.planner.run = .paused ∨ v.planner.run = .halted) :
    exec (.start tag [chanByte ch]) s = .next ((s.setLink (s.link.accepted 0x30 tag)).startRun s.link.nextId ch v) := by
  refine congrArg Host.Outcome.next ((State.withRequest_mounted hacc hv _).trans ?_)
  rcases hr with hr | hr | hr <;> simp only [hr] <;> rfl

theorem State.startRun_ordered {id : Nat} (hm : v.mediaGone = false) (hf : (s.channel ch).faultCount ≠ 3)
    (ho : v.planner.outstanding ≠ none) :
    s.startRun id ch v = (s.setVolume ch (some v.started)).reply id .ok (b1 (runByte .running)) := by
  refine (if_neg (Bool.eq_false_iff.mp hm)).trans ((if_neg hf).trans ?_)
  dsimp only
  rw [if_pos (Option.isSome_iff_ne_none.mpr ho), State.runByteOf, State.setVolume_volume]
  rfl

theorem State.startRun_chooses {id : Nat} (hm : v.mediaGone = false) (hf : (s.channel ch).faultCount ≠ 3)
    (ho : v.planner.outstanding = none) {u : State} (hu : (s.setVolume ch (some v.started)).choosePass ch = u) :
    s.startRun id ch v = u.reply id .ok (b1 (u.runByteOf ch)) := by
  subst hu
  refine (if_neg (Bool.eq_false_iff.mp hm)).trans ((if_neg hf).trans ?_)
  dsimp only
  rw [if_neg (by rw [ho]; exact Bool.false_ne_true)]

end

/-! ## The planner at work on a volume (R133 to R136) -/

/-- The state with a volume and a link written. -/
def State.planned (s : State) (ch : Chan) (w : Volume) (l : Link) : State := (s.setVolume ch (some w)).setLink l

/-- The payload of a TRACK notice, with the entry and the counts of a track (R174). -/
def Volume.trackPayload (w : Volume) (ch : Chan) (k : Nat) : List Byte :=
  b1 ch.val ++ le4 w.tag ++ le2 k ++ b1 (trackStateByte (w.plan k).state) ++ b1 (w.plan k).passesUsed ++
    b1 (w.plan k).ladderStep ++ le2 (w.summary k).opn ++ le2 (w.summary k).settled ++ le2 (w.summary k).lost ++
    le2 (w.summary k).excluded

/-- The payload of a VOLUME notice (R174). -/
def Volume.volumePayload (w : Volume) (ch : Chan) : List Byte :=
  b1 ch.val ++ le4 w.tag ++ b1 (runByte w.planner.run) ++ b1 (haltByte w.planner.halt) ++ b1 (phaseByte w.planner.phase) ++
    le2 w.planner.wearUsed ++ le2 w.planner.wearBudget ++
    (le2 w.totals.settled ++ le2 w.totals.opn ++ le2 w.totals.lost ++ le2 w.totals.excluded)

section
variable {s : State} {ch : Chan} {v w x : Volume} {l : Link} {j k fuel : Nat}

theorem State.planned_volume : (s.planned ch w l).volume ch = some w := State.setVolume_volume _ _ _

theorem State.planned_setVolume : (s.planned ch w l).setVolume ch (some x) = s.planned ch x l := by
  simp only [planned, setVolume, setLink, qset_qset]

theorem State.planned_trackNotice : ((s.planned ch w l).setVolume ch (some x)).trackNotice ch x k =
    s.planned ch x (l.notify s.selfTest.partFailed ch .track (x.trackPayload ch k)) := by
  rw [State.planned_setVolume]
  rfl

theorem State.planned_volumeNotice : ((s.planned ch w l).setVolume ch (some x)).volumeNotice ch x =
    s.planned ch x (l.notify s.selfTest.partFailed ch .volume (x.volumePayload ch)) := by
  rw [State.planned_setVolume]
  rfl

theorem State.planned_chanProfile (hv : s.volume ch = some v) (hw : w.slot = v.slot) :
    (s.planned ch w l).chanProfile ch = s.chanProfile ch :=
  (State.chanProfile_setVolume (s := s) hv hw)

/-- What the budgets and an order read of a volume beside its tracks. -/
structure Volume.SameRun (v w : Volume) : Prop where
  uid : w.uid = v.uid
  tag : w.tag = v.tag
  slot : w.slot = v.slot
  passBudget : w.planner.passBudget = v.planner.passBudget
  wear : w.planner.wearUsed = v.planner.wearUsed ∧ w.planner.wearBudget = v.planner.wearBudget
  run : w.planner.run = .running
  halt : w.planner.halt = .none

theorem Volume.started_sameRun (v : Volume) : v.SameRun v.started := ⟨rfl, rfl, rfl, rfl, ⟨rfl, rfl⟩, rfl, rfl⟩

theorem Volume.SameRun.chosen (h : v.SameRun w) (hc : w.Chosen k x) : v.SameRun x := by
  rw [hc.frame]
  exact ⟨h.uid, h.tag, h.slot, h.passBudget, h.wear, h.run, h.halt⟩

theorem Volume.SameRun.exhaust (h : v.SameRun w) (k : Nat) : v.SameRun (w.exhaust k) := by
  rw [w.exhaust_frame k]
  exact ⟨h.uid, h.tag, h.slot, h.passBudget, h.wear, h.run, h.halt⟩

theorem Volume.Chosen.plan (hc : w.Chosen k x) (j : Nat) : x.plan j = w.plan j := by
  rw [hc.frame]
  rfl

theorem Volume.Chosen.summary (hc : w.Chosen k x) (j : Nat) : x.summary j = w.summary j := by
  rw [hc.frame]
  rfl

/-- A volume as its order for track `k` is given, with the settled count that `v` tells of the track (R136). -/
def Volume.ordered (x v : Volume) (k : Nat) : Volume := (x.setTrackState k .active).setPlanner (fun a => { a with
  currentTrack := k, baseline := (v.summary k).settled, outstanding := some k })

/-- A track whose passes and cost fit the budgets is ordered. -/
theorem State.planned_orders (hv : s.volume ch = some v) (hrun : v.SameRun w) (hc : w.Chosen k x)
    (hplan : w.plan k = v.plan k) (hsummary : w.summary k = v.summary k)
    (hp : (v.plan k).passesUsed < v.planner.passBudget)
    (hw : v.planner.wearUsed + passCost (s.chanProfile ch) (s.channel ch) (v.plan k).ladderStep ≤ v.planner.wearBudget) :
    State.chooseFrom (fuel + 1) (s.planned ch w l) ch =
      ((s.setVolume ch (some (x.ordered v k))).putChannel ch
          ((s.channel ch).takeOrder (s.chanProfile ch) (v.orderFor (s.chanProfile ch) (s.channel ch) k))).setLink l := by
  have hx := hrun.chosen hc
  have hxplan : x.plan k = v.plan k := (hc.plan k).trans hplan
  have hprofile : (s.planned ch w l).chanProfile ch = s.chanProfile ch := State.planned_chanProfile hv hrun.slot
  have horder : x.orderFor (s.chanProfile ch) (s.channel ch) k = v.orderFor (s.chanProfile ch) (s.channel ch) k := by
    rw [Volume.orderFor, hxplan, hx.uid]
    rfl
  have hchannel : (s.planned ch w l).channel ch = s.channel ch := rfl
  rw [State.chooseFrom_orders State.planned_volume hc.choice (by rw [hxplan, hx.passBudget]; exact hp)
    (by rw [hxplan, hx.wear.1, hx.wear.2, hprofile, hchannel]; exact hw)]
  unfold State.giveOrder
  dsimp only
  rw [hprofile, hchannel, horder, State.planned_setVolume, Volume.givenOrder, (hc.summary k).trans hsummary]
  rfl

theorem State.planned_exhausts (hrun : v.SameRun w) (hc : w.Chosen k x)
    (hplan : w.plan k = v.plan k) (hp : v.planner.passBudget ≤ (v.plan k).passesUsed) :
    State.chooseFrom (fuel + 1) (s.planned ch w l) ch = State.chooseFrom fuel (s.planned ch (x.exhaust k)
      (l.notify s.selfTest.partFailed ch .track ((x.exhaust k).trackPayload ch k))) ch := by
  rw [State.chooseFrom_exhausts State.planned_volume hc.choice
    (by rw [(hc.plan k).trans hplan, (hrun.chosen hc).passBudget]; exact hp), State.planned_trackNotice]

theorem State.planned_spends (hv : s.volume ch = some v) (hrun : v.SameRun w) (hc : w.Chosen k x)
    (hplan : w.plan k = v.plan k) (hp : (v.plan k).passesUsed < v.planner.passBudget)
    (hw : v.planner.wearBudget < v.planner.wearUsed + passCost (s.chanProfile ch) (s.channel ch) (v.plan k).ladderStep) :
    State.chooseFrom (fuel + 1) (s.planned ch w l) ch = s.planned ch x.wearSpent
      (l.notify s.selfTest.partFailed ch .volume (x.wearSpent.volumePayload ch)) := by
  have hx := hrun.chosen hc
  have hxplan : x.plan k = v.plan k := (hc.plan k).trans hplan
  rw [State.chooseFrom_spends State.planned_volume hc.choice (by rw [hxplan, hx.passBudget]; exact hp)
    (by rw [hxplan, hx.wear.1, hx.wear.2, State.planned_chanProfile hv hrun.slot]; exact hw), State.planned_volumeNotice]

theorem State.planned_ends (hnone : ∀ k, w.isPending k = false) :
    State.chooseFrom (fuel + 1) (s.planned ch w l) ch = s.planned ch w.swept.ended
      (l.notify s.selfTest.partFailed ch .volume (w.swept.ended.volumePayload ch)) := by
  rw [State.chooseFrom_ends State.planned_volume (Volume.choice_none hnone), State.planned_volumeNotice]

/-- START on a volume with no order outstanding: the choice, and the reply with the run state it leaves. -/
theorem exec_start_chooses {tag : Byte} (hacc : Accepts s 0x30 [chanByte ch]) (hv : s.volume ch = some v)
    (hr : v.planner.run = .stopped ∨ v.planner.run = .paused ∨ v.planner.run = .halted) (hm : v.mediaGone = false)
    (hf : (s.channel ch).faultCount ≠ 3) (ho : v.planner.outstanding = none) {u : State}
    (hu : State.chooseFrom (v.trackCount + 1) (s.planned ch v.started (s.link.accepted 0x30 tag)) ch = u) :
    exec (.start tag [chanByte ch]) s = .next (u.reply s.link.nextId .ok (b1 (u.runByteOf ch))) := by
  rw [exec_start_begins hacc hv hr]
  refine congrArg Host.Outcome.next (State.startRun_chooses hm (by exact hf) ho ?_)
  rw [State.choosePass_eq (State.setVolume_volume _ _ _)]
  exact hu

end

/-! ## An order taken (R26, R49) -/

namespace Channel

section
variable {c : Channel} {p : Profile} {o : PassOrder}

/-- The head selected as an order is taken. -/
theorem selectHead_eq (c : Channel) (p : Profile) (o : PassOrder) : c.selectHead p o =
    if c.kind = .floppy then { c with headSelected := o.track - p.heads * (o.track / p.heads) } else c := by
  unfold selectHead
  split
  · next h => exact (if_pos h).symm
  · next h => exact (if_neg fun hk => nomatch hk.symm.trans h).symm

/-- The channel as an order begins its pass. -/
def withOrder (c : Channel) (p : Profile) (o : PassOrder) : Channel := { c.selectHead p o with
  moved := false, holdTimer := none, pass := some (Pass.ofOrder o) }

theorem selectHead_recal : (c.selectHead p o).recal = c.recal := by
  unfold selectHead
  split <;> rfl

theorem withOrder_frame : (c.withOrder p o).state = c.state ∧ (c.withOrder p o).kind = c.kind ∧
    (c.withOrder p o).positionKnown = c.positionKnown ∧ (c.withOrder p o).inputs = c.inputs ∧
    (c.withOrder p o).position = c.position ∧ (c.withOrder p o).offset = c.offset := by
  unfold withOrder
  rw [selectHead_eq]
  split <;> exact ⟨rfl, rfl, rfl, rfl, rfl, rfl⟩

theorem takeOrder_held (hx : c.probe = none) (hr : c.recal ≠ none) :
    c.takeOrder p o = { c.selectHead p o with heldOrder := some o } := by
  unfold takeOrder
  rw [hx]
  exact if_pos (by rw [selectHead_recal]; exact Option.isSome_iff_ne_none.mpr hr)

theorem takeOrder_begins (hx : c.probe = none) (hr : c.recal = none) : c.takeOrder p o =
    if motorOn c.state then (c.withOrder p o).beginStages p (Pass.ofOrder o) else (c.withOrder p o).enterSpinup p := by
  rw [← (withOrder_frame (c := c) (p := p) (o := o)).1]
  unfold takeOrder
  rw [hx]
  exact if_neg (by rw [selectHead_recal, hr]; exact Bool.false_ne_true)

theorem takeOrder_spins (hx : c.probe = none) (hr : c.recal = none) (hs : c.state = .idle ∨ c.state = .faulted) :
    c.takeOrder p o = { c.withOrder p o with state := .spinup, stageTimer := some (p.spinUp * 40000) } := by
  rw [takeOrder_begins hx hr, if_neg (by rcases hs with h | h <;> rw [h] <;> exact Bool.false_ne_true)]
  rfl

theorem takeOrder_holding (hx : c.probe = none) (hr : c.recal = none) (hs : c.state = .holding) :
    c.takeOrder p o = (c.withOrder p o).beginStages p (Pass.ofOrder o) := by
  rw [takeOrder_begins hx hr, if_pos (by rw [hs]; rfl)]

/-- In HOLDING with the position not known: the first pulse of the recalibration (R28). -/
theorem takeOrder_recal (hx : c.probe = none) (hr : c.recal = none) (hs : c.state = .holding) (hk : c.kind = .floppy)
    (hknown : c.positionKnown = false) (htrack0 : c.inputs.track0 = false) : c.takeOrder p o = { c.withOrder p o with
      state := .recal, offset := .zero, dirAsserted := false, moved := true, pulses := c.pulses + 1
      stageTimer := some (p.stepInterval * 40000), recalStage := some { rewinding := false, pulses := 1 } } := by
  obtain ⟨-, hkind, hpk, hin, -, -⟩ := withOrder_frame (c := c) (p := p) (o := o)
  have haway : ¬ (c.withOrder p o).AtHome := by
    rw [AtHome, hkind, if_pos hk, hin, htrack0]
    exact Bool.false_ne_true
  rw [takeOrder_holding hx hr hs, beginStages_away (hpk.trans hknown) rfl haway,
    enterRecal_floppy_away (hkind.trans hk) (by rw [hin]; exact htrack0)]
  have hfalse : false = (c.withOrder p o).positionKnown := (hpk.trans hknown).symm
  have hpulses : (c.withOrder p o).pulses = c.pulses := by
    unfold withOrder selectHead
    split <;> rfl
  rw [← hpulses]
  dsimp only [recalPulse, recalEntered]
  rw [hfalse]
  rfl

/-- In HOLDING away from the target: the first pulse of SEEKING (R30). -/
theorem takeOrder_seeks (hx : c.probe = none) (hr : c.recal = none) (hs : c.state = .holding) (hknown : c.positionKnown = true)
    {up : Bool} {next : Nat} (hup : decide (c.position < o.track / p.heads) = up)
    (hstep : stepToward c.position (o.track / p.heads) = next) (hne : c.position ≠ o.track / p.heads)
    (hmore : next ≠ o.track / p.heads) : c.takeOrder p o = { c.withOrder p o with
      state := .seeking, position := next, dirAsserted := up, moved := true, pulses := c.pulses + 1
      stageTimer := some (p.stepInterval * 40000) } := by
  obtain ⟨-, -, hpk, -, hpos, -⟩ := withOrder_frame (c := c) (p := p) (o := o)
  have hpulses : (c.withOrder p o).pulses = c.pulses := by
    unfold withOrder selectHead
    split <;> rfl
  rw [takeOrder_holding hx hr hs, beginStages_known (hpk.trans hknown),
    afterRecal_seeks (by rw [hpos]; exact hne), hpos]
  rw [seekPulse_goesOn (by dsimp only; exact hstep.symm ▸ hmore)]
  dsimp only
  rw [hpulses, ← hup, ← hstep]
  rfl

/-- In HOLDING at the target: ARMED (R30, R37). -/
theorem takeOrder_arms (hx : c.probe = none) (hr : c.recal = none) (hs : c.state = .holding) (hk : c.kind = .floppy)
    (hknown : c.positionKnown = true) (hpos : c.position = o.track / p.heads) (ho : c.offset = o.offset) :
    c.takeOrder p o = { c.withOrder p o with state := .armed, stageTimer := some (6000000000 / p.rpm) } := by
  obtain ⟨-, hkind, hpk, -, hposition, hoffset⟩ := withOrder_frame (c := c) (p := p) (o := o)
  rw [takeOrder_holding hx hr hs, beginStages_known (hpk.trans hknown),
    afterRecal_there (by exact hposition.trans hpos) (by exact hoffset.trans ho), afterSeeking_unmoved (by exact Bool.false_ne_true),
    afterSettling_arms (.inl (hkind.trans hk)), enterArmed_floppy (hkind.trans hk)]
  rfl

end

end Channel

/-! ## The run that START begins -/

section
variable {s : State} {ch : Chan} {v w x : Volume} {l : Link} {k : Nat}

theorem State.planned_runByteOf : (s.planned ch w l).runByteOf ch = runByte w.planner.run := by
  rw [State.runByteOf, State.planned_volume]

theorem State.ordered_runByteOf (hx : x.planner.run = .running) (c : Channel) :
    (((s.setVolume ch (some (x.ordered v k))).putChannel ch c).setLink l).runByteOf ch = runByte .running := by
  rw [State.runByteOf]
  simp only [State.setLink_volume, State.putChannel_volume, State.setVolume_volume]
  exact congrArg runByte hx

/-- What a chosen track is beside the volume that runs. -/
structure Volume.ChosenAs (v : Volume) (k : Nat) (x : Volume) : Prop where
  run : v.SameRun x
  plan : ∀ j, x.plan j = v.plan j
  summary : ∀ j, x.summary j = v.summary j
  pending : ∀ j, x.isPending j = v.isPending j
  form : x.records = v.records
  sectors : x.sectors = v.sectors ∧ x.trackCount = v.trackCount
  lengths : x.planner.tracks.length = v.planner.tracks.length ∧ x.planner.pendingMap.length = v.planner.pendingMap.length
  mine : v.isPending k = true

theorem Volume.Chosen.as (h : v.started.Chosen k x) : v.ChosenAs k x := by
  have hframe := h.frame
  refine ⟨v.started_sameRun.chosen h, h.plan, h.summary, fun j => ?_, ?_, ?_, ?_, h.isPending⟩ <;> rw [hframe]
  · rfl
  · rfl
  · exact ⟨rfl, rfl⟩
  · exact ⟨rfl, rfl⟩

end

/-- Settles O45: START's tests, then the planner's choice by its two checks, and the order taken by the channel's state. -/
theorem startRuns : Obligations.StartRuns := by
  intro s tag ch v hids hacc hv running p c cost order given surveyed entered swept chosen fits counted started
  have hcost (k : Nat) : passCost p c (v.plan k).ladderStep = cost k := passCost_eq p c _
  refine ⟨fun h => exec_start_running hids hacc hv h, fun h => exec_start_done hids hacc hv h,
    fun hr => ⟨fun hm => ?media, fun hm hf => ?fault, fun hm hf => ⟨fun ho => ?ordered, fun k x ho hc hfit => ?orders,
      fun k x ho hc hlow htracks hpending hform => ?exhausts, fun k x ho hc hp hw htracks hpending hform => ?spends,
      fun ho hnone => ?ends⟩⟩, fun k hprobe => ?taken⟩
  case media =>
    refine (exec_start_begins hacc hv hr).trans ?_
    rw [← State.setLink_accepted_reply hids]
    exact congrArg Host.Outcome.next (if_pos hm)
  case fault =>
    refine (exec_start_begins hacc hv hr).trans ?_
    rw [← State.setLink_accepted_reply hids]
    exact congrArg Host.Outcome.next ((if_neg (Bool.eq_false_iff.mp hm)).trans (if_pos hf))
  case ordered =>
    refine (exec_start_begins hacc hv hr).trans (congrArg Host.Outcome.next ?_)
    exact (State.startRun_ordered hm (by exact hf) ho).trans (State.accepted_reply hids _ _ _ _ rfl)
  case orders =>
    have hx := Volume.Chosen.as hc
    refine (exec_start_chooses hacc hv hr hm hf ho (State.planned_orders hv v.started_sameRun hc rfl rfl hfit.1
      (by rw [hcost]; exact hfit.2))).trans (congrArg Host.Outcome.next ?_)
    rw [State.ordered_runByteOf hx.run.run]
    exact State.accepted_reply hids _ _ _ _ rfl
  case exhausts =>
    have hx := Volume.Chosen.as hc
    have hk : k < v.trackCount := Volume.lt_of_isPending hpending hx.mine
    have hxform : mapOk .fresh x.records = true := by rw [hx.form]; exact hform
    have hplan : (x.exhaust k).plan k = { v.plan k with state := .exhausted } := by
      rw [Volume.exhaust_plan_same (by rw [hx.lengths.1, htracks]; exact hk), hx.plan]
    have hpend : (x.exhaust k).isPending k = false :=
      Volume.exhaust_isPending_same (by rw [hx.lengths.2, hpending]; exact hk)
    have hother {j : Nat} (hj : j ≠ k) : (x.exhaust k).plan j = v.plan j ∧ (x.exhaust k).isPending j = v.isPending j :=
      ⟨(Volume.exhaust_plan_ne hj).trans (hx.plan j), (Volume.exhaust_isPending_ne hj).trans (hx.pending j)⟩
    refine ⟨x.exhaust k, hplan, hpend, fun j hj => hother hj, fun i => ?_, x.exhaust_frame k, ?_⟩
    · rw [Volume.record_exhaust hxform, hx.sectors.1, Volume.record, hx.form]
      rfl
    intro told
    have hrun := hx.run.exhaust k
    have htold : (s.link.accepted 0x30 tag).notify s.selfTest.partFailed ch .track ((x.exhaust k).trackPayload ch k) = told := by
      rw [Volume.trackPayload, hplan, hrun.tag]
    obtain ⟨fuel, hfuel⟩ : ∃ n, v.trackCount = n + 1 := ⟨v.trackCount - 1, by omega⟩
    have hstarted {u : State} (hu : State.chooseFrom (fuel + 1) (s.planned ch (x.exhaust k) told) ch = u) :
        started = .next (u.reply s.link.nextId .ok (b1 (u.runByteOf ch))) := by
      refine exec_start_chooses hacc hv hr hm hf ho ?_
      rw [State.planned_exhausts v.started_sameRun hc rfl hlow, htold, hfuel]
      exact hu
    refine ⟨fun j y hcy hfit => ?_, fun hnone => ?_⟩
    · have hy : (x.exhaust k).Chosen j y := hcy
      have hj : j ≠ k := fun he => Bool.false_ne_true (hpend.symm.trans (he ▸ hy.isPending))
      refine (hstarted (State.planned_orders hv hrun hy (hother hj).1
        ((Volume.summary_exhaust_ne hj).trans (hx.summary j)) hfit.1 (by rw [hcost]; exact hfit.2))).trans
          (congrArg Host.Outcome.next ?_)
      rw [State.ordered_runByteOf (hrun.chosen hy).run]
      rfl
    · have hall (j : Nat) : (x.exhaust k).isPending j = false := by
        by_cases hj : j = k
        · rw [hj, hpend]
        · exact (hother hj).2.trans (hnone j hj)
      have hframe := (x.exhaust k).swept_frame
      have hnotDone : (x.exhaust k).swept.allDone = false := by
        rw [hframe]
        refine Bool.eq_false_iff.mpr fun hdone => ?_
        have hlen : k < (x.exhaust k).planner.tracks.length := by
          rw [Volume.exhaust_tracks_length, hx.lengths.1, htracks]
          exact hk
        have hmine := List.all_eq_true.mp hdone _ (List.getElem_mem hlen)
        rw [← List.getD_eq_getElem _ { state := .done, passesUsed := 0, ladderStep := 0, misplaced := false } hlen] at hmine
        exact nomatch (congrArg TrackPlan.state hplan).symm.trans (of_decide_eq_true hmine)
      have hended : (x.exhaust k).swept.ended = { (x.exhaust k).swept with
          planner := { (x.exhaust k).swept.planner with run := .endedPartial } } := by
        rw [Volume.ended, hnotDone]
        rfl
      have hpayload : (x.exhaust k).swept.ended.volumePayload ch =
          b1 ch.val ++ le4 v.tag ++ b1 (runByte .endedPartial) ++ b1 (haltByte .none) ++ b1 (phaseByte .recovery) ++
            le2 v.planner.wearUsed ++ le2 v.planner.wearBudget ++ counted (x.exhaust k).totals := by
        rw [hended, hframe, Volume.volumePayload]
        dsimp only
        rw [hrun.tag, hrun.halt, hrun.wear.1, hrun.wear.2]
      refine (hstarted (State.planned_ends hall)).trans (congrArg Host.Outcome.next ?_)
      rw [State.planned_runByteOf, hpayload, hended]
      rfl
  case spends =>
    have hx := Volume.Chosen.as hc
    have hspent := Volume.spent_foldl (v := x) (by rw [hx.lengths.1, hx.sectors.2, htracks])
      (by rw [hx.lengths.2, hx.sectors.2, hpending]) (by rw [hx.form]; exact hform) (Nat.le_refl _)
    have hwear := x.wearSpent_eq
    generalize (List.range x.trackCount).foldl Volume.spendTrack x = w at hspent hwear
    have hrecord (i : Nat) : x.record i = v.record i := by rw [Volume.record, hx.form]; rfl
    have hw' : x.wearSpent.volumePayload ch = b1 ch.val ++ le4 v.tag ++ b1 (runByte .endedPartial) ++ b1 (haltByte .none) ++
        b1 (phaseByte x.planner.phase) ++ le2 v.planner.wearUsed ++ le2 v.planner.wearBudget ++ counted w.totals := by
      rw [hwear, hspent.frame, Volume.volumePayload]
      dsimp only [Volume.withRecordsOf]
      rw [hx.run.tag, hx.run.halt, hx.run.wear.1, hx.run.wear.2]
    have hplan (j : Nat) : x.wearSpent.plan j = _ := Eq.trans (by rw [hwear]; rfl) (hspent.plan j)
    have hpend (j : Nat) : x.wearSpent.isPending j = _ := Eq.trans (by rw [hwear]; rfl) (hspent.pending j)
    have hmine (j m : Nat) (hm : m < v.sectors) : x.wearSpent.record (j * v.sectors + m) =
        if (j < x.trackCount ∧ (x.plan j).state ≠ .done) ∧
          (v.record (j * v.sectors + m)).state ∈ [.unseen, .weak, .contested] then
          { v.record (j * v.sectors + m) with state := .lost } else v.record (j * v.sectors + m) := by
      have h := hspent.record j m (by rw [hx.sectors.1]; exact hm)
      rw [hx.sectors.1, hrecord] at h
      rw [hwear]
      exact h
    refine ⟨x.wearSpent, fun j hj => ⟨fun hdone => ?_, fun hnot => ?_⟩, ?_, ?_⟩
    · have hnot : ¬ (j < x.trackCount ∧ (x.plan j).state ≠ .done) := fun h => h.2 (by rw [hx.plan]; exact hdone)
      refine ⟨(hplan j).trans ((if_neg hnot).trans (hx.plan j)), (hpend j).trans ((if_neg hnot).trans (hx.pending j)),
        fun m hm => ?_⟩
      rw [hmine j m hm, if_neg fun h => hnot h.1]
    · have hin : j < x.trackCount ∧ (x.plan j).state ≠ .done := ⟨by rw [hx.sectors.2]; exact hj, by rw [hx.plan]; exact hnot⟩
      refine ⟨(hplan j).trans ((if_pos hin).trans (by rw [hx.plan])), (hpend j).trans (if_pos hin), fun m hm r hr => ?_⟩
      rw [hmine j m hm, hr]
      simp only [hin, ne_eq, not_false_eq_true, and_self, true_and]
    · rw [hwear, hspent.frame]
      rfl
    · refine (exec_start_chooses hacc hv hr hm hf ho (State.planned_spends hv v.started_sameRun hc rfl hp
        (by rw [hcost]; exact hw))).trans (congrArg Host.Outcome.next ?_)
      rw [State.planned_runByteOf, hw', hwear]
      rfl
  case ends =>
    have hall (k : Nat) : v.started.isPending k = false := hnone k
    have hexec := exec_start_chooses (tag := tag) hacc hv hr hm hf ho (State.planned_ends (fuel := v.trackCount) hall)
    refine ⟨_, v.started.swept.ended, hexec, State.planned_volume, rfl, ?_, ?_⟩
    · rw [Volume.ended, Volume.swept_frame]
      rfl
    · rw [Volume.ended, Volume.swept_frame]
      rfl
  case taken =>
    intro o begun headed taken target
    have hheaded : c.selectHead p o = headed := Channel.selectHead_eq c p o
    have htaken : c.withOrder p o = taken := by
      rw [Channel.withOrder, hheaded]
      rfl
    refine ⟨fun hrecal => ?_, fun hrecal hs => ?_, fun hrecal hs hk => ⟨fun hknown ht => ?_, fun hknown hup => ?_,
      fun hknown hdown => ?_, fun hknown hpos ho => ?_⟩⟩
    · rw [Channel.takeOrder_held hprobe hrecal, hheaded]
    · rw [Channel.takeOrder_spins hprobe hrecal hs, htaken]
    · rw [Channel.takeOrder_recal hprobe hrecal hs hk hknown ht, htaken]
    · have hup : c.position + 1 < k / p.heads := hup
      rw [Channel.takeOrder_seeks (o := o) hprobe hrecal hs hknown (up := true) (next := c.position + 1)
        (decide_eq_true (show c.position < k / p.heads by omega)) (if_pos (show c.position < k / p.heads by omega))
        (show c.position ≠ k / p.heads by omega) (show c.position + 1 ≠ k / p.heads by omega), htaken]
    · have hdown : k / p.heads + 1 < c.position := hdown
      rw [Channel.takeOrder_seeks (o := o) hprobe hrecal hs hknown (up := false) (next := c.position - 1)
        (decide_eq_false (show ¬ c.position < k / p.heads by omega)) (if_neg (show ¬ c.position < k / p.heads by omega))
        (show c.position ≠ k / p.heads by omega) (show c.position - 1 ≠ k / p.heads by omega), htaken]
    · rw [Channel.takeOrder_arms hprobe hrecal hs hk hknown hpos ho, htaken]

end Sys2Proof.Machine
end


/-! # Reports taken by the planner (R104, R132, R137, R138, R141) -/

section
/-! SUPPORT. What a report charges, the end of its track, the halt of a cut, and the notices that tell them. -/

namespace Sys2Proof.Machine

/-! ## What a report charges (R132, R137 steps 1 to 3, R138 step 1) -/

namespace Volume

/-- A volume as a report of its outstanding order leaves its plan, before the track's end is tested. -/
structure Charged (v : Volume) (p : Profile) (r : PassReport) (misplaced : Bool) (x : Volume) : Prop where
  frame : x = { v with planner := { v.planner with
    outstanding := none, wearUsed := min (v.planner.wearUsed + r.units) v.planner.wearBudget
    fruitful := decide (1 ≤ v.settledThisPass r.track)
    surveyCursor := if r.completed ∧ v.planner.phase = .survey ∧ misplaced = false then r.track + 1
      else v.planner.surveyCursor
    tracks := x.planner.tracks, pendingMap := x.planner.pendingMap } }
  plan : x.plan r.track =
    { state := .pending, passesUsed := (v.plan r.track).passesUsed + r.captureBegan.toNat
      ladderStep := if r.completed ∧ v.planner.phase = .recovery ∧ misplaced = false ∧ v.settledThisPass r.track = 0 then
        nextStep p (v.plan r.track).ladderStep else (v.plan r.track).ladderStep
      misplaced := if r.completed then misplaced else (v.plan r.track).misplaced }
  pending : x.isPending r.track = true
  others : ∀ k, k ≠ r.track → x.plan k = v.plan k ∧ x.isPending k = v.isPending k
  lengths : x.planner.tracks.length = v.planner.tracks.length ∧ x.planner.pendingMap.length = v.planner.pendingMap.length

section
variable {v : Volume} {p : Profile} {r : PassReport} {misplaced : Bool}

theorem setPlan_plan_same {t : Nat} {f : TrackPlan → TrackPlan} (h : t < v.planner.tracks.length) :
    (v.setPlan t f).plan t = f (v.plan t) := getD_modifyAt_same _ _ _ h

theorem setPlan_plan_ne {t k : Nat} {f : TrackPlan → TrackPlan} (h : k ≠ t) : (v.setPlan t f).plan k = v.plan k :=
  getD_modifyAt_ne _ _ _ h

theorem satAdd_captureBegan {n : Nat} (h : n < 255) (b : Bool) : (if b then satAdd 255 n 1 else n) = n + b.toNat := by
  cases b with
  | false => rfl
  | true => exact Nat.min_eq_right h

theorem isPending_of_map {x y : Volume} (h : x.planner.pendingMap = y.planner.pendingMap) (k : Nat) :
    x.isPending k = y.isPending k := by
  rw [isPending, h, ← isPending]

theorem plan_of_tracks {x y : Volume} (h : x.planner.tracks = y.planner.tracks) (k : Nat) : x.plan k = y.plan k := by
  rw [plan, h, ← plan]

/-- A volume with its order no longer outstanding and the pass charged (R132). -/
structure PassCharged (v : Volume) (r : PassReport) (x : Volume) : Prop where
  frame : x = { v with planner := { v.planner with
    outstanding := none, wearUsed := min (v.planner.wearUsed + r.units) v.planner.wearBudget
    tracks := x.planner.tracks, pendingMap := x.planner.pendingMap } }
  plan : x.plan r.track = { v.plan r.track with
    state := .pending, passesUsed := (v.plan r.track).passesUsed + r.captureBegan.toNat }
  pending : x.isPending r.track = true
  others : ∀ k, k ≠ r.track → x.plan k = v.plan k ∧ x.isPending k = v.isPending k
  lengths : x.planner.tracks.length = v.planner.tracks.length ∧ x.planner.pendingMap.length = v.planner.pendingMap.length

theorem chargePass_charged (ht : r.track < v.planner.tracks.length) (hp : r.track < v.planner.pendingMap.length)
    (hlt : (v.plan r.track).passesUsed < 255) : v.PassCharged r (v.chargePass r) where
  frame := rfl
  plan := by
    rw [← satAdd_captureBegan hlt]
    refine (setPlan_plan_same (v := v.setTrackState r.track .pending) (by rw [setTrackState_tracks_length]; exact ht)).trans ?_
    rw [setTrackState_plan_same ht]
  pending := by
    rw [isPending_of_map (x := v.chargePass r) (y := v.setTrackState r.track .pending) rfl]
    exact setTrackState_isPending_same hp
  others k hk := by
    rw [isPending_of_map (x := v.chargePass r) (y := v.setTrackState r.track .pending) rfl]
    exact ⟨(setPlan_plan_ne (v := v.setTrackState r.track .pending) hk).trans (setTrackState_plan_ne hk),
      setTrackState_isPending_ne hk⟩
  lengths := ⟨(length_modifyAt _ _ _).trans (length_modifyAt _ _ _), length_modifyAt _ _ _⟩

section
variable {x : Volume}

theorem PassCharged.cut (h : v.PassCharged r x) (hc : r.completed = false) :
    v.Charged p r false (x.setPlanner (fun a => { a with fruitful := decide (1 ≤ v.settledThisPass r.track) })) where
  frame := by
    have hnot : ¬ (r.completed = true ∧ v.planner.phase = .survey ∧ false = false) := by simp [hc]
    rw [if_neg hnot]
    exact congrArg (fun y : Volume => y.setPlanner (fun a => { a with fruitful := decide (1 ≤ v.settledThisPass r.track) }))
      h.frame
  plan := by
    have hsame : (x.setPlanner (fun a => { a with
      fruitful := decide (1 ≤ v.settledThisPass r.track) })).plan r.track = x.plan r.track := rfl
    rw [hsame, h.plan, if_neg (fun h => Bool.false_ne_true (hc.symm.trans h.1)),
      if_neg (fun h => Bool.false_ne_true (hc.symm.trans h))]
  pending := h.pending
  others := h.others
  lengths := h.lengths

theorem judge_frame (x : Volume) (t n : Nat) : x.judge p t n misplaced = { x with planner := { x.planner with
    fruitful := decide (1 ≤ n)
    surveyCursor := if x.planner.phase = .survey ∧ misplaced = false then t + 1 else x.planner.surveyCursor
    tracks := (x.judge p t n misplaced).planner.tracks } } := by
  unfold judge
  simp only [Bool.not_eq_true]
  rfl

theorem judge_plan {t n : Nat} (ht : t < x.planner.tracks.length) : (x.judge p t n misplaced).plan t =
    { x.plan t with
      misplaced := misplaced
      ladderStep := if x.planner.phase = .recovery ∧ misplaced = false ∧ n = 0 then nextStep p (x.plan t).ladderStep
        else (x.plan t).ladderStep } := by
  refine (setPlan_plan_same (v := x) ht).trans ?_
  simp only [Bool.not_eq_true]

theorem PassCharged.completed (h : v.PassCharged r x) (hc : r.completed = true) (ht : r.track < v.planner.tracks.length) :
    v.Charged p r misplaced (x.judge p r.track (v.settledThisPass r.track) misplaced) where
  frame := by
    refine (judge_frame x r.track (v.settledThisPass r.track)).trans ?_
    have hmap : (x.judge p r.track (v.settledThisPass r.track) misplaced).planner.pendingMap = x.planner.pendingMap := rfl
    rw [hmap]
    generalize (x.judge p r.track (v.settledThisPass r.track) misplaced).planner.tracks = tracks
    generalize hpm : x.planner.pendingMap = pendingMap
    rw [h.frame, hpm]
    simp only [hc, true_and]
  plan := by
    have hphase : x.planner.phase = v.planner.phase := by rw [h.frame]
    rw [judge_plan (by rw [h.lengths.1]; exact ht), h.plan]
    simp only [hc, hphase, true_and, if_true]
  pending := h.pending
  others k hk := ⟨(setPlan_plan_ne (v := x) hk).trans (h.others k hk).1, (h.others k hk).2⟩
  lengths := ⟨(length_modifyAt _ _ _).trans h.lengths.1, h.lengths.2⟩

end

end

/-! ## The end of the track (R104, R137 steps 4 and 5) -/

/-- A volume whose reported track is tested: DONE with none open, EXHAUSTED where its passes are spent, else PENDING. -/
def concluded (x : Volume) (t : Nat) (spent : Bool) : Volume :=
  if (x.summary t).opn = 0 then x.setTrackState t .done else if spent then x.exhaust t else x

/-- The state the test gives the track. -/
def concludedState (x : Volume) (t : Nat) (spent : Bool) : TrackState :=
  if (x.summary t).opn = 0 then .done else if spent then .exhausted else .pending

section
variable {x : Volume} {t : Nat} {spent : Bool}

theorem concluded_plan (ht : t < x.planner.tracks.length) (hp : (x.plan t).state = .pending) :
    (x.concluded t spent).plan t = { x.plan t with state := x.concludedState t spent } := by
  unfold concluded concludedState
  split
  · exact setTrackState_plan_same ht
  · split
    · exact exhaust_plan_same ht
    · rw [← hp]

theorem concluded_pending (ht : t < x.planner.pendingMap.length) (hp : x.isPending t = true) :
    (x.concluded t spent).isPending t = decide (x.concludedState t spent = .pending) := by
  unfold concluded concludedState
  split
  · exact setTrackState_isPending_same ht
  · split
    · exact exhaust_isPending_same ht
    · exact hp

theorem concluded_others {k : Nat} (hk : k ≠ t) :
    (x.concluded t spent).plan k = x.plan k ∧ (x.concluded t spent).isPending k = x.isPending k := by
  unfold concluded
  split
  · exact ⟨setTrackState_plan_ne hk, setTrackState_isPending_ne hk⟩
  · split
    · exact ⟨exhaust_plan_ne hk, exhaust_isPending_ne hk⟩
    · exact ⟨rfl, rfl⟩

theorem concluded_frame : x.concluded t spent = { x.withRecordsOf (x.concluded t spent) with planner := { x.planner with
    tracks := (x.concluded t spent).planner.tracks, pendingMap := (x.concluded t spent).planner.pendingMap } } := by
  unfold concluded
  split
  · rw [setTrackState_eq]
    rfl
  · split
    · exact exhaust_frame x t
    · rfl

theorem concluded_unspent (h : (x.summary t).opn = 0 ∨ spent = false) :
    x.concluded t spent = { x with planner := (x.concluded t spent).planner } := by
  unfold concluded
  split
  · rw [setTrackState_eq]
  · next hn =>
    rw [h.resolve_left hn]
    rfl

theorem concluded_spent (hn : (x.summary t).opn ≠ 0) (hs : spent = true) : x.concluded t spent = x.exhaust t :=
  (if_neg hn).trans (if_pos hs)

/-- The open records of a track are as many as its summary tells (R94). -/
theorem mapsOk.openCount (h : x.mapsOk) (ht : t < x.trackCount) :
    (x.trackSectors t).countP (fun i => openRecord (x.record i)) = (x.summary t).opn := by
  obtain ⟨hopn, -, -, -⟩ := h.summaries t ht
  rw [hopn, countP_trackSectors, List.countP_map]
  refine List.countP_congr fun j _ => ?_
  rw [openRecord_iff]
  simp

/-- An EXHAUSTED track's open count moves to lost, in its summary and in the totals; the maps stay (R94, R95, R104). -/
theorem exhaust_counts (h : x.mapsOk) (ht : t < x.trackCount) :
    (x.exhaust t).summary t = { x.summary t with opn := 0, lost := (x.summary t).lost + (x.summary t).opn } ∧
    (x.exhaust t).totals = { x.totals with
      opn := x.totals.opn - (x.summary t).opn, lost := x.totals.lost + (x.summary t).opn } ∧
    (x.exhaust t).settledMap = x.settledMap ∧ (x.exhaust t).exclusionMap = x.exclusionMap := by
  obtain ⟨hform, -, hlength⟩ := h.form
  have hcount := h.openCount ht
  have hnd := x.nodup_trackSectors t
  have heq : x.exhaust t = (x.setTrackState t .exhausted).rewrite openRecord (fun r => { r with state := .lost })
      (x.trackSectors t) := loseTrack_eq _ _
  rw [heq]
  refine ⟨?_, ?_, ?_⟩
  · rw [summary_rewrite_same (v := x.setTrackState t .exhausted) moves_lose hform hnd (by rw [← hlength] at ht; exact ht)
      fun i hi => div_of_mem_trackSectors hi]
    simp only [setTrackState_record, setTrackState_summary, hcount, iterate_lose, Nat.sub_self]
  · rw [totals_rewrite (v := x.setTrackState t .exhausted) moves_lose hform hnd]
    simp only [setTrackState_record, hcount, iterate_lose]
    rfl
  · refine maps_rewrite (v := x.setTrackState t .exhausted) (fun _ _ => ⟨nofun, nofun⟩) hform hnd fun i _ hi => ?_
    have hopen : (x.record i).state ∈ [.unseen, .weak, .contested] := openRecord_iff.mp hi
    refine ⟨fun hm => ?_, fun hm => ?_⟩
    · rw [(h.settledMap i).mp hm] at hopen
      simp at hopen
    · rw [(h.exclusionMap i).mp hm] at hopen
      simp at hopen

theorem mapsOk_planner {v : Volume} {a : Planner} (h : v.mapsOk) : mapsOk { v with planner := a } :=
  ⟨h.form, h.summaries, h.totals, h.settledMap, h.exclusionMap⟩

end

end Volume

/-! ## What the report's handling leaves of the state (R137, R138, R141) -/

/-- A notice handed where it is due. -/
def Link.noticed (l : Link) (yes partFailed : Bool) (ch : Chan) (kind : NoticeKind) (payload : List Byte) : Link :=
  if yes then l.notify partFailed ch kind payload else l

/-- The payload of a PASS notice (R174). -/
def Channel.passPayload (c : Channel) (ch : Chan) (w : Volume) (r : PassReport) (f : PassFacts) : List Byte :=
  b1 ch.val ++ le4 w.tag ++ le2 r.track ++ b1 f.passNumber ++ b1 f.ladderStep ++ yesNo (!r.completed) ++
    b1 (causeByte r.cause) ++ b1 r.units ++ le2 f.settledNow ++ le2 (w.summary r.track).opn ++ yesNo f.misplaced ++
    yesNo (r.captureBegan && c.separator.windowHit) ++ talliesBytes (if r.captureBegan then c.decoder.tallies else .zero)

section
variable {s : State} {ch : Chan} {v w x : Volume} {l : Link} {r : PassReport} {f : PassFacts} {t : Nat}

theorem State.concluded_eq (spent : Prop) [Decidable spent] :
    (if (x.summary t).opn = 0 then s.trackDone ch x t
      else if spent then (s.setVolume ch (some (x.exhaust t))).trackNotice ch (x.exhaust t) t
      else s.setVolume ch (some x)) =
    s.planned ch (x.concluded t (decide spent)) (s.link.noticed (decide (x.concludedState t (decide spent) ≠ .pending))
      s.selfTest.partFailed ch .track ((x.concluded t (decide spent)).trackPayload ch t)) := by
  unfold Volume.concluded Volume.concludedState
  by_cases hn : (x.summary t).opn = 0
  · rw [if_pos hn, if_pos hn, if_pos hn]
    rfl
  · by_cases hs : spent
    · simp only [if_neg hn, if_pos hs, decide_eq_true hs, if_true]
      rfl
    · simp only [if_neg hn, if_neg hs, decide_eq_false hs]
      rfl

theorem State.planned_passNotice : (s.planned ch w l).passNoticeIfVerbose ch r f =
    s.planned ch w (l.noticed w.verbose s.selfTest.partFailed ch .pass ((s.channel ch).passPayload ch w r f)) := by
  simp only [State.passNoticeIfVerbose, State.planned_volume]
  unfold Link.noticed
  split <;> rfl

theorem State.planned_halts {reason : HaltReason} (h : w.planner.run = .running ∨ w.planner.run = .pausing) :
    (s.planned ch w l).haltVolume ch reason = s.planned ch (w.haltedFor reason)
      (l.notify s.selfTest.partFailed ch .volume ((w.haltedFor reason).volumePayload ch)) := by
  simp only [State.haltVolume, State.planned_volume, if_pos h]
  exact State.planned_volumeNotice

theorem State.planned_haltsNot {reason : HaltReason} (h : ¬ (w.planner.run = .running ∨ w.planner.run = .pausing)) :
    (s.planned ch w l).haltVolume ch reason = s.planned ch w l := by
  simp only [State.haltVolume, State.planned_volume, if_neg h]

theorem State.onward_running (hv : s.volume ch = some w) (h : w.planner.run = .running) : s.onward ch = s.choosePass ch := by
  simp only [State.onward, hv, h]

theorem State.onward_pausing (hv : s.volume ch = some w) (h : w.planner.run = .pausing) : s.onward ch =
    s.setVolume ch (some { w with planner := { w.planner with run := .paused } }) := by
  simp only [State.onward, hv, h]
  rfl

theorem State.onward_rests (hv : s.volume ch = some w) (hr : w.planner.run ≠ .running) (hp : w.planner.run ≠ .pausing) :
    s.onward ch = s := by
  simp only [State.onward, hv]
  cases h : w.planner.run with
  | running => exact absurd h hr
  | pausing => exact absurd h hp
  | stopped | paused | complete | endedPartial | halted => rfl

end

end Sys2Proof.Machine
end


/-! # The report of an outstanding order (R137, R138) -/

section
/-! SUPPORT. PASS_END_REPORT and CUT_REPORT as one handling: the charge, the track's end, the halt and the notices. -/

namespace Sys2Proof.Machine

/-! ## The report at the front (R137, R138) -/

section
variable {s : State} {ch : Chan} {c : Channel} {r : PassReport} {rest : List Handed} {v : Volume}

theorem State.popHanded_eq {h : Handed} (hc : s.channel ch = c) (hh : c.handed = h :: rest) :
    s.popHanded ch = s.putChannel ch { c with handed := rest } := by
  rw [State.popHanded, hc, hh]
  rfl

theorem State.reportedVolume_some (hv : s.volume ch = some v) (huid : v.uid = r.volume)
    (hout : v.planner.outstanding = some r.track) : s.reportedVolume ch r = some v := by
  rw [State.reportedVolume, hv]
  exact Option.filter_some_pos (by rw [huid, hout, beq_self_eq_true, beq_self_eq_true]; rfl)

theorem State.reportedVolume_none
    (h : ∀ v, s.volume ch = some v → v.uid ≠ r.volume ∨ v.planner.outstanding ≠ some r.track) :
    s.reportedVolume ch r = none := by
  refine Option.eq_none_iff_forall_ne_some.mpr fun v hv => ?_
  obtain ⟨hvolume, huid, hout⟩ := State.reportedVolume_eq_some hv
  exact (h v hvolume).elim (fun hne => hne huid) fun hne => hne hout

/-- The command that takes a report of either kind. -/
def PassReport.command (r : PassReport) (ch : Chan) : Instr := if r.completed then .passEndReport ch else .cutReport ch

theorem exec_report_discarded (hc : s.channel ch = c) (hh : c.handed = .report r :: rest)
    (h : s.reportedVolume ch r = none) : exec (r.command ch) s = .next (s.popHanded ch) := by
  subst hc
  unfold PassReport.command
  cases hcompl : r.completed with
  | true =>
    refine congrArg Host.Outcome.next ?_
    rw [hh]
    dsimp only
    rw [if_pos hcompl, h]
  | false =>
    refine congrArg Host.Outcome.next ?_
    rw [hh]
    dsimp only
    rw [if_neg (Bool.eq_false_iff.mp hcompl), h]

theorem exec_passEndReport_taken (hc : s.channel ch = c) (hh : c.handed = .report r :: rest) (hcompl : r.completed = true)
    (h : s.reportedVolume ch r = some v) :
    exec (r.command ch) s = .next ((s.popHanded ch).takeEndReport ch v r) := by
  subst hc
  unfold PassReport.command
  rw [if_pos hcompl]
  refine congrArg Host.Outcome.next ?_
  rw [hh]
  dsimp only
  rw [if_pos hcompl, h]

theorem exec_cutReport_taken (hc : s.channel ch = c) (hh : c.handed = .report r :: rest) (hcompl : r.completed = false)
    (h : s.reportedVolume ch r = some v) :
    exec (r.command ch) s = .next ((s.popHanded ch).takeCutReport ch v r) := by
  subst hc
  unfold PassReport.command
  rw [if_neg (Bool.eq_false_iff.mp hcompl)]
  refine congrArg Host.Outcome.next ?_
  rw [hh]
  dsimp only
  rw [if_neg (Bool.eq_false_iff.mp hcompl), h]

end

/-! ## The handling of a report -/

/-- The reason for which a report halts a volume: a cut by a fault or a media change of one that runs (R138 step 4). -/
def PassReport.haltReason (r : PassReport) (v : Volume) : Option HaltReason :=
  if r.completed then none
  else if v.planner.run = .running ∨ v.planner.run = .pausing then haltOf r.cause else none

/-- A volume halted where there is a reason. -/
def Volume.haltedIf (w : Volume) (reason : Option HaltReason) : Volume := reason.elim w w.haltedFor

/-- The notices of a report, in their order: TRACK, PASS, VOLUME (R141). -/
def State.reportLink (s : State) (ch : Chan) (c : Channel) (r : PassReport) (f : PassFacts) (w : Volume) (st : TrackState)
    (reason : Option HaltReason) : Link :=
  ((s.link.noticed (decide (st ≠ .pending)) s.selfTest.partFailed ch .track (w.trackPayload ch r.track)).noticed w.verbose
    s.selfTest.partFailed ch .pass (c.passPayload ch w r f)).noticed reason.isSome s.selfTest.partFailed ch .volume
      ((w.haltedIf reason).volumePayload ch)

/-- What a PASS notice tells of a report. -/
def PassReport.facts (r : PassReport) (v : Volume) (misplaced : Bool) : PassFacts :=
  { passNumber := (v.plan r.track).passesUsed + 1, ladderStep := (v.plan r.track).ladderStep
    settledNow := v.settledThisPass r.track, misplaced := misplaced }

section
variable {s : State} {ch : Chan} {c : Channel} {r : PassReport} {rest : List Handed} {v : Volume}

/-- The channel as its report is taken; a misplaced pass makes the position not known (R137 step 2). -/
def Channel.reported (c : Channel) (rest : List Handed) (misplaced : Bool) : Channel := { c with
  handed := rest, positionKnown := if misplaced then false else c.positionKnown }

theorem Channel.reported_drive (c : Channel) (rest : List Handed) :
    Channel.drive { ({ c with handed := rest } : Channel).drive with positionKnown := false } = (c.reported rest true).drive := by
  refine (congrArg Channel.drive (show _ = (c.reported rest true).wired (outputsOf c)
    (if (outputsOf c).motor then c.sincePulse else none) from rfl)).trans (Channel.wired_drive (fun h => ?_) _)
  have hm : (outputsOf c).motor = true := h
  exact if_pos hm

theorem State.popHanded_reported (hc : s.channel ch = c) (hh : c.handed = .report r :: rest) {misplaced : Bool} :
    (if misplaced then (s.popHanded ch).putChannel ch { (s.popHanded ch).channel ch with positionKnown := false }
      else s.popHanded ch) = s.putChannel ch (c.reported rest misplaced) := by
  rw [State.popHanded_eq hc hh]
  cases misplaced with
  | false => rfl
  | true =>
    rw [if_pos rfl, State.putChannel_putChannel, State.putChannel_channel]
    exact congrArg (fun d => ({ s with channels := qset s.channels ch d } : State)) (Channel.reported_drive c rest)

/-- A volume as its report leaves it: charged, its track tested, and halted where there is a reason. -/
def Volume.reportedAs (x : Volume) (r : PassReport) (spent : Bool) (reason : Option HaltReason) : Volume :=
  (x.concluded r.track spent).haltedIf reason

/-- The state after a report is handled and before the next choice. -/
def State.reported (s : State) (ch : Chan) (c : Channel) (r : PassReport) (rest : List Handed) (v x : Volume)
    (misplaced spent : Bool) (reason : Option HaltReason) : State :=
  (s.putChannel ch (c.reported rest misplaced)).planned ch (x.reportedAs r spent reason)
    (s.reportLink ch c r (r.facts v misplaced) (x.concluded r.track spent) (x.concludedState r.track spent) reason)

theorem State.passPayload_reported {misplaced : Bool} {w : Volume} {f : PassFacts} :
    ((s.putChannel ch (c.reported rest misplaced)).channel ch).passPayload ch w r f = c.passPayload ch w r f := by
  rw [State.putChannel_channel]
  rfl

theorem State.takeEndReport_eq (hc : s.channel ch = c) (hh : c.handed = .report r :: rest) {misplaced : Bool}
    (hm : passMisplaced c.decoder.tallies = misplaced) {x : Volume}
    (hx : (v.chargePass r).judge (s.chanProfile ch) r.track (v.settledThisPass r.track) misplaced = x) {spent : Bool}
    (hs : decide (x.planner.passBudget ≤ (x.plan r.track).passesUsed) = spent) :
    (s.popHanded ch).takeEndReport ch v r = (s.reported ch c r rest v x misplaced spent none).onward ch := by
  have hdecoder : passMisplaced ((s.popHanded ch).channel ch).decoder.tallies = misplaced := by
    rw [State.popHanded_eq hc hh, State.putChannel_channel]
    exact hm
  have hp : (s.popHanded ch).chanProfile ch = s.chanProfile ch := rfl
  unfold State.takeEndReport
  simp only [hdecoder, hp, hx]
  rw [State.popHanded_reported hc hh, State.concluded_eq, State.planned_passNotice, State.passPayload_reported, hs]
  rfl

theorem State.takeCutReport_eq (hc : s.channel ch = c) (hh : c.handed = .report r :: rest) {x : Volume}
    (hx : (v.chargePass r).setPlanner (fun a => { a with fruitful := decide (1 ≤ v.settledThisPass r.track) }) = x)
    {reason : Option HaltReason}
    (hreason : (if x.planner.run = .running ∨ x.planner.run = .pausing then haltOf r.cause else none) = reason) :
    (s.popHanded ch).takeCutReport ch v r = (s.reported ch c r rest v x false false reason).onward ch := by
  have hpop : s.popHanded ch = s.putChannel ch (c.reported rest false) := State.popHanded_reported (misplaced := false) hc hh
  have hconcluded := fun t : State => State.concluded_eq (s := t) (ch := ch) (x := x) (t := r.track) False
  simp only [if_false, decide_false] at hconcluded
  have hrun : (x.concluded r.track false).planner.run = x.planner.run := by rw [Volume.concluded_frame]
  rw [← hrun] at hreason
  unfold State.takeCutReport
  simp only [hx]
  rw [hpop, hconcluded, State.planned_passNotice, State.passPayload_reported]
  refine congrArg (State.onward · ch) ?_
  rw [← hreason]
  cases hhalt : haltOf r.cause with
  | none => simp only [ite_self]; rfl
  | some h =>
    by_cases hgo : (x.concluded r.track false).planner.run = .running ∨ (x.concluded r.track false).planner.run = .pausing
    · rw [if_pos hgo]
      exact State.planned_halts hgo
    · rw [if_neg hgo]
      exact State.planned_haltsNot hgo

end

/-! ## The volume a report leaves -/

namespace Volume

section
variable {v x w : Volume} {p : Profile} {r : PassReport} {misplaced spent : Bool} {reason : Option HaltReason}

theorem haltedIf_eq : w.haltedIf reason = { w with planner := { w.planner with
    run := if reason = none then w.planner.run else .halted, halt := reason.getD w.planner.halt } } := by
  cases reason <;> rfl

theorem Charged.with_planner (hx : v.Charged p r misplaced x) : x = { v with planner := x.planner } := by
  rw [hx.frame]

theorem Charged.summary (hx : v.Charged p r misplaced x) (k : Nat) : x.summary k = v.summary k := by
  rw [hx.with_planner]
  rfl

theorem reportedAs_plan (k : Nat) : (x.reportedAs r spent reason).plan k = (x.concluded r.track spent).plan k := by
  refine plan_of_tracks ?_ k
  rw [reportedAs, haltedIf_eq]

theorem reportedAs_isPending (k : Nat) :
    (x.reportedAs r spent reason).isPending k = (x.concluded r.track spent).isPending k := by
  refine isPending_of_map ?_ k
  rw [reportedAs, haltedIf_eq]

theorem reportedAs_withRecordsOf :
    x.reportedAs r spent reason = { x.withRecordsOf (x.concluded r.track spent) with
      planner := (x.reportedAs r spent reason).planner } := by
  rw [reportedAs, haltedIf_eq]
  exact congrArg (fun w : Volume => { w with planner := { (x.concluded r.track spent).planner with
    run := if reason = none then (x.concluded r.track spent).planner.run else .halted
    halt := reason.getD (x.concluded r.track spent).planner.halt } }) concluded_frame

/-- The planner after a report: run and halt reason, the order no longer outstanding, wear, fruit and cursor (R137, R138). -/
theorem Charged.reported_planner (hx : v.Charged p r misplaced x) :
    (x.reportedAs r spent reason).planner = { v.planner with
      run := if reason = none then v.planner.run else .halted
      halt := reason.getD v.planner.halt
      outstanding := none, wearUsed := min (v.planner.wearUsed + r.units) v.planner.wearBudget
      fruitful := decide (1 ≤ v.settledThisPass r.track)
      surveyCursor := if r.completed ∧ v.planner.phase = .survey ∧ misplaced = false then r.track + 1
        else v.planner.surveyCursor
      tracks := (x.reportedAs r spent reason).planner.tracks
      pendingMap := (x.reportedAs r spent reason).planner.pendingMap } := by
  have hframe := congrArg Volume.planner (concluded_frame (x := x) (t := r.track) (spent := spent))
  rw [reportedAs, haltedIf_eq]
  generalize (x.concluded r.track spent).planner = a at hframe ⊢
  rw [hx.frame] at hframe
  rw [hframe]

section
variable (hx : v.Charged p r misplaced x) (ht : r.track < v.planner.tracks.length) (hp : r.track < v.planner.pendingMap.length)
include hx

theorem Charged.concludedState_eq : x.concludedState r.track spent =
    if (v.summary r.track).opn = 0 then .done else if spent then .exhausted else .pending := by
  rw [concludedState, hx.summary]

include ht in
theorem Charged.reported_plan : (x.reportedAs r spent reason).plan r.track =
    { x.plan r.track with state := x.concludedState r.track spent } := by
  rw [reportedAs_plan, concluded_plan (by rw [hx.lengths.1]; exact ht) (by rw [hx.plan])]

include ht hp in
theorem Charged.reported_isPending : (x.reportedAs r spent reason).isPending r.track =
    decide (((x.reportedAs r spent reason).plan r.track).state = .pending) := by
  rw [hx.reported_plan ht, reportedAs_isPending, concluded_pending (by rw [hx.lengths.2]; exact hp) hx.pending]

theorem Charged.reported_others {k : Nat} (hk : k ≠ r.track) : (x.reportedAs r spent reason).plan k = v.plan k ∧
    (x.reportedAs r spent reason).isPending k = v.isPending k := by
  rw [reportedAs_plan, reportedAs_isPending, (concluded_others hk).1, (concluded_others hk).2]
  exact hx.others k hk

theorem Charged.reported_unspent (h : (v.summary r.track).opn = 0 ∨ spent = false) :
    x.reportedAs r spent reason = { v with planner := (x.reportedAs r spent reason).planner } := by
  have hconcluded := concluded_unspent (x := x) (t := r.track) (spent := spent) (by rw [hx.summary]; exact h)
  have hwith := hx.with_planner
  rw [reportedAs, haltedIf_eq, hconcluded, hwith]

/-- The records, counts and totals of an EXHAUSTED track (R104). -/
theorem Charged.reported_spent (hn : (v.summary r.track).opn ≠ 0) (hs : spent = true) (hmaps : v.mapsOk)
    (htrack : r.track < v.trackCount) :
    (∀ j, (x.reportedAs r spent reason).record j =
      if r.track * v.sectors ≤ j ∧ j < (r.track + 1) * v.sectors ∧ (v.record j).state ∈ [.unseen, .weak, .contested] then
        { v.record j with state := .lost } else v.record j) ∧
    (x.reportedAs r spent reason).summary r.track = { v.summary r.track with
      opn := 0, lost := (v.summary r.track).lost + (v.summary r.track).opn } ∧
    (∀ k, k ≠ r.track → (x.reportedAs r spent reason).summary k = v.summary k) ∧
    x.reportedAs r spent reason = { v with
      planner := (x.reportedAs r spent reason).planner, records := (x.reportedAs r spent reason).records
      summaries := (x.reportedAs r spent reason).summaries
      totals := { v.totals with
        opn := v.totals.opn - (v.summary r.track).opn, lost := v.totals.lost + (v.summary r.track).opn } } := by
  have hwith := hx.with_planner
  have hok : x.mapsOk := by
    rw [hwith]
    exact mapsOk_planner hmaps
  have hsectors : x.sectors = v.sectors := by rw [hwith]
  have htc : r.track < x.trackCount := by rw [hwith]; exact htrack
  have hrecord : ∀ j, x.record j = v.record j := fun j => by rw [hwith]; rfl
  have htotals : x.totals = v.totals := by rw [hwith]
  have hw : x.concluded r.track spent = x.exhaust r.track := concluded_spent (by rw [hx.summary]; exact hn) hs
  obtain ⟨hsum, htot, hset, hexcl⟩ := exhaust_counts hok htc
  have hform := hok.form.1
  have hframe : x.reportedAs r spent reason = { x.withRecordsOf (x.exhaust r.track) with
      planner := (x.reportedAs r spent reason).planner } := by
    rw [← hw]
    exact reportedAs_withRecordsOf
  have hr : (x.reportedAs r spent reason).records = (x.exhaust r.track).records := by rw [hframe]; rfl
  have hsm : (x.reportedAs r spent reason).summaries = (x.exhaust r.track).summaries := by rw [hframe]; rfl
  refine ⟨fun j => ?_, ?_, fun k hk => ?_, ?_⟩
  · rw [Volume.record, hr, ← Volume.record, record_exhaust hform, hsectors, hrecord]
  · rw [Volume.summary, hsm, ← Volume.summary, hsum, hx.summary]
  · rw [Volume.summary, hsm, ← Volume.summary, summary_exhaust_ne hk, hx.summary]
  · rw [hr, hsm]
    generalize (x.reportedAs r spent reason).planner = a at hframe ⊢
    rw [hframe, withRecordsOf, htot, hset, hexcl, hx.summary, htotals]
    generalize (x.exhaust r.track).records = records
    generalize (x.exhaust r.track).summaries = summaries
    rw [hwith]

end

end

end Volume

/-! ## A report taken (R137, R138) -/

section
variable {s : State} {ch : Chan} {c : Channel} {r : PassReport} {rest : List Handed} {v : Volume}

/-- A completed pass is misplaced by its tallies (R137 step 2); a cut one never is. -/
def PassReport.misplaced (r : PassReport) (c : Channel) : Bool := r.completed && decide (1 ≤ c.decoder.tallies.wrongTrack) &&
  decide (c.decoder.tallies.goodHeaders ≤ c.decoder.tallies.wrongTrack)

/-- A completed pass leaves its track's passes spent (R137 step 5). -/
def PassReport.spent (r : PassReport) (v : Volume) : Bool :=
  r.completed && decide (v.planner.passBudget ≤ (v.plan r.track).passesUsed + r.captureBegan.toNat)

theorem Volume.Charged.passBudget {x : Volume} {p : Profile} {misplaced : Bool} (hx : v.Charged p r misplaced x) :
    x.planner.passBudget = v.planner.passBudget ∧ x.planner.run = v.planner.run := by
  rw [hx.frame]
  exact ⟨rfl, rfl⟩

theorem exec_report_taken (hc : s.channel ch = c) (hh : c.handed = .report r :: rest) (hv : s.volume ch = some v)
    (huid : v.uid = r.volume) (hout : v.planner.outstanding = some r.track) (ht : r.track < v.planner.tracks.length)
    (hp : r.track < v.planner.pendingMap.length) (hlt : (v.plan r.track).passesUsed < 255) :
    ∃ x, v.Charged (s.chanProfile ch) r (r.misplaced c) x ∧ exec (r.command ch) s =
      .next ((s.reported ch c r rest v x (r.misplaced c) (r.spent v) (r.haltReason v)).onward ch) := by
  have hv' := State.reportedVolume_some hv huid hout
  have hcharged := Volume.chargePass_charged ht hp hlt
  cases hcompl : r.completed with
  | true =>
    have hx := hcharged.completed (p := s.chanProfile ch) (misplaced := r.misplaced c) hcompl ht
    refine ⟨_, hx, (exec_passEndReport_taken hc hh hcompl hv').trans (congrArg Host.Outcome.next ?_)⟩
    have hreason : r.haltReason v = none := if_pos hcompl
    rw [hreason]
    refine State.takeEndReport_eq hc hh ?_ rfl ?_
    · simp only [PassReport.misplaced, passMisplaced, hcompl, Bool.true_and]
    · rw [hx.passBudget.1, hx.plan, PassReport.spent, hcompl, Bool.true_and]
  | false =>
    have hmis : r.misplaced c = false := by simp only [PassReport.misplaced, hcompl, Bool.false_and]
    have hspent : r.spent v = false := by rw [PassReport.spent, hcompl, Bool.false_and]
    have hx := hcharged.cut (p := s.chanProfile ch) hcompl
    rw [hmis, hspent]
    refine ⟨_, hx, (exec_cutReport_taken hc hh hcompl hv').trans (congrArg Host.Outcome.next ?_)⟩
    refine State.takeCutReport_eq hc hh rfl ?_
    rw [hx.passBudget.2, PassReport.haltReason, if_neg (Bool.eq_false_iff.mp hcompl)]

end

/-! ## The state after a report -/

section
variable {s : State} {ch : Chan} {c : Channel} {r : PassReport} {rest : List Handed} {v x : Volume} {misplaced spent : Bool}
  {reason : Option HaltReason}

theorem State.reported_volume : (s.reported ch c r rest v x misplaced spent reason).volume ch =
    some (x.reportedAs r spent reason) := State.planned_volume

theorem State.reported_channel : (s.reported ch c r rest v x misplaced spent reason).channel ch =
    (c.reported rest misplaced).drive := State.putChannel_channel _ _ _

theorem State.reported_others {k : Chan} (hk : k ≠ ch) :
    (s.reported ch c r rest v x misplaced spent reason).channel k = s.channel k ∧
    (s.reported ch c r rest v x misplaced spent reason).volume k = s.volume k :=
  ⟨State.putChannel_channel_ne _ _ _ _ hk, State.setVolume_volume_ne _ _ _ _ hk⟩

theorem State.reported_link : (s.reported ch c r rest v x misplaced spent reason).link =
    s.reportLink ch c r (r.facts v misplaced) (x.concluded r.track spent) (x.concludedState r.track spent) reason := rfl

/-- A halt changes no name, entry or count that a TRACK or PASS notice tells. -/
theorem Volume.reportedAs_payloads {f : PassFacts} : (x.concluded r.track spent).verbose = (x.reportedAs r spent reason).verbose ∧
    (x.concluded r.track spent).trackPayload ch r.track = (x.reportedAs r spent reason).trackPayload ch r.track ∧
    c.passPayload ch (x.concluded r.track spent) r f = c.passPayload ch (x.reportedAs r spent reason) r f := by
  rw [Volume.reportedAs, Volume.haltedIf_eq]
  exact ⟨rfl, rfl, rfl⟩

theorem Volume.Charged.reported_names {p : Profile} (hx : v.Charged p r misplaced x) :
    (x.reportedAs r spent reason).tag = v.tag ∧ (x.reportedAs r spent reason).verbose = v.verbose := by
  rw [Volume.reportedAs_withRecordsOf]
  have hwith := hx.with_planner
  rw [Volume.withRecordsOf, hwith]
  exact ⟨rfl, rfl⟩

end

/-- Settles O59: a report charges its volume, tests its track, tells the notices and goes on by the run state; a report for no
outstanding order is discarded. -/
theorem reportsTaken : Obligations.ReportsTaken := by
  intro s ch c r rest i hc hh hi
  have hi : i = r.command ch := hi
  rw [hi]
  refine ⟨fun hnone => ?_, ?_⟩
  · rw [exec_report_discarded hc hh (State.reportedVolume_none hnone), State.popHanded_eq hc hh]
  · intro v hv huid hout hlen htrack hsummaries hbeyond hmap settledNow e p n misplaced spent reason hlt
    obtain ⟨x, hx, hexec⟩ := exec_report_taken hc hh hv huid hout (by rw [hlen]; exact htrack) (by rw [hmap]; exact htrack) hlt
    have ht : r.track < v.planner.tracks.length := by rw [hlen]; exact htrack
    have hp : r.track < v.planner.pendingMap.length := by rw [hmap]; exact htrack
    have hreason : reason = r.haltReason v := by
      simp only [reason, PassReport.haltReason, haltOf]
      cases r.cause <;> rfl
    have hmisplaced : misplaced = r.misplaced c := rfl
    have hspent : spent = r.spent v := rfl
    clear_value reason misplaced spent
    rw [← hmisplaced, ← hspent, ← hreason] at hexec
    rw [← hmisplaced] at hx
    have hu := State.reported_volume (s := s) (ch := ch) (c := c) (r := r) (rest := rest) (v := v) (x := x)
      (misplaced := misplaced) (spent := spent) (reason := reason)
    have hplan : (x.reportedAs r spent reason).plan r.track = { x.plan r.track with
      state := if n = 0 then .done else if spent then .exhausted else .pending } := by
      rw [hx.reported_plan ht, hx.concludedState_eq]
    refine ⟨s.reported ch c r rest v x misplaced spent reason, x.reportedAs r spent reason, hu, fun hrun => ?_, fun hrun => ?_,
      fun hrun hpause => ?_, rfl, fun k hk => State.reported_others hk, State.reported_channel, hx.reported_planner, ?_,
      hx.reported_isPending ht hp, fun k hk => hx.reported_others hk, hx.reported_unspent,
      fun hn hs hmaps => hx.reported_spent hn hs hmaps htrack, ?_⟩
    · rw [hexec, State.onward_running hu hrun]
    · rw [hexec, State.onward_pausing hu hrun]
    · rw [hexec, State.onward_rests hu hrun hpause]
    · rw [hplan, hx.plan]
      rfl
    · obtain ⟨hverbose, htrackPayload, hpassPayload⟩ := Volume.reportedAs_payloads (x := x) (r := r) (c := c) (ch := ch)
        (spent := spent) (reason := reason) (f := r.facts v misplaced)
      obtain ⟨htag, hver⟩ := hx.reported_names (spent := spent) (reason := reason)
      have hplanner := hx.reported_planner (spent := spent) (reason := reason)
      have hstate : x.concludedState r.track spent = ((x.reportedAs r spent reason).plan r.track).state := by
        rw [hx.reported_plan ht]
      have hw : (x.concluded r.track spent).haltedIf reason = x.reportedAs r spent reason := rfl
      rw [State.reported_link, State.reportLink, hverbose, htrackPayload, hpassPayload, hstate, hw, hver]
      generalize x.reportedAs r spent reason = w at htag hplanner
      intro counts noticed tallies trackNotice passNotice volumeNotice
      have htrackNotice : w.trackPayload ch r.track = b1 ch.val ++ le4 v.tag ++ trackNotice := by
        simp only [Volume.trackPayload, htag, trackNotice, counts, List.append_assoc]
      have hpassNotice : c.passPayload ch w r (r.facts v misplaced) = b1 ch.val ++ le4 v.tag ++ passNotice := by
        simp only [Channel.passPayload, htag, passNotice, talliesBytes, List.append_assoc]
        rfl
      rw [htrackNotice, hpassNotice]
      cases reason with
      | none => rfl
      | some reason =>
        have hvolumeNotice : w.volumePayload ch = b1 ch.val ++ le4 v.tag ++ volumeNotice := by
          simp only [Volume.volumePayload, htag, volumeNotice, List.append_assoc]
          rw [hplanner]
          rfl
        rw [hvolumeNotice]
        rfl

end Sys2Proof.Machine
end


/-! # A reading's candidate: merged, added or turned away (R97, R100, R101, R115) -/

section
/-! SUPPORT. What the pool's operations leave in each slot, and what a reading makes of a record's candidate list. -/

namespace Sys2Proof.Machine

/-! ## The slots of the pool (R97, R100, R114) -/

theorem maxEach_eq_zipWith (a b : List Nat) : maxEach a b = List.zipWith max a b := by
  induction a generalizing b with
  | nil => rfl
  | cons x a ih =>
    cases b with
    | nil => rfl
    | cons y b => exact congrArg (max x y :: ·) (ih b)

/-- The first of a list that passes a test, where no other does. -/
theorem find?_eq_some_of_unique {α : Type} {P : α → Bool} {l : List α} {a : α} (ha : a ∈ l) (hP : P a = true)
    (h : ∀ b ∈ l, b ≠ a → P b = false) : l.find? P = some a := by
  obtain ⟨b, hb⟩ := Option.isSome_iff_exists.mp (List.find?_isSome.mpr ⟨a, ha, hP⟩)
  rw [hb]
  refine congrArg some (Classical.byContradiction fun hne => ?_)
  exact Bool.false_ne_true ((h b (List.mem_of_find?_eq_some hb) hne).symm.trans (List.find?_some hb))

namespace Pool

/-- One slot holds a candidate and an area; every other slot is as it was. -/
def Stored (p q : Pool) (slot : Nat) (c : Candidate) (area : Area) : Prop :=
  q.descriptor slot = some c ∧ areaOf q.memory slot = area ∧
    ∀ n, n ≠ slot → q.descriptor n = p.descriptor n ∧ areaOf q.memory n = areaOf p.memory n

section
variable {p q : Pool} {slot : Nat} {c : Candidate} {data : List Byte} {confs : List Nat}

theorem stored_write (hd : mapOk none p.descriptors = true) (hm : memoryOk p.memory = true) :
    p.Stored (p.write slot c data confs) slot c
      { data := data ++ (areaOf p.memory slot).data.drop data.length
        confidences := confs ++ (areaOf p.memory slot).confidences.drop confs.length } := by
  refine ⟨?_, areaOf_writeArea_same hm _ _ _, fun n hn => ⟨?_, areaOf_writeArea_ne _ _ _ _ _ hn⟩⟩
  · rw [descriptor_write hd, if_pos rfl]
  · rw [descriptor_write hd, if_neg hn]

theorem merge_eq (hc : p.descriptor slot = some c) (ok : Bool) : p.merge slot confs ok = { p with
    descriptors := mapSet none p.descriptors slot (some { c with
      matchCount := min 255 (c.matchCount + 1)
      score := (List.zipWith max ((areaOf p.memory slot).confidences.take confs.length) confs).sum
      checkOk := c.checkOk || ok })
    memory := writeArea p.memory slot [] (List.zipWith max ((areaOf p.memory slot).confidences.take confs.length) confs) } := by
  simp only [merge, hc, maxEach_eq_zipWith]
  rfl

theorem stored_merge (hd : mapOk none p.descriptors = true) (hm : memoryOk p.memory = true) (hc : p.descriptor slot = some c)
    (ok : Bool) : p.Stored (p.merge slot confs ok) slot
      { c with
        matchCount := min 255 (c.matchCount + 1)
        score := (List.zipWith max ((areaOf p.memory slot).confidences.take confs.length) confs).sum
        checkOk := c.checkOk || ok }
      { data := (areaOf p.memory slot).data
        confidences := List.zipWith max ((areaOf p.memory slot).confidences.take confs.length) confs ++
          (areaOf p.memory slot).confidences.drop
            (List.zipWith max ((areaOf p.memory slot).confidences.take confs.length) confs).length } := by
  rw [merge_eq hc]
  exact ⟨mapGet_mapSet_same hd _ _, areaOf_writeArea_same hm _ _ _,
    fun n hn => ⟨mapGet_mapSet_ne _ hn, areaOf_writeArea_ne _ _ _ _ _ hn⟩⟩

theorem merge_freeList (p : Pool) (slot : Nat) (confs : List Nat) (ok : Bool) : (p.merge slot confs ok).freeList = p.freeList :=
  (merge_keeps confs ok).free

theorem sameVersion_iff {cls : MarkClass} : p.sameVersion slot data cls = true ↔ ∃ c, p.descriptor slot = some c ∧
    c.markClass = cls ∧ (areaOf p.memory slot).data.take data.length = data := by
  unfold sameVersion Pool.data
  cases p.descriptor slot with
  | none => simp
  | some c => simp

theorem allocate_cons {free : List Nat} (h : p.freeList = slot :: free) :
    p.allocate c data confs = some (slot, { p with freeList := free }.write slot c data confs) := by
  simp only [allocate, h]

theorem allocate_nil (h : p.freeList = []) : p.allocate c data confs = none := by
  simp only [allocate, h]

theorem mem_freeList_giveBackAll (p : Pool) (l : List Nat) (n : Nat) :
    n ∈ (p.giveBackAll l).freeList ↔ n ∈ l ∨ n ∈ p.freeList := by
  induction l generalizing p with
  | nil => simp [giveBackAll]
  | cons k l ih =>
    refine (ih (p.giveBack k)).trans ?_
    rw [show (p.giveBack k).freeList = insertAsc p.freeList k from rfl, mem_insertAsc, List.mem_cons]
    exact or_left_comm.trans or_assoc.symm

end

end Pool

/-! ## A new candidate (R101, R115) -/

/-- Two records with the same count of readings and the same flags of what they showed. -/
def SectorRecord.SameReads (a b : SectorRecord) : Prop :=
  b.reads = a.reads ∧ b.deletedSeen = a.deletedSeen ∧ b.truncatedSeen = a.truncatedSeen

namespace Work

section
variable {k : Work} {slot : Nat} {c : Candidate} {data : List Byte} {confs : List Nat} {armed : Bool} {free before : List Nat}

theorem addCandidate_granted (hlen : k.record.candidates.length < 4) (hfree : k.pool.freeList = slot :: free) :
    k.addCandidate c data confs armed =
      k.enter slot ({ k.pool with freeList := free }.write slot c data confs) k.record.candidates armed false := by
  have hroom : k.record.candidates.length < Config.maxCandidates := hlen
  unfold addCandidate
  rw [if_pos hroom, Pool.allocate_cons hfree]

theorem addCandidate_full (h : 4 ≤ k.record.candidates.length ∨ k.pool.freeList = []) :
    k.addCandidate c data confs armed = k.replaceLowest c data confs armed := by
  unfold addCandidate
  split
  · next hlt => rw [Pool.allocate_nil (h.resolve_left (Nat.not_le_of_lt hlt))]
  · rfl

theorem replaceLowest_nil (h : k.record.candidates = []) :
    k.replaceLowest c data confs armed = { k with record := { k.record with overflowed := true } } := by
  simp only [replaceLowest, h, List.getLast?_nil]

theorem replaceLowest_last {low : Candidate} (h : k.record.candidates = before ++ [slot]) (hlow : k.pool.descriptor slot = some low) :
    k.replaceLowest c data confs armed = if ranksAbove c low = true then
      k.enter slot (k.pool.write slot c data confs) before armed true
      else { k with record := { k.record with overflowed := true } } := by
  simp only [replaceLowest, h, List.getLast?_concat, hlow, List.dropLast_concat]

/-- What a candidate entered into a record's list leaves: the list with it, in rank order. -/
theorem enter_record (p : Pool) (kept : List Nat) (overflowed : Bool) :
    (k.enter slot p kept armed overflowed).record = { k.record with
      candidates := (k.enter slot p kept armed overflowed).record.candidates, fusionArmed := armed
      overflowed := k.record.overflowed || overflowed } ∧
    (k.enter slot p kept armed overflowed).record.candidates.Perm (slot :: kept) ∧
    (k.enter slot p kept armed overflowed).pool.Ranked (k.enter slot p kept armed overflowed).record.candidates :=
  ⟨rfl, (p.rankOrder_perm _).trans (List.perm_append_comm (l₂ := [slot])), p.rankOrder_ranked _⟩

end

/-! ## A reading merged, or made a candidate (R100, R101) -/

section
variable {k : Work} {e : ReadingEnv} {slot : Nat} {c : Candidate} {free before : List Nat}

theorem mergeOrForm_merges (hmem : slot ∈ k.record.candidates)
    (hver : k.pool.sameVersion slot e.reading.data e.reading.markClass = true)
    (hone : ∀ b ∈ k.record.candidates, b ≠ slot → k.pool.sameVersion b e.reading.data e.reading.markClass = false) :
    k.mergeOrForm e = { k with
      pool := k.pool.merge slot e.reading.confidences e.reading.checkOk
      record := { k.record with
        candidates := (k.pool.merge slot e.reading.confidences e.reading.checkOk).rankOrder k.record.candidates
        fusionArmed := true } } := by
  simp only [mergeOrForm, find?_eq_some_of_unique hmem hver hone]

theorem mergeOrForm_forms (hnone : ∀ b ∈ k.record.candidates, k.pool.sameVersion b e.reading.data e.reading.markClass = false) :
    k.mergeOrForm e = k.addCandidate (readCandidate e k.pool.entries) e.reading.data e.reading.confidences true := by
  have hfind : k.record.candidates.find? (fun b => k.pool.sameVersion b e.reading.data e.reading.markClass) = none :=
    List.find?_eq_none.mpr fun b hb => Bool.eq_false_iff.mp (hnone b hb)
  simp only [mergeOrForm, hfind]

/-- A candidate put into a record's list leaves image memory, the scratch slots and the record's counts of readings. -/
theorem addCandidate_leaves (w : Work) (c : Candidate) (data : List Byte) (confs : List Nat) (armed : Bool) :
    (w.addCandidate c data confs armed).image = w.image ∧
    (w.addCandidate c data confs armed).pool.scratch = w.pool.scratch ∧
    w.record.SameReads (w.addCandidate c data confs armed).record := by
  have hlowest : (w.replaceLowest c data confs armed).image = w.image ∧
      (w.replaceLowest c data confs armed).pool.scratch = w.pool.scratch ∧
      w.record.SameReads (w.replaceLowest c data confs armed).record := by
    unfold replaceLowest
    split
    · exact ⟨rfl, rfl, rfl, rfl, rfl⟩
    · split
      · exact ⟨rfl, rfl, rfl, rfl, rfl⟩
      · split <;> exact ⟨rfl, rfl, rfl, rfl, rfl⟩
  unfold addCandidate
  split
  · split
    · next hgrant =>
      obtain ⟨rest, -, rfl⟩ := Pool.allocate_eq_some hgrant
      exact ⟨rfl, rfl, rfl, rfl, rfl⟩
    · exact hlowest
  · exact hlowest

theorem mergeOrForm_image (k : Work) (e : ReadingEnv) : (k.mergeOrForm e).image = k.image := by
  unfold mergeOrForm
  split
  · rfl
  · exact (addCandidate_leaves _ _ _ _ _).1

end

end Work

/-! ## What a reading makes of a record's candidates (R100, R101, R118) -/

section
variable {k : Work} {e : ReadingEnv} {slot : Nat} {c : Candidate} {free before : List Nat}

theorem Pool.sameVersion_false {p : Pool} {data : List Byte} {cls : MarkClass} (h : ∀ c, ¬ (p.descriptor slot = some c ∧
    c.markClass = cls ∧ (areaOf p.memory slot).data.take data.length = data)) : p.sameVersion slot data cls = false :=
  Bool.eq_false_iff.mpr fun hver => (Pool.sameVersion_iff.mp hver).elim h

/-- The area of a slot a reading has been written into (R114). -/
def Reading.areaIn (x : Reading) (p : Pool) (slot : Nat) : Area :=
  { data := x.data ++ (areaOf p.memory slot).data.drop x.data.length
    confidences := x.confidences ++ (areaOf p.memory slot).confidences.drop x.data.length }

theorem Pool.stored_reading {p : Pool} {x : Reading} (hd : mapOk none p.descriptors = true) (hm : memoryOk p.memory = true)
    (hlen : x.confidences.length = x.data.length) :
    p.Stored (p.write slot c x.data x.confidences) slot c (x.areaIn p slot) := by
  rw [Reading.areaIn, ← hlen]
  nth_rw 1 [hlen]
  exact Pool.stored_write hd hm

end

end Sys2Proof.Machine
end


/-! # A record evaluated (R102, R103, R126, R127) -/

section
/-! SUPPORT. The quorum, the states a record takes without one, a fusion's result, and a record settled. -/

namespace Sys2Proof.Machine

namespace Pool

section
variable {p : Pool} {slot : Nat} {c : Candidate}

theorem slotOk_some (h : p.descriptor slot = some c) : p.slotOk slot = c.checkOk := by
  simp only [slotOk, h]

theorem slotOk_iff : p.slotOk slot = true ↔ ∃ c, p.descriptor slot = some c ∧ c.checkOk = true := by
  unfold slotOk
  cases p.descriptor slot with
  | none => simp
  | some c => simp

theorem slotMatches_some (h : p.descriptor slot = some c) : p.slotMatches slot = c.matchCount := by
  simp only [slotMatches, h]

theorem slotClass_some (h : p.descriptor slot = some c) : p.slotClass slot = c.markClass := by
  simp only [slotClass, h]

theorem markOk_eq (h : p.descriptor slot = some c) : p.markOk slot = { p with
    descriptors := mapSet none p.descriptors slot (some { c with checkOk := true }) } := by
  simp only [markOk, h]

theorem descriptor_markOk (hd : mapOk none p.descriptors = true) (h : p.descriptor slot = some c) (n : Nat) :
    (p.markOk slot).descriptor n = if n = slot then some { c with checkOk := true } else p.descriptor n := by
  rw [markOk_eq h]
  split
  · next hn => subst hn; exact mapGet_mapSet_same hd _ _
  · next hn => exact mapGet_mapSet_ne _ hn

/-- Where two slots of a list are check_ok, the list holds at least two that are. -/
theorem two_le_countP {α : Type} {P : α → Bool} {l : List α} {a b : α} (ha : a ∈ l) (hb : b ∈ l) (hne : a ≠ b) (hPa : P a = true)
    (hPb : P b = true) : 2 ≤ l.countP P := by
  have hsub : [a, b].Subperm (l.filter P) := List.subperm_of_subset (by simp [hne]) (by
    intro x hx
    rcases List.mem_pair.mp hx with rfl | rfl
    · exact List.mem_filter.mpr ⟨ha, hPa⟩
    · exact List.mem_filter.mpr ⟨hb, hPb⟩)
  rw [List.countP_eq_length_filter]
  exact hsub.length_le

theorem countP_eq_one {α : Type} {P : α → Bool} {l : List α} {a : α} (hnd : l.Nodup) (ha : a ∈ l) (hPa : P a = true)
    (h : ∀ b ∈ l, b ≠ a → P b = false) : l.countP P = 1 := by
  classical
  rw [List.countP_congr (q := (· == a)) fun x hx => ?_, ← List.count, List.count_eq_one_of_mem hnd ha]
  rw [beq_iff_eq]
  refine ⟨fun hPx => Classical.byContradiction fun hne => Bool.false_ne_true ((h x hx hne).symm.trans hPx), fun hx => hx ▸ hPa⟩

end

end Pool

namespace Work

/-! ## The quorum (R102) -/

/-- A slot settles a record by quorum: its candidate check_ok, its matches at the quorum and 2 more than those of any other. -/
def Leads (k : Work) (quorum slot : Nat) (c : Candidate) : Prop :=
  slot ∈ k.record.candidates ∧ k.pool.descriptor slot = some c ∧ c.checkOk = true ∧
    quorum ≤ c.matchCount ∧ ∀ other ∈ k.record.candidates, other ≠ slot → ∀ d, k.pool.descriptor other = some d →
      d.checkOk = true → d.matchCount + 2 ≤ c.matchCount

section
variable {k : Work} {quorum slot : Nat} {c : Candidate}

theorem hasQuorum_iff : slot ∈ k.record.candidates ∧ k.hasQuorum quorum slot = true ↔ ∃ c, k.Leads quorum slot c := by
  have hother : ∀ {c : Candidate}, k.pool.descriptor slot = some c → ∀ other, (decide (other = slot) || !k.pool.slotOk other ||
      decide (k.pool.slotMatches other + 2 ≤ k.pool.slotMatches slot)) = true ↔
      (other ≠ slot → ∀ d, k.pool.descriptor other = some d → d.checkOk = true → d.matchCount + 2 ≤ c.matchCount) := by
    intro c hc other
    rw [Pool.slotMatches_some hc]
    cases hd : k.pool.descriptor other with
    | none => simp [Pool.slotOk_eq, hd]
    | some d =>
      rw [Pool.slotMatches_some hd, Pool.slotOk_some hd]
      by_cases heq : other = slot
      · simp [heq]
      · cases hok : d.checkOk <;> simp [heq, hok]
  constructor
  · rintro ⟨hmem, hq⟩
    simp only [hasQuorum, Bool.and_eq_true, decide_eq_true_eq, List.all_eq_true] at hq
    obtain ⟨⟨hok, hquorum⟩, hlead⟩ := hq
    obtain ⟨c, hc, hok⟩ := Pool.slotOk_iff.mp hok
    rw [Pool.slotMatches_some hc] at hquorum
    exact ⟨c, hmem, hc, hok, hquorum, fun other ho => (hother hc other).mp (hlead other ho)⟩
  · rintro ⟨c, hmem, hc, hok, hquorum, hlead⟩
    refine ⟨hmem, ?_⟩
    simp only [hasQuorum, Bool.and_eq_true, decide_eq_true_eq, List.all_eq_true]
    rw [Pool.slotOk_some hc]
    refine ⟨⟨hok, ?_⟩, fun other ho => (hother hc other).mpr (hlead other ho)⟩
    rw [Pool.slotMatches_some hc]
    exact hquorum

/-- No two slots of a record lead. -/
theorem Leads.unique {other : Nat} {d : Candidate} (h : k.Leads quorum slot c) (h' : k.Leads quorum other d) : other = slot := by
  obtain ⟨hmem, hc, hok, -, hlead⟩ := h
  obtain ⟨hmem', hd, hok', -, hlead'⟩ := h'
  refine Classical.byContradiction fun hne => ?_
  have hthis := hlead other hmem' hne d hd hok'
  have hthat := hlead' slot hmem (Ne.symm hne) c hc hok
  omega

theorem find?_quorum (h : k.Leads quorum slot c) : k.record.candidates.find? (k.hasQuorum quorum) = some slot := by
  obtain ⟨hmem, hq⟩ := hasQuorum_iff.mpr ⟨c, h⟩
  refine find?_eq_some_of_unique hmem hq fun b hb hne => Bool.eq_false_iff.mpr fun hqb => ?_
  obtain ⟨d, hd⟩ := hasQuorum_iff.mp ⟨hb, hqb⟩
  exact hne (h.unique hd)

theorem find?_noQuorum (h : ∀ slot c, ¬ k.Leads quorum slot c) : k.record.candidates.find? (k.hasQuorum quorum) = none :=
  List.find?_eq_none.mpr fun slot hmem hq => (hasQuorum_iff.mp ⟨hmem, hq⟩).elim (h slot)

end

/-! ## A record settled (R102, R103, R116) -/

/-- A work as a record settled leaves it: its slots returned, its data in image memory. -/
def SettledAs (k y : Work) (e : ReadingEnv) (data : List Byte) (confidences : List Nat) (info : SettledInfo) : Prop :=
  y.record = { k.record with state := .settled, candidates := [], fusionArmed := false, settled := some info } ∧
    (∀ n, y.pool.descriptor n = if n ∈ k.record.candidates then none else k.pool.descriptor n) ∧
    (∀ n, n ∈ y.pool.freeList ↔ n ∈ k.record.candidates ∨ n ∈ k.pool.freeList) ∧ y.pool.memory = k.pool.memory ∧
    (∀ n, areaOf y.image n = if n = e.recordNumber then
      { data := data ++ (areaOf k.image n).data.drop data.length
        confidences := confidences ++ (areaOf k.image n).confidences.drop confidences.length }
      else areaOf k.image n)

/-- A work that differs from another in its candidates' order, what is armed, and the descriptors of those candidates alone. -/
structure Reordered (k w : Work) : Prop where
  record : w.record = { k.record with candidates := w.record.candidates, fusionArmed := w.record.fusionArmed }
  candidates : w.record.candidates.Perm k.record.candidates
  form : mapOk none w.pool.descriptors = true
  others : ∀ n, n ∉ k.record.candidates → w.pool.descriptor n = k.pool.descriptor n
  free : w.pool.freeList = k.pool.freeList
  memory : w.pool.memory = k.pool.memory
  image : w.image = k.image

section
variable {k w : Work} {e : ReadingEnv} {slot : Nat} {c : Candidate} {data : List Byte} {confs : List Nat} {info : SettledInfo}

theorem Reordered.refl (hd : mapOk none k.pool.descriptors = true) : k.Reordered k :=
  ⟨rfl, .refl _, hd, fun _ _ => rfl, rfl, rfl, rfl⟩

theorem Reordered.settledAs (h : k.Reordered w) (hi : memoryOk k.image = true) :
    k.SettledAs (w.settle e data confs info) e data confs info := by
  refine ⟨?_, fun n => ?_, fun n => ?_, ?_, fun n => ?_⟩
  · refine (show (w.settle e data confs info).record = { w.record with
      state := .settled, candidates := [], fusionArmed := false, settled := some info } from rfl).trans ?_
    rw [h.record]
  · refine (Pool.descriptor_giveBackAll h.form _ n).trans ?_
    simp only [h.candidates.mem_iff]
    split
    · rfl
    · next hn => exact h.others n hn
  · refine (Pool.mem_freeList_giveBackAll _ _ n).trans ?_
    rw [h.candidates.mem_iff, h.free]
  · exact (Pool.giveBackAll_memory _ _).trans h.memory
  · refine (congrArg (fun m => areaOf (writeArea m e.recordNumber data confs) n) h.image).trans ?_
    split
    · next hn => subst hn; exact areaOf_writeArea_same hi _ _ _
    · next hn => exact areaOf_writeArea_ne _ _ _ _ _ hn

theorem evaluate_quorum (h : k.Leads e.profile.quorum slot c) : k.evaluate e =
    k.settle e (k.pool.data slot e.reading.data.length) (k.pool.confidences slot e.reading.data.length)
      { by_ := .quorum, markClass := c.markClass, pass := e.reading.passNumber, matchCount := c.matchCount } := by
  have hc : k.pool.descriptor slot = some c := h.2.1
  simp only [evaluate, find?_quorum h, Pool.slotClass_some hc, Pool.slotMatches_some hc]

end

/-! ## No quorum (R103) -/

/-- The state a record becomes, but a LOST one stays LOST (R103). -/
def becomes (k : Work) (st : RecordState) : RecordState := if k.record.state = .lost then .lost else st

section
variable {k w : Work} {e : ReadingEnv} {slot : Nat} {c : Candidate}

theorem become_eq (k : Work) (st : RecordState) :
    k.become st = { k with record := { k.record with state := k.becomes st } } := by
  unfold become becomes
  split
  · next h => rw [← h]
  · rfl

section
variable (h : ∀ slot c, ¬ k.Leads e.profile.quorum slot c)
include h

theorem evaluate_contested (hcount : 2 ≤ k.record.candidates.countP k.pool.slotOk) : k.evaluate e = k.become .contested := by
  simp only [evaluate, find?_noQuorum h, if_pos hcount]

theorem evaluate_nil (hnil : k.record.candidates = []) : k.evaluate e = k := by
  simp only [evaluate, find?_noQuorum h]
  simp [hnil]

theorem evaluate_weak (hcount : k.record.candidates.countP k.pool.slotOk < 2) (hne : k.record.candidates ≠ [])
    (hfuse : 1 ≤ k.record.candidates.countP k.pool.slotOk ∨ k.record.candidates.length < 3 ∨ k.record.fusionArmed = false) :
    k.evaluate e = k.become .weak := by
  have hno : ¬ (k.record.candidates.countP k.pool.slotOk = 0 ∧ 3 ≤ k.record.candidates.length ∧
      k.record.fusionArmed = true) := by
    rintro ⟨hzero, hlen, harmed⟩
    rcases hfuse with h | h | h
    · omega
    · omega
    · exact Bool.false_ne_true (h.symm.trans harmed)
  simp only [evaluate, find?_noQuorum h, if_neg (Nat.not_le_of_lt hcount), if_neg hno, List.isEmpty_iff, if_neg hne]

/-- A work as its fusion begins: disarmed, the result on the channel's scratch slot (R119, R127). -/
def fusing (k : Work) (e : ReadingEnv) (sc : Scratch) : Work :=
  { k with record := { k.record with fusionArmed := false }, pool := k.pool.setScratch e.channel (some sc) }

theorem evaluate_fuses (hcount : k.record.candidates.countP k.pool.slotOk = 0) (hlen : 3 ≤ k.record.candidates.length)
    (harmed : k.record.fusionArmed = true) {sc : Scratch}
    (hsc : k.pool.fuse e.profile e.reading.volume e.reading.sector e.reading.data.length k.record.candidates = sc) :
    k.evaluate e = { (k.fusing e sc).takeFusion e sc with
      pool := ((k.fusing e sc).takeFusion e sc).pool.setScratch e.channel none } := by
  have hzero : ¬ 2 ≤ k.record.candidates.countP k.pool.slotOk := by omega
  simp only [evaluate, find?_noQuorum h, if_neg hzero, if_pos (show _ ∧ _ ∧ _ from ⟨hcount, hlen, harmed⟩), hsc]
  rfl

end

end

/-! ## The result of a fusion (R103, R126, R127) -/

section
variable {k w : Work} {e : ReadingEnv} {sc : Scratch} {slot : Nat} {c : Candidate} {free before : List Nat}

theorem fusing_reordered (hd : mapOk none k.pool.descriptors = true) : k.Reordered (k.fusing e sc) :=
  ⟨rfl, .refl _, hd, fun _ _ => rfl, rfl, rfl, rfl⟩

theorem takeFusion_notGood (h : sc.result ≠ .good) : w.takeFusion e sc = w.become .weak := by
  unfold takeFusion
  cases hres : sc.result with
  | good => exact absurd hres h
  | bad => rfl
  | tooFew => rfl

/-- A fusion that gives the version of a candidate: it is check_ok, and the list back in rank order (R103, R126). -/
def confirmed (w : Work) (slot : Nat) : Work :=
  { w with pool := w.pool.markOk slot, record := { w.record with
    candidates := (w.pool.markOk slot).rankOrder w.record.candidates } }

section
variable (hgood : sc.result = .good)
include hgood

theorem takeFusion_version (hmem : slot ∈ w.record.candidates) (hver : w.pool.sameVersion slot sc.data sc.markClass = true)
    (hone : ∀ b ∈ w.record.candidates, b ≠ slot → w.pool.sameVersion b sc.data sc.markClass = false) :
    w.takeFusion e sc = if e.profile.fusionSettles = true then
      (w.confirmed slot).settle e sc.data sc.confidences
        { by_ := .fusion, markClass := sc.markClass, pass := e.reading.passNumber
          matchCount := (w.pool.markOk slot).slotMatches slot }
      else (w.confirmed slot).become .weak := by
  simp only [takeFusion, hgood, find?_eq_some_of_unique hmem hver hone]
  rfl

theorem takeFusion_noVersion (hnone : ∀ b ∈ w.record.candidates, w.pool.sameVersion b sc.data sc.markClass = false) :
    w.takeFusion e sc = if e.profile.fusionSettles = true then
      w.settle e sc.data sc.confidences
        { by_ := .fusion, markClass := sc.markClass, pass := e.reading.passNumber, matchCount := 1 }
      else (w.addCandidate (fusedCandidate e sc w.pool.entries) sc.data sc.confidences w.record.fusionArmed).become .weak := by
  have hfind : w.record.candidates.find? (fun b => w.pool.sameVersion b sc.data sc.markClass) = none :=
    List.find?_eq_none.mpr fun b hb => Bool.eq_false_iff.mp (hnone b hb)
  simp only [takeFusion, hgood, hfind]

end

theorem confirmed_reordered (hd : mapOk none w.pool.descriptors = true) (hc : w.pool.descriptor slot = some c)
    (hmem : slot ∈ w.record.candidates) : w.Reordered (w.confirmed slot) where
  record := rfl
  candidates := Pool.rankOrder_perm _ _
  form := (w.pool.markOk_keeps (slot := slot)).form hd
  others n hn := by
    refine (Pool.descriptor_markOk hd hc n).trans (if_neg fun h => hn ?_)
    rw [h]
    exact hmem
  free := (w.pool.markOk_keeps (slot := slot)).free
  memory := by rw [confirmed, Pool.markOk_eq hc]
  image := rfl

theorem Reordered.trans {x : Work} (h : k.Reordered w) (h' : w.Reordered x) : k.Reordered x where
  record := by rw [h'.record, h.record]
  candidates := h'.candidates.trans h.candidates
  form := h'.form
  others n hn := (h'.others n fun hm => hn (h.candidates.mem_iff.mp hm)).trans (h.others n hn)
  free := h'.free.trans h.free
  memory := h'.memory.trans h.memory
  image := h'.image.trans h.image

/-! ## The FUSED candidate (R126) -/

/-- A slot that ranks above every other of a list in rank order stands first. -/
theorem ranked_head {p : Pool} {l : List Nat} (h : p.Ranked l) (hmem : slot ∈ l)
    (habove : ∀ b ∈ l, b ≠ slot → p.slotAbove slot b = true) : ∃ rest, l = slot :: rest := by
  cases l with
  | nil => cases hmem
  | cons b rest =>
    refine ⟨rest, congrArg (· :: rest) (Classical.byContradiction fun hne => ?_)⟩
    have hrest : slot ∈ rest := (List.mem_cons.mp hmem).resolve_left (Ne.symm hne)
    exact Bool.false_ne_true ((List.rel_of_pairwise_cons h hrest).symm.trans (habove b (List.mem_cons_self ..) hne))

/-- A FUSED candidate put into a slot, first in the record's list (R97, R126). -/
def FusedInto (k y : Work) (e : ReadingEnv) (sc : Scratch) (slot : Nat) : Prop :=
  (∀ n, y.pool.descriptor n = if n = slot then some (fusedCandidate e sc k.pool.entries) else k.pool.descriptor n) ∧
    (∀ n, areaOf y.pool.memory n = if n = slot then
      { data := sc.data ++ (areaOf k.pool.memory n).data.drop sc.data.length
        confidences := sc.confidences ++ (areaOf k.pool.memory n).confidences.drop sc.confidences.length }
      else areaOf k.pool.memory n) ∧
    y.image = k.image ∧ ∃ rest, y.record.candidates = slot :: rest

/-- A FUSED candidate entered: it alone is check_ok, and ranks first. -/
theorem fusedInto_enter {p : Pool} {kept : List Nat} {armed overflowed : Bool}
    (hstored : k.pool.Stored p slot (fusedCandidate e sc k.pool.entries)
      { data := sc.data ++ (areaOf k.pool.memory slot).data.drop sc.data.length
        confidences := sc.confidences ++ (areaOf k.pool.memory slot).confidences.drop sc.confidences.length })
    (himage : w.image = k.image) (hkept : ∀ n ∈ kept, k.pool.slotOk n = false) (hslot : slot ∉ kept) :
    k.FusedInto (w.enter slot p kept armed overflowed) e sc slot := by
  obtain ⟨hd, ha, hothers⟩ := hstored
  refine ⟨fun n => ?_, fun n => ?_, himage, ?_⟩
  · split
    · next hn => subst hn; exact hd
    · next hn => exact (hothers n hn).1
  · split
    · next hn => subst hn; exact ha
    · next hn => exact (hothers n hn).2
  · obtain ⟨-, hperm, hranked⟩ := w.enter_record (slot := slot) (armed := armed) p kept overflowed
    refine ranked_head hranked (hperm.mem_iff.mpr (List.mem_cons_self ..)) fun b hb hne => ?_
    have hb : k.pool.slotOk b = false := hkept b ((List.mem_cons.mp (hperm.mem_iff.mp hb)).resolve_left hne)
    show p.slotAbove slot b = true
    unfold Pool.slotAbove
    rw [hd, (hothers b hne).1]
    cases hdb : k.pool.descriptor b with
    | none => rfl
    | some d =>
      rw [Pool.slotOk_some hdb] at hb
      exact ranksAbove_iff.mpr (.inl ⟨rfl, hb⟩)

end

end Work

end Sys2Proof.Machine
end


/-! # The reading at the front taken (R39, R98 to R103) -/

section
/-! SUPPORT. The counts a reading leaves, a SETTLED record compared, a first reading, and READING as one state update. -/

namespace Sys2Proof.Machine

/-! ## Reads and flags (R98) -/

theorem SectorRecord.SameReads.refl (a : SectorRecord) : a.SameReads a := ⟨rfl, rfl, rfl⟩

theorem SectorRecord.SameReads.trans {a b c : SectorRecord} (h : a.SameReads b) (k : b.SameReads c) : a.SameReads c :=
  ⟨k.1.trans h.1, k.2.1.trans h.2.1, k.2.2.trans h.2.2⟩

namespace Work

section
variable (w : Work) (e : ReadingEnv)

theorem mergeOrForm_reads : w.record.SameReads (w.mergeOrForm e).record := by
  unfold mergeOrForm
  split
  · exact ⟨rfl, rfl, rfl⟩
  · exact (w.addCandidate_leaves _ _ _ _).2.2

theorem become_reads (st : RecordState) : w.record.SameReads (w.become st).record := by
  rw [become_eq]
  exact ⟨rfl, rfl, rfl⟩

theorem takeFusion_reads (sc : Scratch) : w.record.SameReads (w.takeFusion e sc).record := by
  unfold takeFusion
  split
  · exact w.become_reads _
  · exact w.become_reads _
  · split
    · split
      · exact ⟨rfl, rfl, rfl⟩
      · rw [become_eq]
        exact ⟨rfl, rfl, rfl⟩
    · split
      · exact ⟨rfl, rfl, rfl⟩
      · exact (w.addCandidate_leaves _ _ _ _).2.2.trans (become_reads _ _)

theorem evaluate_reads : w.record.SameReads (w.evaluate e).record := by
  unfold evaluate
  split
  · exact ⟨rfl, rfl, rfl⟩
  · dsimp only
    split
    · exact w.become_reads _
    · split
      · exact takeFusion_reads (w.fusing e (w.pool.fuse e.profile e.reading.volume e.reading.sector e.reading.data.length
          w.record.candidates)) e _
      · split
        · exact .refl _
        · exact w.become_reads _

theorem compareSettled_reads : w.record.SameReads (w.compareSettled e).record := by
  unfold compareSettled
  split
  · exact .refl _
  · dsimp only
    split
    · exact ⟨rfl, rfl, rfl⟩
    · split <;> exact ⟨rfl, rfl, rfl⟩

end

/-! ## A reading by the record's state (R98, R99) -/

section
variable {w : Work} {e : ReadingEnv} {info : SettledInfo}

/-- A work with its record's reads and flags raised (R98). -/
def counted (w : Work) (e : ReadingEnv) : Work := { w with record := w.record.countRead e.reading }

theorem takeReading_excluded (h : w.record.state = .excluded) : w.takeReading e = w := by
  simp only [takeReading, h]

theorem takeReading_settledState (h : w.record.state = .settled) : w.takeReading e = (w.counted e).compareSettled e := by
  simp only [takeReading, h]
  rfl

theorem takeReading_open (h : w.record.state = .unseen ∨ w.record.state = .weak ∨ w.record.state = .contested ∨
    w.record.state = .lost) : w.takeReading e = ((w.counted e).mergeOrForm e).evaluate e := by
  rcases h with h | h | h | h <;> (simp only [takeReading, h]; rfl)

theorem takeReading_reads (h : w.record.state ≠ .excluded) : (w.counted e).record.SameReads (w.takeReading e).record := by
  have hopen := takeReading_open (w := w) (e := e)
  cases hst : w.record.state with
  | excluded => exact absurd hst h
  | settled =>
    rw [takeReading_settledState hst]
    exact compareSettled_reads _ _
  | unseen | weak | contested | lost =>
    rw [hopen (by simp [hst])]
    exact (mergeOrForm_reads _ _).trans (evaluate_reads _ _)

/-- A reading of the same version as a SETTLED record raises its matches and its confidences (R99). -/
theorem compareSettled_same (hinfo : w.record.settled = some info)
    (h : (areaOf w.image e.recordNumber).data.take e.reading.data.length = e.reading.data ∧
      info.markClass = e.reading.markClass) : w.compareSettled e = { w with
        record := { w.record with settled := some { info with matchCount := min 255 (info.matchCount + 1) } }
        image := writeArea w.image e.recordNumber [] (List.zipWith max
          ((areaOf w.image e.recordNumber).confidences.take e.reading.data.length) e.reading.confidences) } := by
  simp only [compareSettled, hinfo, if_pos h, maxEach_eq_zipWith]
  rfl

/-- A reading of another version is dissent where it is check_ok (R99). -/
theorem compareSettled_other (hinfo : w.record.settled = some info)
    (h : ¬ ((areaOf w.image e.recordNumber).data.take e.reading.data.length = e.reading.data ∧
      info.markClass = e.reading.markClass)) : w.compareSettled e =
        { w with record := { w.record with dissent := w.record.dissent || e.reading.checkOk } } := by
  simp only [compareSettled, hinfo, if_neg h]
  cases e.reading.checkOk with
  | true => rw [if_pos rfl, Bool.or_true]
  | false =>
    rw [if_neg Bool.false_ne_true, Bool.or_false, ← hinfo]

end

/-! ## The first reading of a record (R101 to R103) -/

section
variable {k : Work} {e : ReadingEnv} {slot : Nat} {c : Candidate} {free : List Nat}

theorem evaluate_single_weak (hlist : k.record.candidates = [slot]) (hc : k.pool.descriptor slot = some c)
    (hshort : c.checkOk = false ∨ c.matchCount < e.profile.quorum) : k.evaluate e = k.become .weak := by
  refine evaluate_weak (fun s d hlead => ?_) ?_ ?_ ?_
  · obtain ⟨hmem, hd, hok, hquorum, -⟩ := hlead
    obtain rfl : s = slot := by simpa [hlist] using hmem
    obtain rfl : c = d := Option.some.inj (hc.symm.trans hd)
    rcases hshort with hnot | hlt
    · exact Bool.false_ne_true (hnot.symm.trans hok)
    · omega
  · rw [hlist]
    exact Nat.lt_succ_of_le List.countP_le_length
  · rw [hlist]
    exact List.cons_ne_nil _ _
  · rw [hlist]
    exact .inr (.inl (by simp))

theorem leads_single (hlist : k.record.candidates = [slot]) (hc : k.pool.descriptor slot = some c) (hok : c.checkOk = true)
    (hquorum : e.profile.quorum ≤ c.matchCount) : k.Leads e.profile.quorum slot c := by
  refine ⟨by simp [hlist], hc, hok, hquorum, fun other hmem hne => absurd ?_ hne⟩
  simpa [hlist] using hmem

/-- A reading of a record without candidates is made the one candidate it has (R101). -/
theorem mergeOrForm_first (hlist : k.record.candidates = []) (hfree : k.pool.freeList = slot :: free) :
    k.mergeOrForm e = k.enter slot
      ({ k.pool with freeList := free }.write slot (readCandidate e k.pool.entries) e.reading.data e.reading.confidences)
      [] true false := by
  rw [mergeOrForm_forms (by simp [hlist]), addCandidate_granted (by simp [hlist]) hfree, hlist]

end

end Work

/-! ## READING as one state update (R39, R92, R98) -/

section
variable {s : State} {ch : Chan} {c : Channel} {x : Reading} {rest : List Handed} {v : Volume}

/-- The channel as its front reading is acknowledged (R39). -/
def Channel.readingTaken (c : Channel) (rest : List Handed) : Channel :=
  (Channel.drive { c with handed := rest }).acknowledged

/-- The state after a reading is taken for a mounted volume. -/
def State.readTaken (s : State) (ch : Chan) (v : Volume) (x : Reading) : State :=
  ((s.setVolume ch (some (v.withReading x.sector (s.readingWork ch v x).record))).setPool
    (s.readingWork ch v x).pool).setImage (s.readingWork ch v x).image

theorem State.takeReading_discarded (h : ∀ v, s.volume ch = some v → v.uid ≠ x.volume) : s.takeReading ch x = s := by
  rcases s.takeReading_cases ch x with hsame | ⟨v, hv, huid, -⟩
  · exact hsame
  · exact absurd huid (h v hv)

theorem State.takeReading_mounted (hv : s.volume ch = some v) (huid : v.uid = x.volume) :
    s.takeReading ch x = s.readTaken ch v x := by
  simp only [State.takeReading, hv, if_neg (Decidable.not_not.mpr huid)]
  rfl

theorem State.takeReading_putChannel (d : Channel) :
    (s.putChannel ch d).takeReading ch x = (s.takeReading ch x).putChannel ch d := by
  cases hv : s.volume ch with
  | none =>
    have hno : ∀ v, s.volume ch = some v → v.uid ≠ x.volume := fun v h => by rw [hv] at h; cases h
    rw [State.takeReading_discarded hno, State.takeReading_discarded (s := s.putChannel ch d) hno]
  | some v =>
    by_cases huid : v.uid = x.volume
    · rw [State.takeReading_mounted hv huid, State.takeReading_mounted (s := s.putChannel ch d) hv huid]
      rfl
    · have hno : ∀ u, s.volume ch = some u → u.uid ≠ x.volume := fun u h => by
        obtain rfl : v = u := Option.some.inj (hv.symm.trans h)
        exact huid
      rw [State.takeReading_discarded hno, State.takeReading_discarded (s := s.putChannel ch d) hno]

theorem exec_reading (hc : s.channel ch = c) (hh : c.handed = .reading x :: rest) :
    exec (.reading ch) s = .next ((s.takeReading ch x).putChannel ch (c.readingTaken rest)) := by
  have htake : (s.popHanded ch).takeReading ch x = (s.takeReading ch x).putChannel ch { c with handed := rest } := by
    rw [State.popHanded_eq hc hh, State.takeReading_putChannel]
  have hexec : exec (.reading ch) s = .next (((s.popHanded ch).takeReading ch x).putChannel ch
      (((s.popHanded ch).takeReading ch x).channel ch).acknowledged) := by
    refine congrArg Host.Outcome.next ?_
    rw [hc, hh]
  rw [hexec, htake, State.putChannel_channel, State.putChannel_putChannel]
  rfl

/-- The channel with the last reading of a completed pass acknowledged is in HOLDING; else it goes on as it is (R39). -/
theorem Channel.readingTaken_holds (hcompleting : c.completing = true) (hno : noReadingWaits rest = true) :
    c.readingTaken rest = { Channel.drive { c with handed := rest } with
      completing := false, pass := none, state := .holding, holdTimer := some 2000, stageTimer := none, recalStage := none } :=
  (if_pos (by exact hno)).trans (Channel.finishCompletion_completing (by exact hcompleting))

theorem Channel.readingTaken_goesOn (h : ¬ (c.completing = true ∧ noReadingWaits rest = true)) :
    c.readingTaken rest = Channel.drive { c with handed := rest } := by
  unfold Channel.readingTaken Channel.acknowledged
  split
  · next hno => exact Channel.finishCompletion_of_not (Bool.eq_false_iff.mpr fun hcompleting => h ⟨hcompleting, hno⟩)
  · rfl

end

end Sys2Proof.Machine
end


/-! # What a reading leaves, by record state (R98 to R103, R126, R127) -/

section
/-! SUPPORT. The clauses of a reading's merge, of its evaluation and of its fusion, each with all it leaves. -/

namespace Sys2Proof.Machine

namespace Work

/-! ## The candidate of a reading (R100, R101, R118) -/

/-- A work with one slot's candidate changed and its record's list in rank order. -/
structure TookIn (k y : Work) (slot : Nat) (c : Candidate) (area : Area) (free : List Nat) (kept : List Nat) (armed overflowed : Bool) :
    Prop where
  stored : k.pool.Stored y.pool slot c area
  free : y.pool.freeList = free
  record : y.record = { k.record with
    candidates := y.record.candidates, fusionArmed := armed, overflowed := k.record.overflowed || overflowed }
  perm : y.record.candidates.Perm kept
  ranked : y.pool.Ranked y.record.candidates

section
variable {k : Work} {e : ReadingEnv} {slot : Nat} {c low : Candidate} {free before : List Nat}

theorem TookIn.record_kept {y : Work} {area : Area} {kept : List Nat} {armed : Bool} (h : k.TookIn y slot c area free kept armed false) :
    y.record = { k.record with candidates := y.record.candidates, fusionArmed := armed } := by
  have hrecord := h.record
  rwa [Bool.or_false] at hrecord

theorem TookIn.record_overflowed {y : Work} {area : Area} {kept : List Nat} {armed : Bool}
    (h : k.TookIn y slot c area free kept armed true) :
    y.record = { k.record with candidates := y.record.candidates, fusionArmed := armed, overflowed := true } := by
  have hrecord := h.record
  rwa [Bool.or_true] at hrecord

/-- A record that takes a candidate and then becomes a state (R103). -/
theorem TookIn.record_becomes {y : Work} {area : Area} {kept : List Nat} {armed overflowed : Bool}
    (h : k.TookIn y slot c area free kept armed overflowed) (st : RecordState) :
    { y.record with state := y.becomes st } = { k.record with
      candidates := y.record.candidates, fusionArmed := armed, overflowed := k.record.overflowed || overflowed
      state := k.becomes st } := by
  have hstate : y.becomes st = k.becomes st := by
    rw [becomes, h.record]
    rfl
  rw [hstate]
  exact congrArg (fun r : SectorRecord => { r with state := k.becomes st }) h.record

section
variable {data : List Byte} {confs : List Nat} {armed : Bool} {area : Area}

theorem addCandidate_grants (hstored : k.pool.Stored (k.pool.write slot c data confs) slot c area)
    (hlen : k.record.candidates.length < 4) (hfree : k.pool.freeList = slot :: free) :
    k.TookIn (k.addCandidate c data confs armed) slot c area free (slot :: k.record.candidates) armed false := by
  rw [addCandidate_granted hlen hfree]
  obtain ⟨hrecord, hperm, hranked⟩ := k.enter_record (slot := slot) (armed := armed)
    ({ k.pool with freeList := free }.write slot c data confs) k.record.candidates false
  exact ⟨hstored, rfl, hrecord, hperm, hranked⟩

theorem addCandidate_replaces (hstored : k.pool.Stored (k.pool.write slot c data confs) slot c area)
    (hfull : 4 ≤ k.record.candidates.length ∨ k.pool.freeList = []) (hlist : k.record.candidates = before ++ [slot])
    (hlow : k.pool.descriptor slot = some low) (habove : ranksAbove c low = true) :
    k.addCandidate c data confs armed = k.enter slot (k.pool.write slot c data confs) before armed true ∧
    k.TookIn (k.addCandidate c data confs armed) slot c area k.pool.freeList k.record.candidates armed true := by
  have heq : k.addCandidate c data confs armed = k.enter slot (k.pool.write slot c data confs) before armed true := by
    rw [addCandidate_full hfull, replaceLowest_last hlist hlow, if_pos habove]
  obtain ⟨hrecord, hperm, hranked⟩ := k.enter_record (slot := slot) (armed := armed) (k.pool.write slot c data confs) before true
  refine ⟨heq, ?_⟩
  rw [heq]
  exact ⟨hstored, rfl, hrecord, hlist ▸ hperm.trans (List.perm_append_comm (l₁ := [slot])), hranked⟩

theorem addCandidate_refused (hfull : 4 ≤ k.record.candidates.length ∨ k.pool.freeList = [])
    (hlist : k.record.candidates = before ++ [slot]) (hlow : k.pool.descriptor slot = some low)
    (hbelow : ranksAbove c low = false) :
    k.addCandidate c data confs armed = { k with record := { k.record with overflowed := true } } := by
  rw [addCandidate_full hfull, replaceLowest_last hlist hlow, if_neg (Bool.eq_false_iff.mp hbelow)]

end

theorem mergeOrForm_tookIn (hd : mapOk none k.pool.descriptors = true) (hm : memoryOk k.pool.memory = true)
    (hlen : e.reading.confidences.length = e.reading.data.length) (hmem : slot ∈ k.record.candidates)
    (hc : k.pool.descriptor slot = some c) (hver : k.pool.sameVersion slot e.reading.data e.reading.markClass = true)
    (hone : ∀ b ∈ k.record.candidates, b ≠ slot → k.pool.sameVersion b e.reading.data e.reading.markClass = false)
    {raised : List Nat} (hraised : raised = List.zipWith max ((areaOf k.pool.memory slot).confidences.take e.reading.data.length)
      e.reading.confidences) :
    k.TookIn (k.mergeOrForm e) slot
      { c with matchCount := min 255 (c.matchCount + 1), score := raised.sum, checkOk := c.checkOk || e.reading.checkOk }
      { data := (areaOf k.pool.memory slot).data
        confidences := raised ++ (areaOf k.pool.memory slot).confidences.drop raised.length }
      k.pool.freeList k.record.candidates true false := by
  rw [mergeOrForm_merges hmem hver hone, hraised, ← hlen]
  exact ⟨Pool.stored_merge hd hm hc e.reading.checkOk, Pool.merge_freeList _ _ _ _, by rw [Bool.or_false],
    Pool.rankOrder_perm _ _, Pool.rankOrder_ranked _ _⟩

end

/-! ## A record evaluated (R102, R103) -/

section
variable {k : Work} {e : ReadingEnv} {slot : Nat} {c : Candidate} {free before : List Nat} {sc : Scratch}

theorem quorum_settledAs (hd : mapOk none k.pool.descriptors = true) (hi : memoryOk k.image = true)
    (h : k.Leads e.profile.quorum slot c) :
    k.SettledAs (k.evaluate e) e ((areaOf k.pool.memory slot).data.take e.reading.data.length)
      ((areaOf k.pool.memory slot).confidences.take e.reading.data.length)
      { by_ := .quorum, markClass := c.markClass, pass := e.reading.passNumber, matchCount := c.matchCount } := by
  rw [evaluate_quorum h]
  exact (Reordered.refl hd).settledAs hi

theorem countP_slotOk_zero (h : ∀ a ∈ k.record.candidates, ¬ ∃ c, k.pool.descriptor a = some c ∧ c.checkOk = true) :
    k.record.candidates.countP k.pool.slotOk = 0 :=
  List.countP_eq_zero.mpr fun a ha hok => h a ha (Pool.slotOk_iff.mp hok)

theorem slotOk_false {a : Nat} (h : ¬ ∃ c, k.pool.descriptor a = some c ∧ c.checkOk = true) : k.pool.slotOk a = false :=
  Bool.eq_false_iff.mpr fun hok => h (Pool.slotOk_iff.mp hok)

/-- The record after a fusion that does not settle it (R103). -/
theorem fusion_notGood (hsc : sc.result ≠ .good) :
    { (k.fusing e sc).takeFusion e sc with pool := ((k.fusing e sc).takeFusion e sc).pool.setScratch e.channel none } =
      { k with
        pool := k.pool.setScratch e.channel none
        record := { k.record with fusionArmed := false, state := k.becomes .weak } } := by
  rw [takeFusion_notGood hsc, become_eq, fusing, Pool.setScratch]
  dsimp only
  rw [Pool.setScratch, qset_qset]
  rfl

theorem giveBackAll_scratch (p : Pool) (l : List Nat) : (p.giveBackAll l).scratch = p.scratch := by
  induction l generalizing p with
  | nil => rfl
  | cons n l ih => exact ih (p.giveBack n)

theorem takeFusion_scratch (w : Work) (e : ReadingEnv) (sc : Scratch) :
    (w.takeFusion e sc).pool.scratch = w.pool.scratch := by
  have hmark : ∀ n, (w.pool.markOk n).scratch = w.pool.scratch := fun n => by
    unfold Pool.markOk
    split <;> rfl
  unfold takeFusion
  split
  · rw [become_eq]
  · rw [become_eq]
  · split
    · next slot _ =>
      split
      · exact (giveBackAll_scratch _ _).trans (hmark slot)
      · rw [become_eq]
        exact hmark slot
    · split
      · exact giveBackAll_scratch _ _
      · rw [become_eq]
        exact (w.addCandidate_leaves _ _ _ _).2.1

/-- A fusion's end: its result taken, and the scratch slot empty (R119, R127). -/
def fused (k : Work) (e : ReadingEnv) (sc : Scratch) : Work :=
  { (k.fusing e sc).takeFusion e sc with pool := ((k.fusing e sc).takeFusion e sc).pool.setScratch e.channel none }

theorem fused_scratch (k : Work) (e : ReadingEnv) (sc : Scratch) :
    (k.fused e sc).pool.scratch = qset k.pool.scratch e.channel none := by
  refine (show (k.fused e sc).pool.scratch = qset ((k.fusing e sc).takeFusion e sc).pool.scratch e.channel none from rfl).trans ?_
  rw [takeFusion_scratch]
  exact qset_qset _ _ _ _

section
variable (hgood : sc.result = .good) (hd : mapOk none k.pool.descriptors = true)
include hgood hd

theorem fused_version_settles (hi : memoryOk k.image = true) (hmem : slot ∈ k.record.candidates)
    (hc : k.pool.descriptor slot = some c) (hver : k.pool.sameVersion slot sc.data sc.markClass = true)
    (hone : ∀ b ∈ k.record.candidates, b ≠ slot → k.pool.sameVersion b sc.data sc.markClass = false)
    (hsettles : e.profile.fusionSettles = true) : k.SettledAs (k.fused e sc) e sc.data sc.confidences
      { by_ := .fusion, markClass := sc.markClass, pass := e.reading.passNumber, matchCount := c.matchCount } := by
  have hmatches : ((k.fusing e sc).pool.markOk slot).slotMatches slot = c.matchCount := by
    refine Pool.slotMatches_some (c := { c with checkOk := true }) ?_
    rw [Pool.descriptor_markOk (by exact hd) (by exact hc), if_pos rfl]
  rw [fused, takeFusion_version (w := k.fusing e sc) hgood hmem hver hone, if_pos hsettles, hmatches]
  exact ((fusing_reordered hd).trans (confirmed_reordered (w := k.fusing e sc) hd hc hmem)).settledAs hi

theorem fused_version_weak (hmem : slot ∈ k.record.candidates)
    (hc : k.pool.descriptor slot = some c) (hver : k.pool.sameVersion slot sc.data sc.markClass = true)
    (hone : ∀ b ∈ k.record.candidates, b ≠ slot → k.pool.sameVersion b sc.data sc.markClass = false)
    (hsettles : e.profile.fusionSettles = false) :
    (k.fused e sc).pool.freeList = k.pool.freeList ∧ (k.fused e sc).pool.memory = k.pool.memory ∧
    (∀ n, (k.fused e sc).pool.descriptor n = if n = slot then some { c with checkOk := true } else k.pool.descriptor n) ∧
    (k.fused e sc).image = k.image ∧ (k.fused e sc).record = { k.record with
      candidates := (k.fused e sc).record.candidates, fusionArmed := false, state := k.becomes .weak } ∧
    (k.fused e sc).record.candidates.Perm k.record.candidates := by
  have hreordered := confirmed_reordered (w := k.fusing e sc) hd hc hmem
  rw [fused, takeFusion_version (w := k.fusing e sc) hgood hmem hver hone, if_neg (Bool.eq_false_iff.mp hsettles), become_eq]
  exact ⟨hreordered.free, hreordered.memory, fun n => Pool.descriptor_markOk (p := (k.fusing e sc).pool) hd hc n, rfl, rfl,
    hreordered.candidates⟩

section
variable (hnone : ∀ b ∈ k.record.candidates, k.pool.sameVersion b sc.data sc.markClass = false)
include hnone

theorem fused_new_settles (hi : memoryOk k.image = true) (hsettles : e.profile.fusionSettles = true) :
    k.SettledAs (k.fused e sc) e sc.data sc.confidences
      { by_ := .fusion, markClass := sc.markClass, pass := e.reading.passNumber, matchCount := 1 } := by
  rw [fused, takeFusion_noVersion (w := k.fusing e sc) hgood hnone, if_pos hsettles]
  exact (fusing_reordered hd).settledAs hi

section
variable (hm : memoryOk k.pool.memory = true) (hsettles : e.profile.fusionSettles = false)
  (hnot : ∀ n ∈ k.record.candidates, k.pool.slotOk n = false)
include hm hsettles hnot

theorem fused_new_granted (hlen : k.record.candidates.length < 4) (hfree : k.pool.freeList = slot :: free)
    (hslot : slot ∉ k.record.candidates) :
    k.FusedInto (k.fused e sc) e sc slot ∧ (k.fused e sc).pool.freeList = free ∧
    (k.fused e sc).record.candidates.Perm (slot :: k.record.candidates) ∧ (k.fused e sc).record = { k.record with
      candidates := (k.fused e sc).record.candidates, fusionArmed := false, state := k.becomes .weak } := by
  have hstored := Pool.stored_write (slot := slot) (c := fusedCandidate e sc k.pool.entries) (data := sc.data)
    (confs := sc.confidences) (p := (k.fusing e sc).pool) hd hm
  rw [fused, takeFusion_noVersion (w := k.fusing e sc) hgood hnone, if_neg (Bool.eq_false_iff.mp hsettles), become_eq]
  have htook := addCandidate_grants (k := k.fusing e sc) (armed := false) hstored hlen hfree
  have hinto : k.FusedInto ((k.fusing e sc).addCandidate (fusedCandidate e sc k.pool.entries) sc.data sc.confidences false)
      e sc slot := by
    rw [addCandidate_granted (k := k.fusing e sc) hlen hfree]
    exact fusedInto_enter hstored rfl hnot hslot
  have hrecord := htook.record_becomes .weak
  rw [Bool.or_false] at hrecord
  exact ⟨hinto, htook.free, htook.perm, hrecord⟩

theorem fused_new_replaces (hfull : 4 ≤ k.record.candidates.length ∨ k.pool.freeList = [])
    (hheld : ∀ n ∈ k.record.candidates, k.pool.descriptor n ≠ none) (hlist : k.record.candidates = before ++ [slot])
    (hslot : slot ∉ before) :
    k.FusedInto (k.fused e sc) e sc slot ∧ (k.fused e sc).pool.freeList = k.pool.freeList ∧
    (k.fused e sc).record.candidates.Perm k.record.candidates ∧ (k.fused e sc).record = { k.record with
      candidates := (k.fused e sc).record.candidates, fusionArmed := false, state := k.becomes .weak, overflowed := true } := by
  have hmem : slot ∈ k.record.candidates := by simp [hlist]
  obtain ⟨low, hlow⟩ := Option.ne_none_iff_exists'.mp (hheld slot hmem)
  have hnotOk : low.checkOk = false := (Pool.slotOk_some hlow).symm.trans (hnot slot hmem)
  have habove : ranksAbove (fusedCandidate e sc k.pool.entries) low = true := ranksAbove_iff.mpr (.inl ⟨rfl, hnotOk⟩)
  have hstored := Pool.stored_write (slot := slot) (c := fusedCandidate e sc k.pool.entries) (data := sc.data)
    (confs := sc.confidences) (p := (k.fusing e sc).pool) hd hm
  rw [fused, takeFusion_noVersion (w := k.fusing e sc) hgood hnone, if_neg (Bool.eq_false_iff.mp hsettles), become_eq]
  obtain ⟨hentered, htook⟩ := addCandidate_replaces (k := k.fusing e sc) (armed := false) hstored hfull hlist hlow habove
  have hinto : k.FusedInto ((k.fusing e sc).addCandidate (fusedCandidate e sc k.pool.entries) sc.data sc.confidences false)
      e sc slot := by
    rw [hentered]
    exact fusedInto_enter hstored rfl (fun n hn => hnot n (by simp [hlist, hn])) hslot
  have hrecord := htook.record_becomes .weak
  rw [Bool.or_true] at hrecord
  exact ⟨hinto, htook.free, htook.perm, hrecord⟩

end

end

end

end

end Work

end Sys2Proof.Machine
end


/-! # Readings taken (R92, R98 to R103, R126, R127) -/

section
/-! PROOF. READING's clauses, from the rules of the candidate, the evaluation and the fusion. -/

namespace Sys2Proof.Machine

section
variable {s : State} {ch : Chan} {x : Reading} {v : Volume}

theorem Pool.Stored.data {p q : Pool} {slot : Nat} {c : Candidate} {data rest : List Byte} {confs : List Nat}
    (h : p.Stored q slot c { data := data ++ rest, confidences := confs }) : q.data slot data.length = data := by
  rw [Pool.data, h.2.1]
  exact List.take_left

/-- A work whose record has its first reading as its one candidate (R101). -/
structure Work.First (w k : Work) (e : ReadingEnv) (slot : Nat) (free : List Nat) : Prop where
  candidates : k.record.candidates = [slot]
  armed : k.record.fusionArmed = true
  state : k.record.state = .unseen
  free : k.pool.freeList = free
  image : k.image = w.image
  form : mapOk none k.pool.descriptors = true
  stored : w.pool.Stored k.pool slot (readCandidate e w.pool.entries)
    { data := e.reading.data ++ (areaOf w.pool.memory slot).data.drop e.reading.data.length
      confidences := e.reading.confidences ++ (areaOf w.pool.memory slot).confidences.drop e.reading.confidences.length }

theorem Work.takeReading_first {w : Work} {e : ReadingEnv} {slot : Nat} {free : List Nat} (hst : w.record.state = .unseen)
    (hlist : w.record.candidates = []) (hfree : w.pool.freeList = slot :: free)
    (hd : mapOk none w.pool.descriptors = true) (hm : memoryOk w.pool.memory = true) :
    ∃ k, w.takeReading e = k.evaluate e ∧ w.First k e slot free := by
  have heq := Work.mergeOrForm_first (k := w.counted e) (e := e) hlist hfree
  refine ⟨(w.counted e).mergeOrForm e, Work.takeReading_open (.inl hst), ?_⟩
  rw [heq]
  exact ⟨rfl, rfl, hst, rfl, rfl, mapOk_mapSet hd _ _, Pool.stored_write hd hm⟩

section
variable {w k : Work} {e : ReadingEnv} {slot : Nat} {free : List Nat} (h : w.First k e slot free)
include h

/-- A first reading that is no quorum leaves the record WEAK (R103). -/
theorem Work.First.evaluate_weak (hshort : e.reading.checkOk = false ∨ 1 < e.profile.quorum) :
    k.evaluate e = { k with record := { k.record with state := .weak } } := by
  have hweak : k.becomes .weak = .weak := if_neg (by rw [h.state]; nofun)
  rw [Work.evaluate_single_weak h.candidates h.stored.1 hshort, Work.become_eq, hweak]

/-- A first reading that is the quorum settles the record (R102). -/
theorem Work.First.evaluate_settles (hok : e.reading.checkOk = true) (hquorum : e.profile.quorum ≤ 1) :
    k.evaluate e = k.settle e e.reading.data (k.pool.confidences slot e.reading.data.length)
      { by_ := .quorum, markClass := e.reading.markClass, pass := e.reading.passNumber, matchCount := 1 } := by
  rw [Work.evaluate_quorum (Work.leads_single h.candidates h.stored.1 hok hquorum), h.stored.data]
  rfl

end

end

/-- Settles O60: a reading is discarded, compared, or made a candidate and evaluated, by the record's state. -/
theorem readingTaken : Obligations.ReadingTaken := by
  refine ⟨fun s ch c x rest hc hh => ?_, fun k e hd hm => ?_, fun k e hd hm hi hheld => ?_⟩
  · intro taken more popped
    have hmore : more = false ↔ noReadingWaits rest = true := by
      rw [Channel.noReadingWaits_iff]
      refine List.any_eq_false.trans ⟨fun hall y hy => hall _ hy rfl, fun hno h hh => ?_⟩
      cases h with
      | reading y => exact absurd hh (hno y)
      | report r => exact Bool.false_ne_true
    have hpopped : c.readingTaken rest = popped := by
      by_cases h : c.completing = true ∧ more = false
      · exact (Channel.readingTaken_holds h.1 (hmore.mp h.2)).trans (if_pos h).symm
      · exact (Channel.readingTaken_goesOn fun hno => h ⟨hno.1, hmore.mpr hno.2⟩).trans (if_neg h).symm
    clear_value popped
    subst hpopped
    rw [exec_reading hc hh]
    refine ⟨fun hno => by rw [State.takeReading_discarded hno], fun v hv huid hform => ?_⟩
    rw [State.takeReading_mounted hv huid]
    have hrecord := v.record_withReading_same hform x.sector (s.readingWork ch v x).record
    refine ⟨_, v.withReading x.sector (s.readingWork ch v x).record, rfl, State.setVolume_volume _ _ _,
      State.putChannel_channel _ _ _, rfl,
      fun k hk => ⟨State.putChannel_channel_ne _ _ _ _ hk, State.setVolume_volume_ne _ _ _ _ hk⟩, rfl, rfl,
      fun j hj => Volume.record_withReading_ne hj _, fun k hk => Work.takeReading_area _ _ hk, fun r hr => ?_⟩
    rw [hrecord]
    have hwork : s.readingWork ch v x =
        Work.takeReading { record := r, pool := s.pool, image := s.image } (s.readingEnv ch v x) := by rw [hr]; rfl
    have himage : ((s.readTaken ch v x).putChannel ch (c.readingTaken rest)).image = (s.readingWork ch v x).image := rfl
    have hpool : ((s.readTaken ch v x).putChannel ch (c.readingTaken rest)).pool = (s.readingWork ch v x).pool := rfl
    rw [himage, hpool, hwork]
    refine ⟨fun hst => ?_, fun hst => Work.takeReading_reads hst, fun info hst hinfo => ?_,
      fun slot free hst hnil hfree hd hm hi hlen hquorum => ?_, fun hst => ?_⟩
    · rw [Work.takeReading_excluded hst]
      exact ⟨rfl, rfl, rfl⟩
    · rw [Work.takeReading_settledState hst]
      by_cases hsame : (areaOf s.image (v.base + x.sector)).data.take x.data.length = x.data ∧ info.markClass = x.markClass
      · rw [Work.compareSettled_same (w := Work.counted { record := r, pool := s.pool, image := s.image } _) hinfo hsame]
        exact ⟨rfl, hst, fun _ => ⟨rfl, rfl, fun hi => areaOf_writeArea_same hi _ _ _⟩, fun hother => absurd hsame hother⟩
      · rw [Work.compareSettled_other (w := Work.counted { record := r, pool := s.pool, image := s.image } _) hinfo hsame]
        exact ⟨rfl, hst, fun h => absurd h hsame, fun _ => ⟨hinfo, rfl, rfl⟩⟩
    · obtain ⟨k, hk, hfirst⟩ := Work.takeReading_first (w := { record := r, pool := s.pool, image := s.image })
        (e := s.readingEnv ch v x) hst hnil hfree hd hm
      rw [hk]
      refine ⟨fun hshort => ?_, fun hok hone => ?_⟩
      · rw [hfirst.evaluate_weak hshort]
        exact ⟨rfl, hfirst.candidates, hfirst.armed, hfirst.free, hfirst.image, hfirst.stored.data, hfirst.stored.1⟩
      · rw [hfirst.evaluate_settles hok (by exact hone.le)]
        refine ⟨rfl, rfl, rfl, ?_, ?_⟩
        · have hk : memoryOk k.image = true := by rw [hfirst.image]; exact hi
          exact (congrArg (fun a : Area => a.data.take x.data.length) (areaOf_writeArea_same hk _ _ _)).trans List.take_left
        · rw [Work.settle, hfirst.candidates, ← hfirst.free]
          rfl
    · intro e counted y
      rw [Work.takeReading_open hst]
      exact ⟨rfl, rfl, rfl⟩
  · intro x L hlen stored ranked version fresh written y
    have hversion : ∀ slot, (∀ c, ¬ version slot c) → k.pool.sameVersion slot x.data x.markClass = false :=
      fun slot => Pool.sameVersion_false
    have hstored : ∀ slot, k.pool.Stored (k.pool.write slot fresh x.data x.confidences) slot fresh (written slot) :=
      fun slot => Pool.stored_reading hd hm hlen
    refine ⟨Work.mergeOrForm_image k e, fun slot hmem c hver hone => ?_, fun hnone => ?_⟩
    · intro old raised
      have htook := Work.mergeOrForm_tookIn hd hm hlen hmem hver.1 (Pool.sameVersion_iff.mpr ⟨c, hver⟩)
        (fun b hb hne => hversion b (hone b hb hne)) (raised := raised) rfl
      exact ⟨htook.stored, htook.free, htook.record_kept, htook.perm, htook.ranked⟩
    · have hforms : y = k.addCandidate fresh x.data x.confidences true :=
        Work.mergeOrForm_forms fun b hb => hversion b (hnone b hb)
      clear_value y
      subst hforms
      refine ⟨fun slot free hroom hfree => ?_, fun hfull => ⟨fun before slot low hlist hlow => ⟨fun habove => ?_, fun hbelow => ?_⟩,
        fun hnil => ?_⟩⟩
      · have htook := Work.addCandidate_grants (armed := true) (hstored slot) hroom hfree
        exact ⟨htook.stored, htook.free, htook.record_kept, htook.perm, htook.ranked⟩
      · have htook := (Work.addCandidate_replaces (armed := true) (hstored slot) hfull hlist hlow habove).2
        exact ⟨htook.stored, htook.free, htook.record_overflowed, htook.perm, htook.ranked⟩
      · rw [Work.addCandidate_refused hfull hlist hlow hbelow]
        exact ⟨rfl, rfl⟩
      · rw [Work.addCandidate_full hfull, Work.replaceLowest_nil hnil]
        exact ⟨rfl, rfl⟩
  · intro x L held ok leads open_ settledAs y
    refine ⟨fun slot c hlead => Work.quorum_settledAs hd hi hlead, fun hnone => ?_⟩
    have hslotOk : ∀ a, ok a → k.pool.slotOk a = true := fun a => Pool.slotOk_iff.mpr
    have hnotOk : ∀ a, ¬ ok a → k.pool.slotOk a = false := fun a => Work.slotOk_false
    have hweak : k.become .weak = { k with record := { k.record with state := open_ .weak } } := Work.become_eq k .weak
    refine ⟨fun a ha b hb hne hoka hokb => ?_, fun hnil => Work.evaluate_nil hnone hnil, fun a ha hnd hok hothers => ?_,
      fun hne hno hfuse => ?_, fun hno hthree harmed => ?_⟩
    · exact (Work.evaluate_contested hnone (Pool.two_le_countP ha hb hne (hslotOk a hoka) (hslotOk b hokb))).trans
        (Work.become_eq k .contested)
    · have hone : k.record.candidates.countP k.pool.slotOk = 1 :=
        Pool.countP_eq_one hnd ha (hslotOk a hok) fun b hb hne => hnotOk b (hothers b hb hne)
      rw [← hweak]
      exact Work.evaluate_weak hnone (by omega) (List.ne_nil_of_mem ha) (.inl (by omega))
    · have hzero := Work.countP_slotOk_zero hno
      rw [← hweak]
      exact Work.evaluate_weak hnone (by omega) hne (.inr hfuse)
    · intro fused version
      have hnot : ∀ n ∈ k.record.candidates, k.pool.slotOk n = false := fun n hn => hnotOk n (hno n hn)
      have hversion : ∀ slot, (∀ c, ¬ version slot c) → k.pool.sameVersion slot fused.data fused.markClass = false :=
        fun slot => Pool.sameVersion_false
      have hy : y = k.fused e fused := Work.evaluate_fuses hnone (Work.countP_slotOk_zero hno) hthree harmed rfl
      clear_value y
      subst hy
      refine ⟨?_, fun hbad => ?_, fun hgood => ⟨fun slot hmem c hver hone => ?_, fun hnew => ?_⟩⟩
      · exact Work.fused_scratch k e fused
      · rw [Work.fused_scratch]
        exact Work.fusion_notGood hbad
      · have hsame := Pool.sameVersion_iff.mpr ⟨c, hver⟩
        have hothers := fun b hb hne => hversion b (hone b hb hne)
        exact ⟨Work.fused_version_settles hgood hd hi hmem hver.1 hsame hothers,
          Work.fused_version_weak hgood hd hmem hver.1 hsame hothers⟩
      · have hothers := fun b hb => hversion b (hnew b hb)
        refine ⟨Work.fused_new_settles hgood hd hothers hi, fun hsettles => ?_⟩
        refine ⟨fun slot free hlen hfree hslot => ?_, fun before slot hfull hlist hslot => ?_⟩
        · exact Work.fused_new_granted hgood hd hothers hm hsettles hnot hlen hfree hslot
        · exact Work.fused_new_replaces hgood hd hothers hm hsettles hnot hfull hheld hlist hslot

end Sys2Proof.Machine
end


/-! # Bytes and their bits (R8, R62 to R64, R81) -/

section
/-! SUPPORT. Numbers from bits, bytes with their bits reversed, the least quality of cells, and the byte that cells give. -/

namespace Sys2Proof.Machine

/-! ## Bits as a number -/

theorem bitsToNat_concat (bits : List Bool) (b : Bool) : bitsToNat (bits ++ [b]) = 2 * bitsToNat bits + b.toNat := by
  simp only [bitsToNat, List.foldl_append, List.foldl_cons, List.foldl_nil]

theorem bitsToNat_lt (bits : List Bool) : bitsToNat bits < 2 ^ bits.length := by
  induction bits using List.reverseRecOn with
  | nil => decide
  | append_singleton bits b ih =>
    have hb := Bool.toNat_lt b
    rw [bitsToNat_concat, List.length_append, List.length_singleton, Nat.pow_succ]
    omega

/-- The bits of a number made of bits, the last the least significant. -/
theorem testBit_bitsToNat (bits : List Bool) (k : Nat) : (bitsToNat bits).testBit k = bits.reverse.getD k false := by
  induction bits using List.reverseRecOn generalizing k with
  | nil => simp [bitsToNat]
  | append_singleton bits b ih =>
    have hb := Bool.toNat_lt b
    rw [bitsToNat_concat, List.reverse_append, List.reverse_singleton, List.singleton_append]
    cases k with
    | zero =>
      rw [Nat.testBit_zero, List.getD_cons_zero]
      cases b <;> simp
    | succ k =>
      rw [Nat.testBit_succ, List.getD_cons_succ, ← ih]
      congr 1
      omega

theorem getD_reverse {α : Type} {l : List α} {k : Nat} (x : α) (h : k < l.length) :
    l.reverse.getD k x = l.getD (l.length - 1 - k) x := by
  rw [List.getD_eq_getElem?_getD, List.getElem?_reverse h, ← List.getD_eq_getElem?_getD]

theorem testBit_bitsToNat_lt {bits : List Bool} {k : Nat} (h : k < bits.length) :
    (bitsToNat bits).testBit (bits.length - 1 - k) = bits.getD k false := by
  rw [testBit_bitsToNat, getD_reverse _ (by omega), Nat.sub_sub_self (by omega)]

/-! ## Bytes -/

theorem byteBits_length (b : Byte) : (byteBits b).length = 8 := rfl

theorem byteBits_getD (b : Byte) {k : Nat} (h : k < 8) : (byteBits b).getD k false = b.getLsbD (7 - k) := by
  rw [byteBits, List.getD_eq_getElem?_getD, List.getElem?_map, List.getElem?_range h, Option.map_some, Option.getD_some,
    BitVec.getMsbD_eq_getLsbD, decide_eq_true h, Bool.true_and]

theorem getLsbD_ofNat_byte (n : Nat) {k : Nat} (h : k < 8) : (BitVec.ofNat 8 n).getLsbD k = n.testBit k := by
  rw [BitVec.getLsbD_ofNat, decide_eq_true h, Bool.true_and]

theorem reverseByte_getLsbD (b : Byte) {k : Nat} (h : k < 8) : (reverseByte b).getLsbD k = b.getLsbD (7 - k) := by
  rw [reverseByte, getLsbD_ofNat_byte _ h, testBit_bitsToNat, List.reverse_reverse, byteBits_getD b h]

/-- The bit order of the medium undone, bit by bit (R8). -/
theorem normalise_getLsbD (p : Profile) (b : Byte) {k : Nat} (h : k < 8) :
    (normalise p b).getLsbD (if p.bitOrder = .msbFirst then 7 - k else k) = b.getLsbD (7 - k) := by
  unfold normalise
  cases p.bitOrder with
  | msbFirst => rfl
  | lsbFirst => exact reverseByte_getLsbD b h

/-- Bits met in the other order give the byte with its bits reversed. -/
theorem reverseByte_bitsToNat {bits : List Bool} (h : bits.length = 8) :
    reverseByte (BitVec.ofNat 8 (bitsToNat bits.reverse)) = BitVec.ofNat 8 (bitsToNat bits) := by
  refine BitVec.eq_of_getLsbD_eq fun k hk => ?_
  rw [reverseByte_getLsbD _ hk, getLsbD_ofNat_byte _ (by omega), getLsbD_ofNat_byte _ hk, testBit_bitsToNat, testBit_bitsToNat,
    List.reverse_reverse, getD_reverse _ (by omega), h]

/-! ## Every second cell (R62) -/

theorem getElem?_everySecond {α : Type} (l : List α) (k : Nat) : (everySecond l)[k]? = l[2 * k]? := by
  induction l using everySecond.induct generalizing k with
  | case1 => rfl
  | case2 x => cases k <;> rfl
  | case3 x y l ih =>
    cases k with
    | zero => rfl
    | succ k => exact ih k

theorem length_everySecond {α : Type} (l : List α) : (everySecond l).length = (l.length + 1) / 2 := by
  induction l using everySecond.induct with
  | case1 => simp [everySecond]
  | case2 x => simp [everySecond]
  | case3 x y l ih =>
    simp only [everySecond, List.length_cons, ih]
    omega

/-- The data cells of a byte from the other end are its data cells in the other order. -/
theorem everySecond_reverse {α : Type} {l : List α} (h : l.length % 2 = 0) :
    everySecond l.reverse = (everySecond (l.drop 1)).reverse := by
  refine List.ext_getElem? fun k => ?_
  by_cases hk : 2 * k < l.length
  · have hlength : (everySecond (l.drop 1)).length = l.length / 2 := by
      rw [length_everySecond, List.length_drop]
      omega
    rw [getElem?_everySecond, List.getElem?_reverse hk, List.getElem?_reverse (by omega), getElem?_everySecond,
      List.getElem?_drop, hlength]
    congr 1
    omega
  · rw [List.getElem?_eq_none (by rw [length_everySecond, List.length_reverse]; omega),
      List.getElem?_eq_none (by rw [List.length_reverse, length_everySecond, List.length_drop]; omega)]

/-! ## The least quality (R64) -/

theorem le_leastQuality {cells : List Cell} {n : Nat} : n ≤ leastQuality cells ↔ n ≤ 4 ∧ ∀ c ∈ cells, n ≤ c.quality := by
  have hfold : ∀ a, n ≤ cells.foldl (fun a c => min a c.quality) a ↔ n ≤ a ∧ ∀ c ∈ cells, n ≤ c.quality := by
    induction cells with
    | nil => simp
    | cons c cells ih =>
      intro a
      rw [List.foldl_cons, ih, le_min_iff, List.forall_mem_cons, and_assoc]
  exact hfold 4

theorem leastQuality_reverse (cells : List Cell) : leastQuality cells.reverse = leastQuality cells :=
  eq_of_forall_le_iff fun n => by rw [le_leastQuality, le_leastQuality]; simp only [List.mem_reverse]

theorem leastQuality_le {cells : List Cell} {c : Cell} (h : c ∈ cells) : leastQuality cells ≤ c.quality :=
  (le_leastQuality.mp (Nat.le_refl _)).2 c h

theorem exists_leastQuality {cells : List Cell} (hne : cells ≠ []) (h : ∀ c ∈ cells, c.quality ≤ 4) :
    ∃ c ∈ cells, leastQuality cells = c.quality := by
  refine Classical.byContradiction fun hno => ?_
  have hlt : ∀ c ∈ cells, leastQuality cells + 1 ≤ c.quality := fun c hc =>
    Nat.lt_of_le_of_ne (leastQuality_le hc) fun heq => hno ⟨c, hc, heq⟩
  obtain ⟨c, hc⟩ := List.exists_mem_of_ne_nil cells hne
  exact Nat.not_succ_le_self _ (le_leastQuality.mpr ⟨(hlt c hc).trans (h c hc), hlt⟩)

/-! ## The GCR table (R63) -/

theorem gcrGroup_some {p : Profile} {g : List Cell} (h : bitsToNat (g.map (·.value)) ∈ p.gcrTable.map BitVec.toNat) :
    (gcrGroup p g).1 < p.gcrTable.length ∧
      (p.gcrTable.map BitVec.toNat)[(gcrGroup p g).1]? = some (bitsToNat (g.map (·.value))) ∧
      (gcrGroup p g).2 = leastQuality g := by
  unfold gcrGroup
  cases hfind : p.gcrTable.findIdx? (fun c => c.toNat == bitsToNat (g.map (·.value))) with
  | none =>
    obtain ⟨c, hc, heq⟩ := List.mem_map.mp h
    have hno := List.findIdx?_eq_none_iff.mp hfind c hc
    rw [heq, beq_self_eq_true] at hno
    cases hno
  | some n =>
    obtain ⟨hn, hcode, -⟩ := List.findIdx?_eq_some_iff_getElem.mp hfind
    refine ⟨hn, ?_, rfl⟩
    rw [List.getElem?_map, List.getElem?_eq_getElem hn, Option.map_some, beq_iff_eq.mp hcode]

theorem gcrGroup_none {p : Profile} {g : List Cell} (h : bitsToNat (g.map (·.value)) ∉ p.gcrTable.map BitVec.toNat) :
    gcrGroup p g = (0, 0) := by
  have hfind : p.gcrTable.findIdx? (fun c => c.toNat == bitsToNat (g.map (·.value))) = none :=
    List.findIdx?_eq_none_iff.mpr fun c hc => beq_false_of_ne fun heq => h (heq ▸ List.mem_map_of_mem hc)
  simp only [gcrGroup, hfind]

/-! ## A byte's cells (R62 to R64, R81) -/

section
variable {p : Profile} {cells : List Cell}

theorem forwardByte_gcr (h : p.encoding = .gcr) : forwardByte p cells =
    { byte := normalise p (BitVec.ofNat 8 (16 * (gcrGroup p (cells.take 5)).1 + (gcrGroup p (cells.drop 5)).1))
      confidence := min (gcrGroup p (cells.take 5)).2 (gcrGroup p (cells.drop 5)).2 } := by
  simp only [forwardByte, h]

theorem forwardByte_fm (h : p.encoding ≠ .gcr) : forwardByte p cells =
    { byte := normalise p (BitVec.ofNat 8 (bitsToNat (everySecond ((cells.drop 1).map (·.value)))))
      confidence := leastQuality cells } := by
  unfold forwardByte
  cases he : p.encoding with
  | gcr => exact absurd he h
  | fm | mfm => rfl

theorem cellsPerByte_eq (p : Profile) : cellsPerByte p.encoding = if p.encoding = .gcr then 10 else 16 := by
  cases p.encoding <;> rfl

/-- A reverse pass meets a byte's cells in the other order, and gives the same byte and confidence (R81). -/
theorem reverseBlockByte_reverse (hlen : cells.length = cellsPerByte p.encoding) :
    reverseBlockByte p cells.reverse = forwardByte p cells := by
  by_cases he : p.encoding = .gcr
  · rw [cellsPerByte_eq, if_pos he] at hlen
    have hlo : (cells.reverse.take 5).reverse = cells.drop 5 := by
      rw [List.take_reverse, List.reverse_reverse, hlen]
    have hhi : (cells.reverse.drop 5).reverse = cells.take 5 := by
      rw [List.drop_reverse, List.reverse_reverse, hlen]
    rw [forwardByte_gcr he]
    simp only [reverseBlockByte, he, hlo, hhi]
  · rw [cellsPerByte_eq, if_neg he] at hlen
    have hlength : (cells.map (·.value)).length = 16 := by rw [List.length_map, hlen]
    have height : (everySecond ((cells.map (·.value)).drop 1)).length = 8 := by
      rw [length_everySecond, List.length_drop, hlength]
    have hrev : reverseBlockByte p cells.reverse =
        { byte := normalise p (reverseByte (BitVec.ofNat 8 (bitsToNat (everySecond (cells.reverse.map (·.value))))))
          confidence := leastQuality cells.reverse } := by
      unfold reverseBlockByte
      cases hk : p.encoding with
      | gcr => exact absurd hk he
      | fm | mfm => rfl
    rw [hrev, forwardByte_fm he, leastQuality_reverse, List.map_reverse, everySecond_reverse (by rw [hlength]),
      reverseByte_bitsToNat height, List.map_drop]

end

end Sys2Proof.Machine
end


/-! # Sync runs and marks (R6, R69 to R71) -/

section
/-! SUPPORT. A cell pushed, the sync pattern looked for, and what MARK makes of the cells it collects; and PROOF of O18. -/

namespace Sys2Proof.Machine

/-! ## Sync runs (R69) -/

namespace Decoder

/-- The sync pattern occurs with a cell. -/
def SyncOccurs (d : Decoder) (p : Profile) (c : Cell) : Prop :=
  ((c.value :: d.recent).take p.syncLength).reverse = patternCells p.syncPattern p.syncLength

/-- The sync run that an occurrence with the next cell gives. -/
def runAfter (d : Decoder) (p : Profile) : Nat :=
  if 0 < d.syncRun ∧ d.sinceSync + 1 = p.syncLength then min 4 (d.syncRun + 1) else 1

section
variable {d : Decoder} {p : Profile} {c : Cell}

theorem push_recent_take {n : Nat} (h : n ≤ 32) : (d.push c).recent.take n = (c.value :: d.recent).take n := by
  refine (List.take_take).trans ?_
  rw [Nat.min_eq_left h]

theorem syncOccurs_iff (h : p.syncLength ≤ 32) :
    (d.push c).recent.take p.syncLength = (patternCells p.syncPattern p.syncLength).reverse ↔ d.SyncOccurs p c := by
  rw [push_recent_take h, SyncOccurs, List.reverse_eq_iff]

theorem syncStep_occurs (hlen : p.syncLength ≤ 32) (h : d.SyncOccurs p c) : (d.push c).syncStep p =
    ({ d.push c with syncRun := d.runAfter p, sinceSync := 0 }, decide (p.syncRepeat ≤ d.runAfter p)) := by
  have hsince : (d.push c).sinceSync = p.syncLength ↔ d.sinceSync + 1 = p.syncLength := by
    rw [show (d.push c).sinceSync = min 33 (d.sinceSync + 1) from rfl]
    omega
  have hrun : (if 0 < (d.push c).syncRun ∧ (d.push c).sinceSync = p.syncLength then min 4 ((d.push c).syncRun + 1) else 1) =
      d.runAfter p := by
    simp only [hsince]
    rfl
  rw [syncStep, if_pos ((syncOccurs_iff hlen).mpr h)]
  simp only [hrun]

theorem syncStep_absent (hlen : p.syncLength ≤ 32) (h : ¬ d.SyncOccurs p c) : (d.push c).syncStep p =
    ({ d.push c with syncRun := if p.syncLength ≤ d.sinceSync + 1 then 0 else d.syncRun }, false) := by
  have hsince : p.syncLength ≤ (d.push c).sinceSync ↔ p.syncLength ≤ d.sinceSync + 1 := by
    rw [show (d.push c).sinceSync = min 33 (d.sinceSync + 1) from rfl]
    omega
  rw [syncStep, if_neg fun hp => h ((syncOccurs_iff hlen).mp hp)]
  simp only [hsince]
  split <;> rfl

end

/-! ## HUNT on a forward pass (R69) -/

section
variable {d : Decoder} {e : DecoderEnv} {c : Cell}

theorem takeCell_hunt (h : d.state = .hunt) : d.takeCell e c = d.huntCell e c := by simp only [takeCell, h]

theorem huntCell_forward (h : d.direction = .forward) : d.huntCell e c = Taken.only
    (if ((d.push c).syncStep e.profile).2 then ((d.push c).syncStep e.profile).1.toMark
      else ((d.push c).syncStep e.profile).1) := by
  have hpush : (d.push c).direction = .forward := h
  simp only [huntCell, hpush]

end

/-! ## Marks (R6, R70, R71) -/

theorem fits_iff {m : MarkMask} {b : Byte} :
    m.fits b = true ↔ (m.mustOne ≠ 0 ∨ m.mustZero ≠ 0) ∧ b &&& m.mustOne = m.mustOne ∧ b &&& m.mustZero = 0 := by
  simp only [MarkMask.fits, MarkMask.used, Bool.and_eq_true, Bool.or_eq_true, decide_eq_true_eq, and_assoc]

section
variable {p : Profile} {b : Byte}

theorem classifyMark_header (h : p.headerMark.fits b = true) : classifyMark p b = some none := if_pos h

theorem classifyMark_data (hh : ¬ p.headerMark.fits b = true) (h : p.dataMark.fits b = true) :
    classifyMark p b = some (some .data) := (if_neg hh).trans (if_pos h)

theorem classifyMark_deleted (hh : ¬ p.headerMark.fits b = true) (hd : ¬ p.dataMark.fits b = true)
    (h : p.deletedMark.fits b = true) : classifyMark p b = some (some .deleted) :=
  (if_neg hh).trans ((if_neg hd).trans (if_pos h))

theorem classifyMark_none (hh : ¬ p.headerMark.fits b = true) (hd : ¬ p.dataMark.fits b = true)
    (h : ¬ p.deletedMark.fits b = true) : classifyMark p b = none := (if_neg hh).trans ((if_neg hd).trans (if_neg h))

end

section
variable {d : Decoder} {e : DecoderEnv} {p : Profile} {c : Cell} {mark : Deposit} {cls : MarkClass}

theorem takeMark_none (h : classifyMark p mark.byte = none) : d.takeMark p mark = d.toHunt := by simp only [takeMark, h]

theorem takeMark_header (h : classifyMark p mark.byte = some none) :
    d.takeMark p mark = { d.openBlock mark with state := .header } := by simp only [takeMark, h]

theorem takeMark_field (h : classifyMark p mark.byte = some (some cls)) : d.takeMark p mark = d.enterData p mark cls := by
  simp only [takeMark, h]

theorem takeMark_heldIdentity : (d.takeMark p mark).heldIdentity = none := by
  unfold takeMark
  split <;> rfl

/-- The decoder in MARK with a cell pushed: the gap count goes on, and the first cell fixes the mark's position and sector
counter (R75, R78). -/
def marked (d : Decoder) (e : DecoderEnv) (c : Cell) : Decoder := { d.push c with
  gapCount := if d.heldIdentity.isSome then satAdd Config.gapCountMax d.gapCount 1 else d.gapCount
  markGap := if d.assembly = [] then d.gapCount else d.markGap
  markCounter := if d.assembly = [] then e.sectorCounter else d.markCounter }

theorem marked_assembly : (d.marked e c).assembly = d.assembly := rfl

theorem counted_eq : (if (if (d.push c).heldIdentity.isSome then
      { d.push c with gapCount := satAdd Config.gapCountMax (d.push c).gapCount 1 } else d.push c).assembly.isEmpty then
      { (if (d.push c).heldIdentity.isSome then
        { d.push c with gapCount := satAdd Config.gapCountMax (d.push c).gapCount 1 } else d.push c) with
        markGap := (d.push c).gapCount, markCounter := e.sectorCounter }
      else (if (d.push c).heldIdentity.isSome then
        { d.push c with gapCount := satAdd Config.gapCountMax (d.push c).gapCount 1 } else d.push c)) = d.marked e c := by
  have hheld : (d.push c).heldIdentity = d.heldIdentity := rfl
  have hassembly : ∀ n, ({ d.push c with gapCount := n } : Decoder).assembly = d.assembly := fun _ => rfl
  rw [hheld]
  unfold marked
  by_cases hh : d.heldIdentity.isSome = true
  · simp only [if_pos hh, hassembly, List.isEmpty_iff]
    by_cases ha : d.assembly = []
    · simp only [if_pos ha]
      rfl
    · simp only [if_neg ha]
      rfl
  · have hpush : (d.push c).assembly = d.assembly := rfl
    simp only [if_neg hh, hpush, List.isEmpty_iff]
    by_cases ha : d.assembly = []
    · simp only [if_pos ha]
      rfl
    · simp only [if_neg ha]
      rfl

/-- The decoder as the mark byte is taken, with the cells behind it given back (R70). -/
def beforeMark (d : Decoder) (e : DecoderEnv) (c : Cell) (got : List Cell) : Decoder := { d.marked e c with
  recent := (d.push c).recent.drop (got.drop (cellsPerByte e.profile.encoding)).length
  sinceSync := cellsPerByte e.profile.encoding }

theorem takeCell_mark (h : d.state = .mark) : d.takeCell e c = d.markCell e c := by simp only [takeCell, h]

section
variable {got : List Cell} (hgot : d.assembly ++ [c] = got)
include hgot

theorem markCell_eq : d.markCell e c =
    if got.map (·.value) = (patternCells e.profile.syncPattern e.profile.syncLength).take got.length then
      if got.length = e.profile.syncLength then
        Taken.only { d.marked e c with assembly := [], syncRun := min 4 (d.syncRun + 1), sinceSync := 0 }
      else Taken.only { d.marked e c with assembly := got }
    else if cellsPerByte e.profile.encoding ≤ got.length then
      { decoder := (d.beforeMark e c got).takeMark e.profile
          (forwardByte e.profile (got.take (cellsPerByte e.profile.encoding)))
        back := got.drop (cellsPerByte e.profile.encoding), reading := none }
    else Taken.only { d.marked e c with assembly := got } := by
  unfold markCell
  dsimp only
  rw [counted_eq, marked_assembly, hgot]
  rfl

/-- Cells that may yet be a sync pattern, or are fewer than a byte's, are collected (R70). -/
theorem markCell_collects
    (h : (got.map (·.value) = (patternCells e.profile.syncPattern e.profile.syncLength).take got.length ∧
        got.length < e.profile.syncLength) ∨
      (¬ got.map (·.value) = (patternCells e.profile.syncPattern e.profile.syncLength).take got.length ∧
        got.length < cellsPerByte e.profile.encoding)) :
    d.markCell e c = Taken.only { d.marked e c with assembly := got } := by
  rw [markCell_eq hgot]
  rcases h with ⟨hsync, hlt⟩ | ⟨hno, hlt⟩
  · rw [if_pos hsync, if_neg (Nat.ne_of_lt hlt)]
  · rw [if_neg hno, if_neg (Nat.not_le_of_lt hlt)]

/-- The cells of one more sync pattern raise the sync run (R70). -/
theorem markCell_syncs (h : got.map (·.value) = (patternCells e.profile.syncPattern e.profile.syncLength).take got.length)
    (hlen : got.length = e.profile.syncLength) : d.markCell e c =
      Taken.only { d.marked e c with assembly := [], syncRun := min 4 (d.syncRun + 1), sinceSync := 0 } := by
  rw [markCell_eq hgot, if_pos h, if_pos hlen]

/-- The cells of a byte that are no sync pattern are the mark byte; those behind it are given back (R70). -/
theorem markCell_marks (h : ¬ got.map (·.value) = (patternCells e.profile.syncPattern e.profile.syncLength).take got.length)
    (hlen : cellsPerByte e.profile.encoding ≤ got.length) : d.markCell e c =
      { decoder := (d.beforeMark e c got).takeMark e.profile
          (forwardByte e.profile (got.take (cellsPerByte e.profile.encoding)))
        back := got.drop (cellsPerByte e.profile.encoding), reading := none } := by
  rw [markCell_eq hgot, if_neg h, if_pos hlen]

end

end

end Decoder

end Sys2Proof.Machine
end


/-! # Bytes from cells, sync runs and marks (R8, R62 to R64, R69 to R71, R81) -/

section
/-! PROOF. The clauses of O18, from the rules of bytes, of sync runs and of MARK. -/

namespace Sys2Proof.Machine

section
variable {p : Profile} {cells : List Cell}

/-- The data cells of an FM or MFM byte, the most significant first (R62). -/
theorem forwardByte_fm_bit (he : p.encoding ≠ .gcr) (hlen : cells.length = 16) {k : Nat} (hk : k < 8) :
    (forwardByte p cells).byte.getLsbD (if p.bitOrder = .msbFirst then 7 - k else k) =
      (cells.map (·.value)).getD (2 * k + 1) false := by
  have hlength : (everySecond ((cells.drop 1).map (·.value))).length = 8 := by
    rw [length_everySecond, List.length_map, List.length_drop, hlen]
  have hbit := testBit_bitsToNat_lt (hlength ▸ hk)
  rw [hlength] at hbit
  rw [forwardByte_fm he, normalise_getLsbD p _ hk, getLsbD_ofNat_byte _ (by omega)]
  refine hbit.trans ?_
  rw [List.getD_eq_getElem?_getD, getElem?_everySecond, List.map_drop, List.getElem?_drop, Nat.add_comm,
    ← List.getD_eq_getElem?_getD]

theorem gcrGroup_quality {g : List Cell} (hne : g ≠ []) (hq : ∀ c ∈ g, c.quality ≤ 4)
    (h : bitsToNat (g.map (·.value)) ∈ p.gcrTable.map BitVec.toNat) :
    (∀ c ∈ g, (gcrGroup p g).2 ≤ c.quality) ∧ ∃ c ∈ g, (gcrGroup p g).2 = c.quality := by
  obtain ⟨-, -, hleast⟩ := gcrGroup_some h
  rw [hleast]
  exact ⟨fun c => leastQuality_le, exists_leastQuality hne hq⟩

end

/-- Settles O18: the byte and confidence of a byte's cells, and how sync runs and marks are found. -/
theorem bytesFromCells : Obligations.BytesFromCells := by
  refine ⟨fun p cells hlen hq => ?_, fun d e c hone hlen => ?_⟩
  · intro got bitOf
    rw [cellsPerByte_eq] at hlen
    refine ⟨reverseBlockByte_reverse (by rw [cellsPerByte_eq]; exact hlen), fun he => ?_, fun he hsixteen _ => ?_⟩
    · rw [if_neg he] at hlen
      have hleast : got.confidence = leastQuality cells := by rw [show got = _ from forwardByte_fm he]
      refine ⟨hlen, fun k hk => forwardByte_fm_bit he hlen hk, ?_, ?_⟩
      · rw [hleast]
        exact fun c => leastQuality_le
      · rw [hleast]
        exact exists_leastQuality (List.ne_nil_of_length_pos (by omega)) hq
    · intro code table gives
      rw [if_pos he] at hlen
      have hgives : ∀ g : List Cell, g ≠ [] → (∀ c ∈ g, c ∈ cells) → gives g (gcrGroup p g).1 (gcrGroup p g).2 := by
        intro g hne hsub
        refine ⟨fun hcode => ?_, fun hcode => ?_⟩
        · obtain ⟨hlt, hentry, -⟩ := gcrGroup_some (by exact hcode)
          exact ⟨hsixteen ▸ hlt, hentry, gcrGroup_quality hne (fun c hc => hq c (hsub c hc)) hcode⟩
        · rw [gcrGroup_none hcode]
          exact ⟨rfl, rfl⟩
      refine ⟨hlen, (gcrGroup p (cells.take 5)).1, (gcrGroup p (cells.take 5)).2, (gcrGroup p (cells.drop 5)).1,
        (gcrGroup p (cells.drop 5)).2, hgives _ (List.ne_nil_of_length_pos ?_) fun c => List.mem_of_mem_take,
        hgives _ (List.ne_nil_of_length_pos ?_) fun c => List.mem_of_mem_drop, ?_, fun k hk => ?_⟩
      · rw [List.length_take]
        omega
      · rw [List.length_drop]
        omega
      · rw [show got = _ from forwardByte_gcr he]
      · rw [show got = _ from forwardByte_gcr he, normalise_getLsbD p _ hk, getLsbD_ofNat_byte _ (by omega)]
  · intro p t pattern perByte
    refine ⟨fun hst hdir => ?_, fun hst => ?_⟩
    · intro occurs run
      have ht : t = Taken.only (if ((d.push c).syncStep p).2 then ((d.push c).syncStep p).1.toMark
          else ((d.push c).syncStep p).1) := (Decoder.takeCell_hunt hst).trans (Decoder.huntCell_forward hdir)
      by_cases hoccurs : d.SyncOccurs p c
      · rw [Decoder.syncStep_occurs hlen hoccurs] at ht
        by_cases hrun : p.syncRepeat ≤ d.runAfter p
        · rw [if_pos (decide_eq_true hrun)] at ht
          rw [ht]
          exact ⟨rfl, rfl, rfl, fun _ => ⟨rfl, rfl, fun _ => ⟨rfl, rfl⟩, fun h => absurd hrun (Nat.not_le_of_lt h)⟩,
            fun h => absurd hoccurs h⟩
        · rw [if_neg (fun h => hrun (of_decide_eq_true h))] at ht
          rw [ht]
          exact ⟨rfl, rfl, rfl, fun _ => ⟨rfl, rfl, fun h => absurd h hrun, fun _ => hst⟩, fun h => absurd hoccurs h⟩
      · rw [Decoder.syncStep_absent hlen hoccurs, if_neg Bool.false_ne_true] at ht
        rw [ht]
        exact ⟨rfl, rfl, rfl, fun h => absurd h hoccurs, fun _ => ⟨hst, rfl⟩⟩
    · intro got sync mark fits dataOpened
      have hper : cellsPerByte p.encoding = perByte := cellsPerByte_eq p
      have ht : t = d.markCell e c := Decoder.takeCell_mark hst
      have hfits : ∀ m, m.fits mark.byte = true ↔ fits m := fun m => Decoder.fits_iff
      have hopened : ∀ cls, t.decoder = (d.beforeMark e c got).enterData p mark cls → dataOpened cls := by
        intro cls h
        refine ⟨?_, ?_, ?_, ?_, ?_, ?_⟩ <;> (rw [h]; rfl)
      refine ⟨fun h => ?_, fun hsync hwhole => ?_, fun hno hwhole => ?_⟩
      · rw [ht, Decoder.markCell_collects rfl (by rw [hper]; exact h)]
        exact ⟨hst, rfl, rfl, rfl, rfl⟩
      · rw [ht, Decoder.markCell_syncs rfl hsync hwhole]
        exact ⟨hst, rfl, rfl, rfl, rfl⟩
      · have hmarks := Decoder.markCell_marks rfl hno (by rw [hper]; exact hwhole)
        rw [hper] at hmarks
        have hmark : t.decoder = (d.beforeMark e c got).takeMark p mark := by rw [ht, hmarks]
        refine ⟨by rw [ht, hmarks], by rw [ht, hmarks], by rw [hmark, Decoder.takeMark_heldIdentity], fun hh => ?_,
          fun hh hd => ?_, fun hh hd hx => ?_, fun hh hd hx => ?_⟩
        · rw [hmark, Decoder.takeMark_header (Decoder.classifyMark_header ((hfits _).mpr hh))]
          exact ⟨rfl, rfl⟩
        · rw [← hfits] at hh hd
          have hfield := Decoder.takeMark_field (d := d.beforeMark e c got) (Decoder.classifyMark_data hh hd)
          rw [← hmark] at hfield
          exact hopened _ hfield
        · rw [← hfits] at hh hd hx
          have hfield := Decoder.takeMark_field (d := d.beforeMark e c got) (Decoder.classifyMark_deleted hh hd hx)
          rw [← hmark] at hfield
          exact hopened _ hfield
        · rw [← hfits] at hh hd hx
          rw [hmark, Decoder.takeMark_none (Decoder.classifyMark_none hh hd hx)]
          exact ⟨rfl, rfl, rfl⟩

end Sys2Proof.Machine
end


/-! # Header fields, bytes and tests (R72 to R75, R88) -/

section
/-! SUPPORT. The bits of a header field, the bytes a header's cells make, and the tests of a header taken whole. -/

namespace Sys2Proof.Machine

/-! ## Header fields (R74) -/

theorem length_headerBits (header : List Byte) : (header.flatMap byteBits).length = 8 * header.length := by
  induction header with
  | nil => rfl
  | cons b header ih =>
    rw [List.flatMap_cons, List.length_append, byteBits_length, ih, List.length_cons]
    omega

theorem headerBits_getD (header : List Byte) {k : Nat} (h : k < 8 * header.length) :
    (header.flatMap byteBits).getD k false = (header.getD (k / 8) 0).getLsbD (7 - k % 8) := by
  induction header generalizing k with
  | nil => exact absurd h (Nat.not_lt_zero _)
  | cons b header ih =>
    rw [List.flatMap_cons]
    by_cases hk : k < 8
    · rw [List.getD_append _ _ _ _ (by rw [byteBits_length]; exact hk), byteBits_getD b hk, Nat.div_eq_of_lt hk,
        Nat.mod_eq_of_lt hk, List.getD_cons_zero]
    · have hdiv : k / 8 = (k - 8) / 8 + 1 := by omega
      have hmod : k % 8 = (k - 8) % 8 := by omega
      rw [List.length_cons] at h
      rw [List.getD_append_right _ _ _ _ (by rw [byteBits_length]; omega), byteBits_length, ih (by omega), hdiv, hmod,
        List.getD_cons_succ]

theorem getD_take {l : List Bool} {n j : Nat} (h : j < n) : (l.take n).getD j false = l.getD j false := by
  rw [List.getD_eq_getElem?_getD, List.getElem?_take_of_lt h, ← List.getD_eq_getElem?_getD]

theorem getD_drop (l : List Bool) (n j : Nat) : (l.drop n).getD j false = l.getD (n + j) false := by
  rw [List.getD_eq_getElem?_getD, List.getElem?_drop, ← List.getD_eq_getElem?_getD]

/-- A number of as many bits as are taken for it (R74). -/
theorem bits_of_width {bits : List Bool} {w : Nat} (h : bits.length = w) :
    bitsToNat bits < 2 ^ w ∧ ∀ j, j < w → (bitsToNat bits).testBit (w - 1 - j) = bits.getD j false := by
  subst h
  exact ⟨bitsToNat_lt bits, fun j => testBit_bitsToNat_lt⟩

section
variable {f : FieldDesc} {header : List Byte}

/-- The bits of a field whose bytes stand exchanged (R74). -/
def swappedBits (f : FieldDesc) (header : List Byte) : List Bool :=
  ((((header.flatMap byteBits).drop f.offset).take 16).drop 8 ++ (((header.flatMap byteBits).drop f.offset).take 16).take 8).take
    f.width

theorem fieldValue_plain (hw : f.width ≠ 0) (hs : f.swap = false) :
    fieldValue f header = some (bitsToNat (((header.flatMap byteBits).drop f.offset).take f.width)) := by
  rw [fieldValue, if_neg hw]
  exact if_neg (Bool.eq_false_iff.mp hs)

theorem fieldValue_swapped (hw : f.width ≠ 0) (hs : f.swap = true) :
    fieldValue f header = some (bitsToNat (swappedBits f header)) := by
  rw [fieldValue, if_neg hw]
  exact if_pos hs

theorem swappedBits_length (hw : f.width ≤ 16) (h : f.offset + 16 ≤ 8 * header.length) :
    (swappedBits f header).length = f.width := by
  simp only [swappedBits, List.length_take, List.length_append, List.length_drop, length_headerBits]
  omega

theorem swappedBits_getD (hw : f.width ≤ 16) (h : f.offset + 16 ≤ 8 * header.length) {j : Nat} (hj : j < f.width) :
    (swappedBits f header).getD j false =
      (header.flatMap byteBits).getD (if j < 8 then f.offset + 8 + j else f.offset + j - 8) false := by
  have hspan : ((((header.flatMap byteBits).drop f.offset).take 16).drop 8).length = 8 := by
    simp only [List.length_take, List.length_drop, length_headerBits]
    omega
  rw [swappedBits, getD_take hj]
  split
  · next hlt =>
    rw [List.getD_append _ _ _ _ (by omega), getD_drop, getD_take (by omega), getD_drop, Nat.add_assoc]
  · next hge =>
    rw [List.getD_append_right _ _ _ _ (by omega), hspan, getD_take (by omega), getD_take (by omega), getD_drop]
    congr 1
    omega

end

/-! ## The bytes of a header (R72) -/

namespace Decoder

section
variable {d : Decoder} {e : DecoderEnv} {c : Cell} {cells : List Cell} {p : Profile}

theorem assemble_collects {build : Profile → List Cell → Deposit}
    (h : (d.assembly ++ [c]).length < cellsPerByte p.encoding) :
    d.assemble p build c = ({ d with assembly := d.assembly ++ [c] }, none) := if_pos h

theorem assemble_whole {build : Profile → List Cell → Deposit}
    (h : cellsPerByte p.encoding ≤ (d.assembly ++ [c]).length) :
    d.assemble p build c = ({ d with assembly := [] }, some (build p (d.assembly ++ [c]))) := if_neg (Nat.not_lt_of_le h)

theorem takeCell_header (h : d.state = .header) : d.takeCell e c = d.headerCell e c := by simp only [takeCell, h]

/-- The bytes of a header taken whole, its mark byte and check included (R72). -/
def headerWhole (p : Profile) : Nat := 1 + p.headerLength + headerCheckBytes p

/-- A header with one more byte deposited (R72). -/
def deposited (d : Decoder) (dep : Deposit) : Decoder :=
  { d with assembly := [], block := dep :: d.block, cursor := d.cursor + 1 }

theorem headerCell_collects (h : (d.assembly ++ [c]).length < cellsPerByte e.profile.encoding) :
    d.headerCell e c = Taken.only { d.push c with assembly := d.assembly ++ [c] } := by
  simp only [headerCell, assemble_collects (d := d.push c) h]
  rfl

theorem headerCell_deposits (h : cellsPerByte e.profile.encoding ≤ (d.assembly ++ [c]).length) :
    d.headerCell e c = Taken.only (if d.block.length + 1 = headerWhole e.profile then
      ((d.push c).deposited (forwardByte e.profile (d.assembly ++ [c]))).endHeader e.profile
      else (d.push c).deposited (forwardByte e.profile (d.assembly ++ [c]))) := by
  simp only [headerCell, assemble_whole (d := d.push c) h]
  split
  · next hwhole =>
    have hwhole : d.block.length + 1 = headerWhole e.profile := hwhole
    rw [if_pos hwhole]
    rfl
  · next hno =>
    have hno : ¬ d.block.length + 1 = headerWhole e.profile := hno
    rw [if_neg hno]
    rfl

/-! ## Cells taken one after another -/

/-- A decoder with cells pushed. -/
def pushed (d : Decoder) (cells : List Cell) : Decoder := { d with
  recent := ((cells.map (·.value)).reverse ++ d.recent).take 32, sinceSync := min 33 (d.sinceSync + cells.length) }

theorem take_append_take {α : Type} (l m : List α) (n : Nat) : (l ++ m.take n).take n = (l ++ m).take n := by
  rw [List.take_append, List.take_append, List.take_take, Nat.min_eq_left (Nat.sub_le ..)]

theorem pushed_pushed (a b : List Cell) : (d.pushed a).pushed b = d.pushed (a ++ b) := by
  have hrecent : ((b.map (·.value)).reverse ++ ((a.map (·.value)).reverse ++ d.recent).take 32).take 32 =
      (((a ++ b).map (·.value)).reverse ++ d.recent).take 32 := by
    rw [List.map_append, List.reverse_append, List.append_assoc, take_append_take]
  have hsince : min 33 (min 33 (d.sinceSync + a.length) + b.length) = min 33 (d.sinceSync + (a ++ b).length) := by
    rw [List.length_append]
    omega
  unfold pushed
  rw [hrecent, hsince]

theorem push_eq_pushed : d.push c = d.pushed [c] := rfl

theorem pushed_push (cells : List Cell) : (d.pushed cells).push c = d.pushed (cells ++ [c]) := by
  rw [push_eq_pushed, pushed_pushed]

/-- The decoder after cells, taken in order, none of which gives any back. -/
def takeCells (d : Decoder) (e : DecoderEnv) (cells : List Cell) : Decoder :=
  cells.foldl (fun x c => (x.takeCell e c).decoder) d

theorem takeCells_append (a b : List Cell) : d.takeCells e (a ++ b) = (d.takeCells e a).takeCells e b := List.foldl_append ..

/-- In HEADER a cell is taken by what is pushed, so that a decoder may be taken as though nothing had been pushed. -/
theorem takeCells_pushed_nil (h : d.state = .header) (hne : cells ≠ []) :
    d.takeCells e cells = (d.pushed []).takeCells e cells := by
  cases cells with
  | nil => exact absurd rfl hne
  | cons c cells =>
    have hpush : (d.pushed []).push c = d.push c := pushed_push []
    have hcell : (d.takeCell e c) = (d.pushed []).takeCell e c := by
      rw [takeCell_header h, takeCell_header (d := d.pushed []) h]
      unfold headerCell
      rw [hpush]
    exact congrArg (fun x : Taken => x.decoder.takeCells e cells) hcell

/-- Fewer cells than a byte's join the byte being assembled (R72). -/
theorem takeCells_collects (h : d.state = .header) (hlen : (d.assembly ++ cells).length < cellsPerByte e.profile.encoding) :
    (d.pushed []).takeCells e cells = { d.pushed cells with assembly := d.assembly ++ cells } := by
  induction cells using List.reverseRecOn with
  | nil => rw [List.append_nil]; rfl
  | append_singleton cells c ih =>
    rw [← List.append_assoc] at hlen ⊢
    have hshort : (d.assembly ++ cells).length < cellsPerByte e.profile.encoding := by
      rw [List.length_append] at hlen
      omega
    rw [takeCells_append, ih hshort]
    refine (congrArg Taken.decoder ((takeCell_header (by exact h)).trans (headerCell_collects (by exact hlen)))).trans ?_
    rw [← pushed_push]
    rfl

/-- The cells of one byte deposit it, and end the header where it is the last (R72). -/
theorem takeCells_byte (h : d.state = .header) (hempty : d.assembly = [])
    (hlen : cells.length = cellsPerByte e.profile.encoding) :
    (d.pushed []).takeCells e cells = if d.block.length + 1 = headerWhole e.profile then
      ((d.pushed cells).deposited (forwardByte e.profile cells)).endHeader e.profile
      else (d.pushed cells).deposited (forwardByte e.profile cells) := by
  have hpos : 0 < cellsPerByte e.profile.encoding := by
    rw [cellsPerByte_eq]
    split <;> decide
  obtain ⟨init, c, rfl⟩ := (List.eq_nil_or_concat cells).resolve_left (List.ne_nil_of_length_pos (by omega))
  rw [List.concat_eq_append] at hlen ⊢
  have hshort : (d.assembly ++ init).length < cellsPerByte e.profile.encoding := by
    rw [List.length_append, List.length_singleton] at hlen
    rw [hempty, List.nil_append]
    omega
  rw [takeCells_append, takeCells_collects h hshort]
  refine (congrArg Taken.decoder ((takeCell_header (by exact h)).trans (headerCell_deposits (le_of_eq ?_)))).trans ?_
  · rw [← hlen]
    simp [hempty]
  · simp only [hempty, List.nil_append, ← pushed_push]
    rfl

/-- The bytes that a run of cells makes, the latest first. -/
def bytesOf (p : Profile) (n : Nat) (cells : List Cell) : List Deposit :=
  ((List.range n).map fun k => forwardByte p ((cells.drop (k * cellsPerByte p.encoding)).take (cellsPerByte p.encoding))).reverse

theorem bytesOf_one (h : cells.length = cellsPerByte p.encoding) : bytesOf p 1 cells = [forwardByte p cells] := by
  have htake : (cells.drop (0 * cellsPerByte p.encoding)).take (cellsPerByte p.encoding) = cells := by
    rw [Nat.zero_mul, List.drop_zero, ← h, List.take_length]
  rw [bytesOf, List.range_one, List.map_singleton, htake, List.reverse_singleton]

theorem bytesOf_append {n : Nat} {first rest : List Cell} (h : first.length = cellsPerByte p.encoding) :
    bytesOf p (n + 1) (first ++ rest) = bytesOf p n rest ++ [forwardByte p first] := by
  have hfirst : ((first ++ rest).drop (0 * cellsPerByte p.encoding)).take (cellsPerByte p.encoding) = first := by
    rw [Nat.zero_mul, List.drop_zero, ← h, List.take_left]
  have hrest : ∀ k, (first ++ rest).drop ((k + 1) * cellsPerByte p.encoding) = rest.drop (k * cellsPerByte p.encoding) := by
    intro k
    rw [Nat.succ_mul, Nat.add_comm, ← List.drop_drop, ← h, List.drop_left]
  rw [bytesOf, List.range_succ_eq_map, List.map_cons, List.reverse_cons, hfirst, List.map_map, bytesOf]
  simp only [Function.comp_def, Nat.succ_eq_add_one, hrest]

/-- The cells of all bytes of a header deposit them in turn, and the header is then tested (R72). -/
theorem takeCells_headerBytes {n : Nat} (h : d.state = .header) (hempty : d.assembly = [])
    (hwhole : d.block.length + (n + 1) = headerWhole e.profile)
    (hlen : cells.length = (n + 1) * cellsPerByte e.profile.encoding) :
    (d.pushed []).takeCells e cells = Decoder.endHeader { d.pushed cells with
      assembly := [], block := bytesOf e.profile (n + 1) cells ++ d.block, cursor := d.cursor + (n + 1 : Nat) } e.profile := by
  induction n generalizing d cells with
  | zero =>
    rw [Nat.zero_add, Nat.one_mul] at hlen
    rw [takeCells_byte h hempty hlen, if_pos hwhole, bytesOf_one hlen]
    rfl
  | succ n ih =>
    obtain ⟨first, rest, rfl, hfirst⟩ : ∃ first rest, cells = first ++ rest ∧ first.length = cellsPerByte e.profile.encoding :=
      ⟨_, _, (List.take_append_drop (cellsPerByte e.profile.encoding) cells).symm, by
        rw [List.length_take, hlen]
        exact Nat.min_eq_left (Nat.le_mul_of_pos_left _ (by omega))⟩
    have hrest : rest.length = (n + 1) * cellsPerByte e.profile.encoding := by
      rw [List.length_append, hfirst, Nat.succ_mul] at hlen
      omega
    have hagain : ((d.pushed first).deposited (forwardByte e.profile first)).pushed [] =
        (d.pushed first).deposited (forwardByte e.profile first) := by
      have hsame : (d.pushed first).pushed [] = d.pushed first := by rw [pushed_pushed, List.append_nil]
      exact congrArg (fun x : Decoder => x.deposited (forwardByte e.profile first)) hsame
    rw [takeCells_append, takeCells_byte h hempty hfirst, if_neg (by omega), ← hagain,
      ih (d := (d.pushed first).deposited (forwardByte e.profile first)) h rfl
        (by rw [← hwhole]; simp only [deposited, pushed, List.length_cons]; omega) hrest, bytesOf_append hfirst,
      List.append_assoc, ← pushed_pushed]
    have hcursor : d.cursor + 1 + ((n + 1 : Nat) : Int) = d.cursor + ((n + 1 + 1 : Nat) : Int) := by omega
    rw [← hcursor]
    rfl

end

end Decoder

end Sys2Proof.Machine
end


/-! # Headers (R72 to R75, R88) -/

section
/-! PROOF. The gap after a header, the tests of one taken whole and what follows each, and O19. -/

namespace Sys2Proof.Machine

/-! ## The tests of a header (R73) -/

section
variable {p : Profile} {track : Nat} {bytes header : List Byte} {recorded : Nat}

theorem fieldDiffers_iff {v : Option Nat} {x : Nat} : fieldDiffers v x = true ↔ ∃ n, v = some n ∧ n ≠ x := by
  cases v with
  | none => simp [fieldDiffers]
  | some n => simp [fieldDiffers]

/-- The header bytes among those taken, behind the mark byte (R72). -/
def headerOf (p : Profile) (bytes : List Byte) : List Byte := (bytes.take (1 + p.headerLength)).drop 1

/-- A header's check is wrong (R73). -/
def CheckFails (p : Profile) (bytes : List Byte) : Prop := p.headerCheck = true ∧
  mediumCheck p (bytes.take (1 + p.headerLength)) ≠ bigEndian ((bytes.drop (1 + p.headerLength)).take (headerCheckBytes p))

/-- A header names another track (R73). -/
def WrongTrack (p : Profile) (track : Nat) (bytes : List Byte) : Prop :=
  (∃ n, fieldValue p.cylField (headerOf p bytes) = some n ∧ n ≠ track / p.heads) ∨
    ∃ n, fieldValue p.headField (headerOf p bytes) = some n ∧ n ≠ track - p.heads * (track / p.heads)

/-- A header names a sector outside the track (R73). -/
def OutOfGeometry (p : Profile) (bytes : List Byte) : Prop :=
  ∃ n, fieldValue p.sectorField (headerOf p bytes) = some n ∧ (n < p.sectorBase ∨ p.sectors ≤ n - p.sectorBase)

theorem differs_iff : (fieldDiffers (fieldValue p.cylField (headerOf p bytes)) (placeOf p track).1 = true ∨
    fieldDiffers (fieldValue p.headField (headerOf p bytes)) (placeOf p track).2 = true) ↔ WrongTrack p track bytes := by
  rw [fieldDiffers_iff, fieldDiffers_iff]
  rfl

theorem testHeader_badHeader (h : CheckFails p bytes) : testHeader p track bytes = .badHeader := if_pos h

theorem testHeader_wrongTrack (hc : ¬ CheckFails p bytes) (h : WrongTrack p track bytes) :
    testHeader p track bytes = .wrongTrack := (if_neg hc).trans (if_pos (differs_iff.mpr h))

theorem testHeader_outOfGeometry (hc : ¬ CheckFails p bytes) (hw : ¬ WrongTrack p track bytes) (h : OutOfGeometry p bytes) :
    testHeader p track bytes = .outOfGeometry := by
  obtain ⟨n, hn, hout⟩ := h
  have hsector : logicalSector p n = none := if_pos hout
  rw [headerOf] at hn
  refine (if_neg hc).trans ((if_neg fun hd => hw (differs_iff.mp hd)).trans ?_)
  simp only [hn, hsector]

theorem testHeader_accepted (hc : ¬ CheckFails p bytes) (hw : ¬ WrongTrack p track bytes) (ho : ¬ OutOfGeometry p bytes) :
    testHeader p track bytes = .accepted
      { sector := (fieldValue p.sectorField (headerOf p bytes)).map (fun n => n - p.sectorBase)
        cyl := fieldValue p.cylField (headerOf p bytes), head := fieldValue p.headField (headerOf p bytes) } := by
  refine (if_neg hc).trans ((if_neg fun hd => hw (differs_iff.mp hd)).trans ?_)
  cases hn : fieldValue p.sectorField (headerOf p bytes) with
  | none =>
    rw [headerOf] at hn
    simp only [hn, Option.map_none]
    rfl
  | some n =>
    have hsector : logicalSector p n = some (n - p.sectorBase) := if_neg fun hout => ho ⟨n, hn, hout⟩
    rw [headerOf] at hn
    simp only [hn, hsector, Option.map_some]
    rfl

end

namespace Decoder

/-! ## The end of a header (R73, R88) -/

section
variable {d : Decoder} {e : DecoderEnv} {c : Cell} {p : Profile} {test : HeaderTest} {h : HeldIdentity}

theorem endHeader_accepted (htest : testHeader p d.track (d.block.reverse.map (·.byte)) = .accepted h) :
    d.endHeader p = { ({ d with tallies := d.tallies.countHeader (.accepted h) } : Decoder).toHunt with
      state := .gap, gapCount := 0, heldIdentity := some h, syncRun := d.syncRun } := by
  simp only [endHeader, htest]

/-- A rejected header: its tally raised, and on hard-sectored media its window noted (R73, R88). -/
theorem endHeader_rejected (htest : testHeader p d.track (d.block.reverse.map (·.byte)) = test)
    (hreject : test = .badHeader ∨ test = .wrongTrack ∨ test = .outOfGeometry) :
    d.endHeader p = { ({ d with tallies := d.tallies.countHeader test } : Decoder).toHunt with
      rejectedWindow := if p.medium = .floppyHard then some d.markCounter else d.rejectedWindow } := by
  rcases hreject with rfl | rfl | rfl <;> cases hm : p.medium <;> (simp only [endHeader, htest, hm]; rfl)

/-! ## The gap after a header (R75) -/

/-- A decoder with one more cell of gap counted. -/
def gapped (d : Decoder) : Decoder := { d with gapCount := satAdd Config.gapCountMax d.gapCount 1 }

theorem takeCell_gap (h : d.state = .gap) : d.takeCell e c =
    if ((d.gapped.push c).syncStep e.profile).2 then Taken.only ((d.gapped.push c).syncStep e.profile).1.toMark
    else if gapLimit e.profile < ((d.gapped.push c).syncStep e.profile).1.gapCount then
      Taken.only { ((d.gapped.push c).syncStep e.profile).1 with state := .hunt, heldIdentity := none }
    else Taken.only ((d.gapped.push c).syncStep e.profile).1 := by
  simp only [takeCell, h]
  rfl

/-- The sync run that reaches the repeat minimum leads to MARK (R75). -/
theorem takeCell_gap_marks (h : d.state = .gap) (hlen : e.profile.syncLength ≤ 32) (ho : d.SyncOccurs e.profile c)
    (hrun : e.profile.syncRepeat ≤ d.runAfter e.profile) :
    d.takeCell e c = Taken.only ({ d.gapped.push c with syncRun := d.runAfter e.profile, sinceSync := 0 } : Decoder).toMark := by
  have hdecide : decide (e.profile.syncRepeat ≤ d.gapped.runAfter e.profile) = true := decide_eq_true (by exact hrun)
  rw [takeCell_gap h, syncStep_occurs (d := d.gapped) hlen ho, hdecide]
  rfl

/-- A cell of the gap that ends no sync run: the identity is dropped past the gap limit (R75). -/
theorem takeCell_gap_goesOn (h : d.state = .gap) (hlen : e.profile.syncLength ≤ 32)
    (hno : ¬ d.SyncOccurs e.profile c ∨ d.runAfter e.profile < e.profile.syncRepeat) :
    ∃ run since, d.takeCell e c = Taken.only (if gapLimit e.profile < d.gapped.gapCount then
      { d.gapped.push c with syncRun := run, sinceSync := since, state := .hunt, heldIdentity := none }
      else { d.gapped.push c with syncRun := run, sinceSync := since }) := by
  obtain ⟨run, since, hstep⟩ : ∃ run since, (d.gapped.push c).syncStep e.profile =
      ({ d.gapped.push c with syncRun := run, sinceSync := since }, false) := by
    by_cases ho : d.SyncOccurs e.profile c
    · have hdecide : decide (e.profile.syncRepeat ≤ d.gapped.runAfter e.profile) = false :=
        decide_eq_false (Nat.not_le_of_lt (hno.resolve_left (not_not_intro ho)))
      exact ⟨_, _, (syncStep_occurs (d := d.gapped) hlen ho).trans (congrArg _ hdecide)⟩
    · exact ⟨_, _, syncStep_absent (d := d.gapped) hlen ho⟩
  refine ⟨run, since, ?_⟩
  rw [takeCell_gap h, hstep, if_neg Bool.false_ne_true]
  exact (apply_ite Taken.only _ _ _).symm

theorem gapLimit_eq (p : Profile) : gapLimit p = p.dataGapLimit * if p.encoding = .gcr then 10 else 16 := by
  rw [gapLimit, cellsPerByte_eq]

theorem headerCheckBytes_eq (p : Profile) :
    headerCheckBytes p = if p.headerCheck = false then 0 else if p.checkType = .crc16 then 2 else 1 := by
  unfold headerCheckBytes checkBytes
  cases p.headerCheck <;> cases p.checkType <;> rfl

end

end Decoder

/-- Settles O19: header fields, a header taken cell by cell and tested, and the gap limit that follows it. -/
theorem headerTested : Obligations.HeaderTested := by
  refine ⟨fun f header => ⟨fun hzero => if_pos hzero, fun hw hfits hswap => ?_⟩, fun d e c hst _ hlen => ?_, fun d e hst => ?_,
    fun d p => ?_⟩
  · intro bit place
    cases hs : f.swap with
    | false =>
      have hlength : (((header.flatMap byteBits).drop f.offset).take f.width).length = f.width := by
        rw [List.length_take, List.length_drop, length_headerBits]
        omega
      obtain ⟨hlt, hbits⟩ := bits_of_width hlength
      refine ⟨_, fieldValue_plain hw hs, hlt, fun j hj => ?_⟩
      rw [hbits j hj, getD_take hj, getD_drop, headerBits_getD header (by omega), show place j = f.offset + j from if_pos hs]
    | true =>
      obtain ⟨hwidth, hspan⟩ := hswap hs
      obtain ⟨hlt, hbits⟩ := bits_of_width (swappedBits_length hwidth hspan)
      refine ⟨_, fieldValue_swapped hw hs, hlt, fun j hj => ?_⟩
      have hplace : place j = if j < 8 then f.offset + 8 + j else f.offset + j - 8 :=
        if_neg fun h => Bool.false_ne_true (h.symm.trans hs)
      rw [hbits j hj, swappedBits_getD hwidth hspan hj, ← hplace, headerBits_getD header (by rw [hplace]; split <;> omega)]
  · intro p t pattern occurs run limit count
    have hlimit : limit = gapLimit p := (Decoder.gapLimit_eq p).symm
    by_cases hmarks : d.SyncOccurs p c ∧ p.syncRepeat ≤ d.runAfter p
    · obtain ⟨hoccurs, hrun⟩ := hmarks
      rw [show t = _ from Decoder.takeCell_gap_marks hst hlen hoccurs hrun]
      exact ⟨rfl, rfl, rfl, rfl, fun _ _ => ⟨rfl, rfl, rfl, rfl⟩,
        fun h => h.elim (absurd hoccurs) fun hlt => absurd hrun (Nat.not_le_of_lt hlt)⟩
    · have hno : ¬ d.SyncOccurs p c ∨ d.runAfter p < p.syncRepeat :=
        (Classical.not_and_iff_not_or_not.mp hmarks).imp_right Nat.lt_of_not_le
      obtain ⟨r, since, ht⟩ := Decoder.takeCell_gap_goesOn hst hlen hno
      rw [show t = _ from ht, hlimit]
      rcases Nat.lt_or_ge (gapLimit e.profile) d.gapped.gapCount with hover | hwithin
      · rw [if_pos hover]
        exact ⟨rfl, rfl, rfl, rfl, fun ho hr => absurd ⟨ho, hr⟩ hmarks,
          fun _ => ⟨fun _ => ⟨rfl, rfl⟩, fun h => absurd hover (Nat.not_lt_of_le h)⟩⟩
      · rw [if_neg (Nat.not_lt_of_le hwithin)]
        exact ⟨rfl, rfl, rfl, rfl, fun ho hr => absurd ⟨ho, hr⟩ hmarks,
          fun _ => ⟨fun h => absurd h (Nat.not_lt_of_le hwithin), fun _ => ⟨hst, rfl⟩⟩⟩
  · intro p perByte checkLength whole
    have hper : cellsPerByte p.encoding = perByte := cellsPerByte_eq p
    have hwhole : Decoder.headerWhole p = whole := by rw [Decoder.headerWhole, Decoder.headerCheckBytes_eq]
    refine ⟨fun c => ?_, fun n cells hn hblock hempty hlen => ?_⟩
    · intro t cells pushed deposited
      have ht : t = d.headerCell e c := Decoder.takeCell_header hst
      rw [← hper, ← hwhole, ht]
      rcases Nat.lt_or_ge cells.length (cellsPerByte p.encoding) with hshort | hfull
      · rw [Decoder.headerCell_collects hshort]
        exact ⟨rfl, rfl, fun _ => rfl, fun h => absurd hshort (Nat.not_lt_of_le h), fun h => absurd hshort (Nat.not_lt_of_le h)⟩
      · rw [Decoder.headerCell_deposits hfull]
        refine ⟨rfl, rfl, fun h => absurd hfull (Nat.not_le_of_lt h), fun _ hne => ?_, fun _ heq => ?_⟩
        · rw [if_neg hne]
          rfl
        · rw [if_pos heq]
          rfl
    · obtain ⟨n, rfl⟩ : ∃ k, n = k + 1 := ⟨n - 1, by omega⟩
      rw [← hper] at hlen ⊢
      have hne : cells ≠ [] := List.ne_nil_of_length_pos (by
        rw [hlen, cellsPerByte_eq]
        split <;> omega)
      have hcells := (Decoder.takeCells_pushed_nil hst hne).trans
        (Decoder.takeCells_headerBytes hst hempty (hblock.trans hwhole.symm) hlen)
      rw [← hempty] at hcells
      exact hcells
  · intro bytes header checked recorded checkFails wrongTrack outOfGeometry rejected
    have hrejected : ∀ test, testHeader p d.track bytes = test →
        (test = .badHeader ∨ test = .wrongTrack ∨ test = .outOfGeometry) → rejected (d.tallies.countHeader test) := by
      intro test htest hreject
      have hend := Decoder.endHeader_rejected htest hreject
      exact ⟨congrArg Decoder.tallies hend, congrArg Decoder.state hend, congrArg Decoder.syncRun hend,
        congrArg Decoder.heldIdentity hend, congrArg Decoder.rejectedWindow hend⟩
    refine ⟨testHeader_badHeader, testHeader_wrongTrack, testHeader_outOfGeometry, testHeader_accepted, fun _ =>
      ⟨fun hc => hrejected _ (testHeader_badHeader hc) (.inl rfl),
        fun hc hw => hrejected _ (testHeader_wrongTrack hc hw) (.inr (.inl rfl)),
        fun hc hw ho => hrejected _ (testHeader_outOfGeometry hc hw ho) (.inr (.inr rfl)), fun hc hw ho => ?_⟩⟩
    rw [Decoder.endHeader_accepted (testHeader_accepted hc hw ho)]
    exact ⟨rfl, rfl, rfl, rfl, rfl⟩

end Sys2Proof.Machine
end


/-! # Data fields and reverse blocks (R76, R77, R79 to R88) -/

section
/-! SUPPORT. The cells counted for a field, its bytes deposited, its end, and what its reading holds. -/

namespace Sys2Proof.Machine

/-! ## Missing bytes (R84) -/

section
variable {α : Type} {x : α} {n : Nat} {l : List α}

theorem padTo_length : (padTo x n l).length = n := by
  rw [padTo, List.length_append, List.length_take, List.length_replicate]
  omega

theorem padTo_whole (h : n ≤ l.length) : padTo x n l = l.take n := by
  rw [padTo, Nat.sub_eq_zero_of_le h, List.replicate_zero, List.append_nil]

theorem padTo_nil (x : α) (n : Nat) : padTo x n [] = List.replicate n x := by
  rw [padTo, List.take_nil, List.nil_append]
  rfl

theorem padTo_getElem?_some {j : Nat} {y : α} (hj : j < n) (h : l[j]? = some y) : (padTo x n l)[j]? = some y := by
  obtain ⟨hlt, -⟩ := List.getElem?_eq_some_iff.mp h
  rw [padTo, List.getElem?_append_left (by rw [List.length_take]; omega), List.getElem?_take_of_lt hj, h]

theorem padTo_getElem?_missing {j : Nat} (hj : j < n) (h : l.length ≤ j) : (padTo x n l)[j]? = some x := by
  rw [padTo, List.getElem?_append_right (by rw [List.length_take]; omega), List.getElem?_replicate_of_lt]
  rw [List.length_take]
  omega

end

theorem bigEndian_zeros (n : Nat) : bigEndian (List.replicate n 0) = 0 := by
  induction n with
  | zero => rfl
  | succ n ih => exact ih

/-! ## Lengths (R77) -/

theorem checkBytes_eq (p : Profile) : checkBytes p = if p.checkType = .crc16 then 2 else 1 := by
  unfold checkBytes
  cases p.checkType <;> rfl

theorem dataStart_eq (p : Profile) : dataStart p = if p.medium = .cartridge then
    1 + p.headerLength + (if p.headerCheck = true then checkBytes p else 0) else 1 := by
  unfold dataStart headerSpan headerCheckBytes
  cases p.medium with
  | cartridge => rw [if_pos rfl, Nat.add_assoc]
  | floppySoft | floppyHard => rfl

/-! ## The end of a field (R76, R79, R84) -/

namespace Decoder

section
variable {d : Decoder} {e : DecoderEnv} {deposits : List Deposit} {truncated : Bool} {n : Nat}

theorem closeField_sector (h : d.identity = .sector n) :
    d.closeField e deposits truncated = (d.toHunt, some (d.readingOf e deposits n truncated)) := by simp only [closeField, h]

theorem closeField_orphan (h : d.identity = .orphan) :
    d.closeField e deposits truncated = (({ d with tallies := d.tallies.countOrphan } : Decoder).toHunt, none) := by
  simp only [closeField, h]

theorem closeField_misplaced (h : d.identity = .misplaced) : d.closeField e deposits truncated = (d.toHunt, none) := by
  simp only [closeField, h]

/-- A field closed leaves HUNT: its state, its sync run, its identity and its bytes. -/
theorem closeField_toHunt (d : Decoder) (e : DecoderEnv) (deposits : List Deposit) (truncated : Bool) :
    (d.closeField e deposits truncated).1.state = .hunt ∧ (d.closeField e deposits truncated).1.syncRun = 0 ∧
    (d.closeField e deposits truncated).1.heldIdentity = none ∧ (d.closeField e deposits truncated).1.block = [] ∧
    (d.closeField e deposits truncated).1.recent = d.recent := by
  unfold closeField
  split <;> exact ⟨rfl, rfl, rfl, rfl, rfl⟩

/-- The data bytes of a field's deposits, the missing ones 0 at confidence 0 (R84). -/
def body (p : Profile) (deposits : List Deposit) : List Deposit :=
  padTo { byte := 0, confidence := 0 } p.dataLength (deposits.drop (dataStart p))

theorem readingOf_body : (d.readingOf e deposits n truncated).data = (body e.profile deposits).map (·.byte) ∧
    (d.readingOf e deposits n truncated).confidences = (body e.profile deposits).map (·.confidence) := ⟨rfl, rfl⟩

theorem bytes_headD (deposits : List Deposit) : (d.readingOf e deposits n truncated).markByte =
    (deposits.map (·.byte)).headD 0 := rfl

/-- A whole field's reading holds its data, its confidences and its check as they were deposited (R76). -/
theorem readingOf_whole (h : deposits.length = blockLength e.profile) :
    (d.readingOf e deposits n false).data = ((deposits.map (·.byte)).drop (dataStart e.profile)).take e.profile.dataLength ∧
    (d.readingOf e deposits n false).confidences =
      ((deposits.drop (dataStart e.profile)).take e.profile.dataLength).map (·.confidence) ∧
    (d.readingOf e deposits n false).recordedCheck =
      bigEndian ((deposits.map (·.byte)).drop (dataStart e.profile + e.profile.dataLength)) := by
  have hbody : body e.profile deposits = (deposits.drop (dataStart e.profile)).take e.profile.dataLength := by
    refine padTo_whole ?_
    rw [List.length_drop, h, blockLength]
    omega
  have hcheck : ((deposits.map (·.byte)).drop (dataStart e.profile + e.profile.dataLength)).length =
      checkBytes e.profile := by
    rw [List.length_drop, List.length_map, h, blockLength]
    omega
  obtain ⟨hdata, hconfidences⟩ := readingOf_body (d := d) (e := e) (deposits := deposits) (n := n) (truncated := false)
  refine ⟨?_, ?_, ?_⟩
  · rw [hdata, hbody, List.map_take, List.map_drop]
  · rw [hconfidences, hbody]
  · refine (show _ = bigEndian (padTo 0 (checkBytes e.profile)
      ((deposits.drop (dataStart e.profile + e.profile.dataLength)).map (·.byte))) from rfl).trans ?_
    rw [List.map_drop, padTo_whole (le_of_eq hcheck.symm), List.take_of_length_le (le_of_eq hcheck)]

theorem readingOf_checkOk : (d.readingOf e deposits n false).checkOk = true ↔
    mediumCheck e.profile ((d.readingOf e deposits n false).markByte :: (d.readingOf e deposits n false).data) =
      (d.readingOf e deposits n false).recordedCheck := decide_eq_true_iff

/-! ## A truncated field (R84) -/

theorem readingOf_truncated_check (h : deposits.length ≤ dataStart e.profile + e.profile.dataLength) :
    (d.readingOf e deposits n truncated).recordedCheck = 0 := by
  refine (show _ = bigEndian (padTo 0 (checkBytes e.profile)
    ((deposits.drop (dataStart e.profile + e.profile.dataLength)).map (·.byte))) from rfl).trans ?_
  rw [List.drop_eq_nil_of_le h, List.map_nil, padTo_nil, bigEndian_zeros]

theorem readingOf_lengths : (d.readingOf e deposits n truncated).data.length = e.profile.dataLength ∧
    (d.readingOf e deposits n truncated).confidences.length = e.profile.dataLength := by
  obtain ⟨hdata, hconfidences⟩ := readingOf_body (d := d) (e := e) (deposits := deposits) (n := n) (truncated := truncated)
  rw [hdata, hconfidences, List.length_map, List.length_map, body, padTo_length]
  exact ⟨rfl, rfl⟩

/-- A data byte that was deposited, and one that was not (R84). -/
theorem readingOf_byte {j : Nat} (hj : j < e.profile.dataLength) :
    (∀ dep, deposits[dataStart e.profile + j]? = some dep → (d.readingOf e deposits n truncated).data[j]? = some dep.byte ∧
      (d.readingOf e deposits n truncated).confidences[j]? = some dep.confidence) ∧
    (deposits.length ≤ dataStart e.profile + j → (d.readingOf e deposits n truncated).data[j]? = some 0 ∧
      (d.readingOf e deposits n truncated).confidences[j]? = some 0) := by
  obtain ⟨hdata, hconfidences⟩ := readingOf_body (d := d) (e := e) (deposits := deposits) (n := n) (truncated := truncated)
  rw [hdata, hconfidences, List.getElem?_map, List.getElem?_map]
  refine ⟨fun dep h => ?_, fun h => ?_⟩
  · rw [body, padTo_getElem?_some hj (by rw [List.getElem?_drop]; exact h)]
    exact ⟨rfl, rfl⟩
  · rw [body, padTo_getElem?_missing hj (by rw [List.length_drop]; omega)]
    exact ⟨rfl, rfl⟩

end

/-! ## The cells counted for a field (R86) -/

section
variable {d : Decoder} {e : DecoderEnv} {p : Profile} {c : Cell}

/-- A decoder that has counted a cell: its violations, what was clamped, and the interval of the last violation. -/
structure Counts (d : Decoder) (p : Profile) (c : Cell) (x : Decoder) : Prop where
  frame : x = { d.push c with violations := x.violations, clamped := x.clamped, lastViolation := x.lastViolation }
  violations : x.violations = if (dataStart p : Int) ≤ d.cursor ∧ c.kind = .violation ∧ d.lastViolation ≠ some c.interval then
    min 255 (d.violations + 1) else d.violations
  clamped : x.clamped = true ↔ d.clamped = true ∨ ((dataStart p : Int) ≤ d.cursor ∧ c.kind = .clamped)

theorem counts_countAt (d : Decoder) (p : Profile) (c : Cell) : d.Counts p c ((d.push c).countAt p c) := by
  have hpush : (d.push c).cursor = d.cursor ∧ (d.push c).lastViolation = d.lastViolation := ⟨rfl, rfl⟩
  unfold countAt countInterval
  rw [hpush.1, hpush.2]
  by_cases hcursor : (dataStart p : Int) ≤ d.cursor
  · rw [if_pos hcursor]
    cases hk : c.kind with
    | normal => exact ⟨rfl, by simp [hk]; rfl, by simp [hk]; rfl⟩
    | clamped => exact ⟨rfl, by simp [hk]; rfl, by simp [hk, hcursor]⟩
    | violation =>
      dsimp only
      by_cases hlast : d.lastViolation = some c.interval
      · rw [if_pos hlast]
        exact ⟨rfl, by simp [hlast]; rfl, by simp [hk]; rfl⟩
      · rw [if_neg hlast]
        exact ⟨rfl, by simp [hcursor, hk, hlast]; rfl, by simp [hk]; rfl⟩
  · rw [if_neg hcursor]
    exact ⟨rfl, by simp [hcursor]; rfl, by simp [hcursor]; rfl⟩

end

end Decoder

end Sys2Proof.Machine
end


/-! # Fields and reverse blocks, cell by cell (R71, R75 to R88) -/

section
/-! SUPPORT. DATA and BLOCK_REV on one cell, a cartridge block's header, and the identity that a mark's field takes. -/

namespace Sys2Proof.Machine

namespace Decoder

section
variable {d x y : Decoder} {e : DecoderEnv} {p : Profile} {c : Cell} {h : HeldIdentity} {n : Nat} {test : HeaderTest}

/-! ## What a counted cell leaves (R86) -/

theorem Counts.assembly (hx : d.Counts p c x) : x.assembly = d.assembly := (congrArg Decoder.assembly hx.frame).trans rfl

theorem Counts.block (hx : d.Counts p c x) : x.block = d.block := (congrArg Decoder.block hx.frame).trans rfl

theorem Counts.cursor (hx : d.Counts p c x) : x.cursor = d.cursor := (congrArg Decoder.cursor hx.frame).trans rfl

theorem Counts.state (hx : d.Counts p c x) : x.state = d.state := (congrArg Decoder.state hx.frame).trans rfl

theorem Counts.tallies (hx : d.Counts p c x) : x.tallies = d.tallies := (congrArg Decoder.tallies hx.frame).trans rfl

theorem Counts.identity (hx : d.Counts p c x) : x.identity = d.identity := (congrArg Decoder.identity hx.frame).trans rfl

theorem Counts.pass (hx : d.Counts p c x) : x.track = d.track ∧ x.passNumber = d.passNumber ∧ x.markClass = d.markClass :=
  ⟨(congrArg Decoder.track hx.frame).trans rfl, (congrArg Decoder.passNumber hx.frame).trans rfl,
    (congrArg Decoder.markClass hx.frame).trans rfl⟩

/-! ## DATA (R76, R77) -/

theorem takeCell_data (hst : d.state = .data) : d.takeCell e c = d.dataCell e c := by simp only [takeCell, hst]

theorem dataCell_collects (hx : (d.push c).countAt e.profile c = x)
    (hshort : (x.assembly ++ [c]).length < cellsPerByte e.profile.encoding) :
    d.dataCell e c = Taken.only { x with assembly := x.assembly ++ [c] } := by
  simp only [dataCell, hx, assemble_collects hshort]

theorem dataCell_deposits (hx : (d.push c).countAt e.profile c = x)
    (hfull : cellsPerByte e.profile.encoding ≤ (x.assembly ++ [c]).length)
    (hy : x.deposited (forwardByte e.profile (x.assembly ++ [c])) = y) : d.dataCell e c =
      if y.block.length = blockLength e.profile then
        { decoder := (y.closeField e y.block.reverse false).1, back := [], reading := (y.closeField e y.block.reverse false).2 }
      else if e.profile.medium = .cartridge ∧ y.block.length = dataStart e.profile then Taken.only (y.blockHeader e.profile)
      else Taken.only y := by
  subst hy
  simp only [dataCell, hx, assemble_whole hfull]
  rfl

/-- A cartridge block's header that is accepted gives the block its sector (R77). -/
theorem blockHeader_accepted (htest : testHeader p d.track (d.block.reverse.map (·.byte)) = .accepted h)
    (hn : h.sector = some n) : d.blockHeader p =
      { d with tallies := d.tallies.countHeader (.accepted h), identity := .sector n } := by
  obtain ⟨sector, cyl, head⟩ := h
  obtain rfl : sector = some n := hn
  simp only [blockHeader, htest]

theorem blockHeader_rejected (htest : testHeader p d.track (d.block.reverse.map (·.byte)) = test)
    (hreject : test = .badHeader ∨ test = .wrongTrack ∨ test = .outOfGeometry) :
    d.blockHeader p = ({ d with tallies := d.tallies.countHeader test } : Decoder).toHunt := by
  rcases hreject with rfl | rfl | rfl <;> simp only [blockHeader, htest]

/-! ## BLOCK_REV (R80 to R82) -/

theorem takeCell_blockRev (hst : d.state = .blockRev) : d.takeCell e c = d.reverseCell e c := by simp only [takeCell, hst]

/-- A reverse block with one more byte deposited below the one before (R82). -/
def depositedBelow (d : Decoder) (dep : Deposit) : Decoder :=
  { d with assembly := [], block := dep :: d.block, cursor := d.cursor - 1 }

theorem reverseCell_collects (hx : (d.push c).countAt e.profile c = x)
    (hshort : (x.assembly ++ [c]).length < cellsPerByte e.profile.encoding) :
    d.reverseCell e c = Taken.only { x with assembly := x.assembly ++ [c] } := by
  simp only [reverseCell, hx, assemble_collects hshort]

theorem reverseCell_deposits (hx : (d.push c).countAt e.profile c = x)
    (hfull : cellsPerByte e.profile.encoding ≤ (x.assembly ++ [c]).length)
    (hy : x.depositedBelow (reverseBlockByte e.profile (x.assembly ++ [c])) = y) : d.reverseCell e c =
      if y.block.length = blockLength e.profile then
        { decoder := (y.endReverseBlock e).1, back := [], reading := (y.endReverseBlock e).2 }
      else Taken.only y := by
  subst hy
  simp only [reverseCell, hx, assemble_whole hfull]
  rfl

/-- HUNT on a reverse pass opens a block at the mirrored end pattern (R80). -/
theorem huntCell_reverse (hdir : d.direction = .reverse) (hlen : e.profile.endLength ≤ 32) : d.huntCell e c = Taken.only
    (if (c.value :: d.recent).take e.profile.endLength = patternCells e.profile.endPattern e.profile.endLength then
      { d.push c with
        state := .blockRev, assembly := [], block := [], cursor := (blockLength e.profile : Int) - 1
        violations := 0, clamped := false, lastViolation := none }
      else d.push c) := by
  have hpush : (d.push c).direction = .reverse := hdir
  simp only [huntCell, hpush, push_recent_take hlen]
  exact (apply_ite Taken.only _ _ _).symm

section
variable {mark : Byte} {cls : MarkClass} (hmark : (d.block.map (·.byte)).headD 0 = mark)
include hmark

/-- A reverse block without a data mark gives nothing (R82). -/
theorem endReverseBlock_noData (hclass : classifyMark e.profile mark = none ∨ classifyMark e.profile mark = some none) :
    d.endReverseBlock e = (d.toHunt, none) := by
  subst hmark
  rcases hclass with hclass | hclass <;> simp only [endReverseBlock, hclass]

theorem endReverseBlock_rejected (hclass : classifyMark e.profile mark = some (some cls))
    (htest : testHeader e.profile d.track (d.block.map (·.byte)) = test)
    (hreject : test = .badHeader ∨ test = .wrongTrack ∨ test = .outOfGeometry) : d.endReverseBlock e =
      (({ d with tallies := d.tallies.countHeader test, markClass := cls } : Decoder).toHunt, none) := by
  subst hmark
  rcases hreject with rfl | rfl | rfl <;> simp only [endReverseBlock, hclass, htest]

/-- A reverse block whose header is accepted is a whole field of its sector (R82). -/
theorem endReverseBlock_accepted (hclass : classifyMark e.profile mark = some (some cls))
    (htest : testHeader e.profile d.track (d.block.map (·.byte)) = .accepted h) (hn : h.sector = some n) :
    d.endReverseBlock e = Decoder.closeField { d with
      tallies := d.tallies.countHeader (.accepted h), markClass := cls, identity := .sector n } e d.block false := by
  subst hmark
  obtain ⟨sector, cyl, head⟩ := h
  obtain rfl : sector = some n := hn
  simp only [endReverseBlock, hclass, htest]

end

/-! ## The identity of a field (R71, R75, R78) -/

section
variable {held : Option HeldIdentity} (hheld : (if d.markGap ≤ gapLimit p then d.heldIdentity else none) = held)
include hheld

theorem fieldIdentityOf_soft_held (hm : p.medium = .floppySoft) (hh : held = some h) (hn : h.sector = some n) :
    fieldIdentityOf p d = .sector n := by
  obtain ⟨sector, cyl, head⟩ := h
  obtain rfl : sector = some n := hn
  simp only [fieldIdentityOf, hm, hheld, hh]

theorem fieldIdentityOf_soft_none (hm : p.medium = .floppySoft) (hh : held = none) : fieldIdentityOf p d = .orphan := by
  simp only [fieldIdentityOf, hm, hheld, hh]

theorem fieldIdentityOf_hard_held (hm : p.medium = .floppyHard) (hh : held = some h) (hn : h.sector = some n) :
    fieldIdentityOf p d = if n = d.markCounter then .sector d.markCounter else .misplaced := by
  obtain ⟨sector, cyl, head⟩ := h
  obtain rfl : sector = some n := hn
  simp only [fieldIdentityOf, hm, hheld, hh]

theorem fieldIdentityOf_hard_unnamed (hm : p.medium = .floppyHard) (hh : held = some h) (hn : h.sector = none) :
    fieldIdentityOf p d = .sector d.markCounter := by
  obtain ⟨sector, cyl, head⟩ := h
  obtain rfl : sector = none := hn
  simp only [fieldIdentityOf, hm, hheld, hh]

theorem fieldIdentityOf_hard_none (hm : p.medium = .floppyHard) (hh : held = none) :
    fieldIdentityOf p d = if d.rejectedWindow = some d.markCounter then .orphan else .sector d.markCounter := by
  simp only [fieldIdentityOf, hm, hheld, hh]

end

theorem fieldIdentityOf_cartridge (hm : p.medium = .cartridge) : fieldIdentityOf p d = .orphan := by
  simp only [fieldIdentityOf, hm]

end

end Decoder

end Sys2Proof.Machine
end


/-! # Data fields and their truncation (R71, R75 to R79, R83, R84, R86 to R88) -/

section
/-! PROOF. O21: a field cut short, the identity a data mark's field takes, and a field's bytes to its end. -/

namespace Sys2Proof.Machine

namespace Decoder

section
variable {d x : Decoder} {e : DecoderEnv} {p : Profile} {c : Cell} {mark : Deposit}

theorem cutShort_data (hst : d.state = .data) : d.cutShort e = d.closeField e d.block.reverse true := by
  simp only [cutShort, hst]

/-- A mark that leads to DATA has a field's class, and its field the identity found for it (R71, R78). -/
theorem takeMark_data (hst : (d.takeMark p mark).state = .data) :
    (d.takeMark p mark).identity = fieldIdentityOf p d ∧
    (fieldIdentityOf p d ≠ .misplaced → (d.takeMark p mark).tallies = d.tallies) ∧
    (fieldIdentityOf p d = .misplaced → (d.takeMark p mark).tallies = d.tallies.countMisplaced) := by
  cases hclass : classifyMark p mark.byte with
  | none =>
    rw [takeMark_none hclass] at hst
    cases hst
  | some cls =>
    cases cls with
    | none =>
      rw [takeMark_header hclass] at hst
      cases hst
    | some cls =>
      rw [takeMark_field hclass]
      refine ⟨rfl, fun hne => ?_, fun heq => ?_⟩
      · cases hid : fieldIdentityOf p d with
        | misplaced => exact absurd hid hne
        | orphan | sector n => simp only [enterData, hid]
      · simp only [enterData, heq]

/-- MARK leads to DATA only with a mark byte taken (R70, R71). -/
theorem markCell_data (hst : d.state = .mark) (hdata : (d.markCell e c).decoder.state = .data) :
    ∃ mark, (d.markCell e c).decoder = (d.beforeMark e c (d.assembly ++ [c])).takeMark e.profile mark := by
  have hnot : ∀ y : Decoder, y.state = .mark → (Taken.only y).decoder.state ≠ .data := fun y hy hd => by
    rw [show (Taken.only y).decoder = y from rfl, hy] at hd
    cases hd
  rw [markCell_eq rfl] at hdata ⊢
  split at hdata
  · split at hdata
    · exact absurd hdata (hnot _ hst)
    · exact absurd hdata (hnot _ hst)
  · next hsync =>
    rw [if_neg hsync]
    split at hdata
    · next hlen =>
      rw [if_pos hlen]
      exact ⟨_, rfl⟩
    · exact absurd hdata (hnot _ hst)

end

end Decoder

/-- Settles O21: a truncated field, the identity a field takes, and a field's bytes to its end. -/
theorem truncatedFieldRead : Obligations.TruncatedFieldRead := by
  refine ⟨fun d e hst => ?_, fun d e c => ?_⟩
  · intro cut dropped
    have hcut : cut = d.closeField e d.block.reverse true := Decoder.cutShort_data hst
    obtain ⟨hstate, -, hheld, -, hrecent⟩ := d.closeField_toHunt e d.block.reverse true
    rw [← hcut] at hstate hheld hrecent
    refine ⟨hstate, hheld, hrecent, hstate, hheld, rfl, rfl, rfl, rfl, fun hid => ?_, fun hid => ?_, fun n hid => ?_⟩
    · rw [hcut, Decoder.closeField_orphan hid]
      exact ⟨rfl, rfl⟩
    · rw [hcut, Decoder.closeField_misplaced hid]
      exact ⟨rfl, rfl⟩
    · rw [hcut, Decoder.closeField_sector hid]
      obtain ⟨hdata, hconfidences⟩ := Decoder.readingOf_lengths (d := d) (e := e) (deposits := d.block.reverse) (n := n)
        (truncated := true)
      refine ⟨rfl, _, rfl, rfl, fun dep hdep => ?_, fun hshort => ?_, rfl, rfl, rfl, rfl, rfl, rfl, rfl, hdata, hconfidences,
        fun j hj => ?_⟩
      · rw [Decoder.bytes_headD, List.headD_eq_head?_getD, List.head?_eq_getElem?, List.getElem?_map, hdep]
        rfl
      · exact Decoder.readingOf_truncated_check (by rw [List.length_reverse]; exact hshort)
      · obtain ⟨hsome, hmissing⟩ := Decoder.readingOf_byte (d := d) (e := e) (deposits := d.block.reverse) (n := n)
          (truncated := true) hj
        exact ⟨hsome, fun h => hmissing (by rw [List.length_reverse]; exact h)⟩
  · intro p t perByte
    have hper : cellsPerByte p.encoding = perByte := cellsPerByte_eq p
    refine ⟨fun hst hdata => ?_, fun hst => ?_⟩
    · intro place counter held
      have ht : t = d.markCell e c := Decoder.takeCell_mark hst
      rw [ht] at hdata ⊢
      obtain ⟨mark, hmark⟩ := Decoder.markCell_data hst hdata
      rw [hmark] at hdata ⊢
      obtain ⟨hid, hother, hmisplaced⟩ := Decoder.takeMark_data hdata
      generalize ((d.beforeMark e c (d.assembly ++ [c])).takeMark e.profile mark) = y at hid hother hmisplaced ⊢
      rw [← hid] at hother hmisplaced
      have hheld : ∀ h, held h → (if (d.beforeMark e c (d.assembly ++ [c])).markGap ≤ gapLimit p then
          (d.beforeMark e c (d.assembly ++ [c])).heldIdentity else none) = some h :=
        fun h hh => (if_pos (by rw [Decoder.gapLimit_eq]; exact hh.2)).trans hh.1
      have hnone : (∀ h, ¬ held h) → (if (d.beforeMark e c (d.assembly ++ [c])).markGap ≤ gapLimit p then
          (d.beforeMark e c (d.assembly ++ [c])).heldIdentity else none) = none := by
        intro hno
        split
        · next hgap =>
          rw [Decoder.gapLimit_eq] at hgap
          exact Option.eq_none_iff_forall_ne_some.mpr fun h hh => hno h ⟨hh, hgap⟩
        · rfl
      refine ⟨hother, fun hm => hid.trans (Decoder.fieldIdentityOf_cartridge hm), fun hm => ⟨fun h n hh hn => ?_, fun hno => ?_⟩,
        fun hm => ⟨fun h n hh hn hne => ?_, fun h hh hn => ?_, fun hno => ?_⟩⟩
      · exact hid.trans (Decoder.fieldIdentityOf_soft_held rfl hm (hheld h hh) hn)
      · exact hid.trans (Decoder.fieldIdentityOf_soft_none rfl hm (hnone hno))
      · have hmis := hid.trans ((Decoder.fieldIdentityOf_hard_held rfl hm (hheld h hh) hn).trans (if_neg hne))
        exact ⟨hmis, hmisplaced hmis⟩
      · rcases hn with hn | hn
        · exact hid.trans (Decoder.fieldIdentityOf_hard_unnamed rfl hm (hheld h hh) hn)
        · exact hid.trans ((Decoder.fieldIdentityOf_hard_held rfl hm (hheld h hh) hn).trans (if_pos rfl))
      · exact hid.trans (Decoder.fieldIdentityOf_hard_none rfl hm (hnone hno))
    · intro checkLength start whole cells block bytes counts violations
      have hcheck : checkLength = checkBytes p := (checkBytes_eq p).symm
      have hstart : start = dataStart p := by rw [dataStart_eq, ← hcheck]
      have hwhole : whole = blockLength p := by rw [blockLength, ← hstart, ← hcheck]
      obtain ⟨x, hxeq⟩ : ∃ x, (d.push c).countAt e.profile c = x := ⟨_, rfl⟩
      have hx : d.Counts p c x := hxeq ▸ d.counts_countAt e.profile c
      have hcells : x.assembly ++ [c] = cells := by rw [hx.assembly]
      have hviolations : x.violations = violations := by
        rw [hx.violations, ← hstart]
      have ht : t = d.dataCell e c := Decoder.takeCell_data hst
      have hxst : x.state = .data := hx.state.trans hst
      obtain ⟨y, hy⟩ : ∃ y, x.deposited (forwardByte p cells) = y := ⟨_, rfl⟩
      have hyblock : y.block = block := by rw [← hy]; exact congrArg _ hx.block
      have hycursor : y.cursor = d.cursor + 1 := by rw [← hy]; exact congrArg (· + 1) hx.cursor
      have hyst : y.state = .data := by rw [← hy]; exact hxst
      have hyassembly : y.assembly = [] := by rw [← hy]; rfl
      have hytallies : y.tallies = d.tallies := by rw [← hy]; exact hx.tallies
      have hyviolations : y.violations = violations := by rw [← hy]; exact hviolations
      have hyidentity : y.identity = d.identity := by rw [← hy]; exact hx.identity
      have hyclamped : y.clamped = true ↔ d.clamped = true ∨ (counts ∧ c.kind = .clamped) := by
        rw [← hy, show counts = ((dataStart p : Int) ≤ d.cursor) by rw [← hstart]]
        exact hx.clamped
      obtain ⟨hytrack, hypass, hyclass⟩ : y.track = d.track ∧ y.passNumber = d.passNumber ∧ y.markClass = d.markClass := by
        rw [← hy]; exact hx.pass
      have hdeposits : perByte ≤ cells.length → d.dataCell e c = _ := fun hfull =>
        Decoder.dataCell_deposits (y := y) hxeq (by rw [hcells, hper]; exact hfull) (by rw [hcells]; exact hy)
      rw [hyblock] at hdeposits
      rw [ht, hwhole, hstart]
      refine ⟨?_, fun hshort => ?_, fun hfull hno => ?_, fun hfull hall _ => ?_⟩
      · rcases Nat.lt_or_ge cells.length perByte with hshort | hfull
        · rw [Decoder.dataCell_collects hxeq (by rw [hcells, hper]; exact hshort)]
          rfl
        · rw [hdeposits hfull]
          split
          · rfl
          · split <;> rfl
      · rw [Decoder.dataCell_collects hxeq (by rw [hcells, hper]; exact hshort)]
        exact ⟨rfl, hxst, hcells, hx.block, hviolations⟩
      · rw [hdeposits hfull.ge, if_neg hno]
        by_cases hheader : p.medium = .cartridge ∧ block.length = dataStart p
        · rw [if_pos hheader]
          have hrejected : ∀ test, testHeader p d.track bytes = test →
              (test = .badHeader ∨ test = .wrongTrack ∨ test = .outOfGeometry) →
              (y.blockHeader p).state = .hunt ∧ (y.blockHeader p).tallies = d.tallies.countHeader test := by
            intro test htest hreject
            rw [Decoder.blockHeader_rejected (by rw [hyblock, hytrack]; exact htest) hreject, hytallies]
            exact ⟨rfl, rfl⟩
          refine ⟨rfl, fun h => absurd hheader.1 (h.resolve_right (not_not_intro hheader.2)), fun _ _ =>
            ⟨fun htest => hrejected _ htest (.inl rfl), fun htest => hrejected _ htest (.inr (.inl rfl)),
              fun htest => hrejected _ htest (.inr (.inr rfl)), fun h n htest hn => ?_⟩⟩
          rw [show (Taken.only (y.blockHeader e.profile)).decoder = y.blockHeader p from rfl,
            Decoder.blockHeader_accepted (by rw [hyblock, hytrack]; exact htest) hn, hytallies]
          exact ⟨hyst, rfl, hyblock, hycursor, rfl⟩
        · rw [if_neg hheader]
          exact ⟨rfl, fun _ => ⟨hyst, hyassembly, hyblock, hycursor, hytallies, hyviolations⟩,
            fun hm hl => absurd ⟨hm, hl⟩ hheader⟩
      · rw [hdeposits hfull.ge, if_pos hall]
        obtain ⟨hstate, hrun, hheld, hempty, -⟩ := y.closeField_toHunt e block.reverse false
        refine ⟨hstate, hrun, hheld, hempty, fun hid => ?_, fun hid => ?_, fun n hid => ?_⟩
        · rw [Decoder.closeField_orphan (hyidentity.trans hid), hytallies]
          exact ⟨rfl, rfl⟩
        · rw [Decoder.closeField_misplaced (hyidentity.trans hid)]
          exact ⟨rfl, hytallies⟩
        · rw [Decoder.closeField_sector (hyidentity.trans hid)]
          obtain ⟨hdata, hconfidences, hrecorded⟩ := Decoder.readingOf_whole (d := y) (e := e) (n := n)
            (deposits := block.reverse) (by rw [List.length_reverse]; exact hall)
          exact ⟨hytallies, _, rfl, by rw [← hytrack]; rfl, rfl, hypass, hyclass, rfl, hdata, hconfidences, rfl, hrecorded,
            Decoder.readingOf_checkOk, hyviolations, hyclamped⟩

end Sys2Proof.Machine
end


/-! # Reverse blocks (R80 to R82, R85, R86) -/

section
/-! PROOF. O20: a reverse block opened, its bytes, its end at the mark byte, and one cut short. -/

namespace Sys2Proof.Machine

theorem Decoder.cutShort_blockRev {d : Decoder} {e : DecoderEnv} (hst : d.state = .blockRev) :
    d.cutShort e = (({ d with tallies := d.tallies.countOrphan } : Decoder).toHunt, none) := by
  simp only [Decoder.cutShort, hst]

/-- A mark byte of no field is of no class, or a header's (R6, R82). -/
theorem classifyMark_noData {p : Profile} {b : Byte}
    (h : ¬ (¬ p.headerMark.fits b = true ∧ (p.dataMark.fits b = true ∨ p.deletedMark.fits b = true))) :
    classifyMark p b = none ∨ classifyMark p b = some none := by
  by_cases hh : p.headerMark.fits b = true
  · exact .inr (Decoder.classifyMark_header hh)
  · exact .inl (Decoder.classifyMark_none hh (fun hd => h ⟨hh, .inl hd⟩) fun hx => h ⟨hh, .inr hx⟩)

/-- The class of a field's mark byte (R6). -/
theorem classifyMark_field {p : Profile} {b : Byte} (hh : ¬ p.headerMark.fits b = true)
    (h : p.dataMark.fits b = true ∨ p.deletedMark.fits b = true) :
    ∃ cls, classifyMark p b = some (some cls) ∧ (p.dataMark.fits b = true → cls = .data) ∧
      (¬ p.dataMark.fits b = true → cls = .deleted) := by
  by_cases hd : p.dataMark.fits b = true
  · exact ⟨_, Decoder.classifyMark_data hh hd, fun _ => rfl, fun hno => absurd hd hno⟩
  · exact ⟨_, Decoder.classifyMark_deleted hh hd (h.resolve_left hd), fun hyes => absurd hyes hd, fun _ => rfl⟩

/-- A reverse block ended leaves HUNT, whatever it gives (R82). -/
theorem Decoder.endReverseBlock_toHunt (d : Decoder) (e : DecoderEnv) : (d.endReverseBlock e).1.state = .hunt ∧
    (d.endReverseBlock e).1.syncRun = 0 ∧ (d.endReverseBlock e).1.block = [] := by
  unfold Decoder.endReverseBlock
  dsimp only
  split
  · exact ⟨rfl, rfl, rfl⟩
  · exact ⟨rfl, rfl, rfl⟩
  · split
    · obtain ⟨hstate, hrun, -, hblock, -⟩ := Decoder.closeField_toHunt _ e d.block false
      exact ⟨hstate, hrun, hblock⟩
    all_goals exact ⟨rfl, rfl, rfl⟩

/-- Settles O20: a reverse block from its end pattern to its mark byte, and a truncated one. -/
theorem reverseBlockTruncated : Obligations.ReverseBlockTruncated := by
  refine ⟨fun d e hst => ?_, fun d e c hmedium hend => ?_⟩
  · rw [Decoder.dropout, Decoder.cutShort_blockRev hst]
    exact ⟨rfl, rfl, rfl, rfl, rfl, rfl, rfl, rfl⟩
  · intro p t checkLength start whole cells perByte block
    have hper : cellsPerByte p.encoding = perByte := cellsPerByte_eq p
    have hcheck : checkLength = checkBytes p := (checkBytes_eq p).symm
    have hstart : start = dataStart p := by rw [dataStart_eq, if_pos hmedium, ← hcheck]
    have hwhole : whole = blockLength p := by rw [blockLength, ← hstart, ← hcheck]
    rw [hwhole, hstart]
    refine ⟨fun hst hdir => ?_, fun hst => ?_⟩
    · intro mirrored
      have ht : t = _ := (Decoder.takeCell_hunt hst).trans (Decoder.huntCell_reverse hdir hend)
      by_cases hmirrored : mirrored
      · rw [if_pos (by exact hmirrored)] at ht
        rw [ht]
        exact ⟨rfl, rfl, fun _ => ⟨rfl, rfl, rfl, rfl, rfl, rfl⟩, fun h => absurd hmirrored h⟩
      · rw [if_neg (by exact hmirrored)] at ht
        rw [ht]
        exact ⟨rfl, rfl, fun h => absurd h hmirrored, fun _ => ⟨hst, rfl⟩⟩
    · obtain ⟨x, hxeq⟩ : ∃ x, (d.push c).countAt e.profile c = x := ⟨_, rfl⟩
      have hx : d.Counts p c x := hxeq ▸ d.counts_countAt e.profile c
      have hcells : x.assembly ++ [c] = cells := by rw [hx.assembly]
      have ht : t = d.reverseCell e c := Decoder.takeCell_blockRev hst
      have hxst : x.state = .blockRev := hx.state.trans hst
      obtain ⟨y, hy⟩ : ∃ y, x.depositedBelow (reverseBlockByte p cells) = y := ⟨_, rfl⟩
      have hyblock : y.block = block := by rw [← hy]; exact congrArg _ hx.block
      have hycursor : y.cursor = d.cursor - 1 := by rw [← hy]; exact congrArg (· - 1) hx.cursor
      have hyst : y.state = .blockRev := by rw [← hy]; exact hxst
      have hyassembly : y.assembly = [] := by rw [← hy]; rfl
      have hytallies : y.tallies = d.tallies := by rw [← hy]; exact hx.tallies
      obtain ⟨hytrack, hypass⟩ : y.track = d.track ∧ y.passNumber = d.passNumber := by
        rw [← hy]; exact ⟨hx.pass.1, hx.pass.2.1⟩
      have huncounted : d.cursor < (dataStart p : Int) → y.violations = d.violations ∧ y.clamped = d.clamped := by
        intro hlt
        have hno : ¬ (dataStart p : Int) ≤ d.cursor := Int.not_le.mpr hlt
        rw [← hy]
        refine ⟨hx.violations.trans (if_neg fun h => hno h.1), ?_⟩
        rw [Bool.eq_iff_iff]
        exact hx.clamped.trans (or_iff_left fun h => hno h.1)
      have hdeposits : perByte ≤ cells.length → d.reverseCell e c = _ := fun hfull =>
        Decoder.reverseCell_deposits (y := y) hxeq (by rw [hcells, hper]; exact hfull) (by rw [hcells]; exact hy)
      rw [hyblock] at hdeposits
      rw [ht]
      refine ⟨?_, fun hshort => ?_, fun hfull hno => ?_, fun hfull hall => ?_⟩
      · rcases Nat.lt_or_ge cells.length perByte with hshort | hfull
        · rw [Decoder.reverseCell_collects hxeq (by rw [hcells, hper]; exact hshort)]
          rfl
        · rw [hdeposits hfull]
          split <;> rfl
      · rw [Decoder.reverseCell_collects hxeq (by rw [hcells, hper]; exact hshort)]
        exact ⟨rfl, hxst, hcells, hx.block⟩
      · rw [hdeposits hfull.ge, if_neg hno]
        exact ⟨rfl, hyst, hyassembly, hyblock, hycursor⟩
      · rw [hdeposits hfull.ge, if_pos hall]
        intro bytes fits dataMark
        have hfits : ∀ m, m.fits (bytes.headD 0) = true ↔ fits m := fun m => Decoder.fits_iff
        have hmark : (y.block.map (·.byte)).headD 0 = bytes.headD 0 := by rw [hyblock]
        obtain ⟨hstate, hrun, hempty⟩ := y.endReverseBlock_toHunt e
        refine ⟨hstate, hrun, hempty, fun hno => ?_, fun ⟨hh, hfield⟩ => ?_⟩
        · rw [Decoder.endReverseBlock_noData hmark (classifyMark_noData (by simp only [hfits]; exact hno))]
          exact ⟨rfl, hytallies⟩
        · obtain ⟨cls, hclass, hisData, hisDeleted⟩ := classifyMark_field (fun h => hh ((hfits _).mp h))
            (hfield.imp (hfits _).mpr (hfits _).mpr)
          have hrejected : ∀ test, testHeader p d.track bytes = test →
              (test = .badHeader ∨ test = .wrongTrack ∨ test = .outOfGeometry) →
              (y.endReverseBlock e).2 = none ∧ (y.endReverseBlock e).1.tallies = d.tallies.countHeader test := by
            intro test htest hreject
            rw [Decoder.endReverseBlock_rejected hmark hclass (by rw [hyblock, hytrack]; exact htest) hreject, hytallies]
            exact ⟨rfl, rfl⟩
          refine ⟨fun htest => hrejected _ htest (.inl rfl), fun htest => hrejected _ htest (.inr (.inl rfl)),
            fun htest => hrejected _ htest (.inr (.inr rfl)), fun h n htest hn => ?_⟩
          rw [Decoder.endReverseBlock_accepted hmark hclass (by rw [hyblock, hytrack]; exact htest) hn,
            Decoder.closeField_sector (by exact rfl), hyblock, hytallies]
          obtain ⟨hdataBytes, hconfidences, hrecorded⟩ := Decoder.readingOf_whole (e := e) (n := n) (deposits := block)
            (d := { y with tallies := d.tallies.countHeader (.accepted h), markClass := cls, identity := .sector n }) hall
          refine ⟨rfl, _, rfl, by rw [← hytrack]; rfl, rfl, hypass, fun hd => hisData ((hfits _).mpr hd),
            fun hd => hisDeleted fun h => hd ((hfits _).mp h), rfl, hdataBytes, hconfidences, rfl, hrecorded,
            Decoder.readingOf_checkOk, huncounted⟩

end Sys2Proof.Machine
end
